-- ==== Sys2Proof/Word.lean ====
section
/-!
DEFINITION. The word types of the model: bytes, register words, double words, sparse maps and
byte memories. Nothing here depends on a command.
-/
namespace Sys2Proof

/-- A byte of memory, of a frame or of a record. -/
abbrev Byte := BitVec 8

/-- A 16-bit word: a BF16 or FP16 encoding, a device number in a list. -/
abbrev Half := BitVec 16

/-- A 32-bit register word, FP32 or Twill-32 encoding (R304, R126). -/
abbrev Word := BitVec 32

/-- A 64-bit word: an oar instruction (R87), a stamp (R401), a CRC-64 (R240). -/
abbrev DWord := BitVec 64

/-- Sparse data by key, keys strictly rising. -/
abbrev AMap (α : Type) := List (Nat × α)

/-- A byte memory: address and byte pairs, addresses strictly rising, no byte 0 listed; an
unlisted address reads 0. -/
abbrev Memory := List (Nat × BitVec 8)

/-- Seal time in units of 0.25 ns (R401); durations use the same unit. -/
abbrev Time := Nat

/-- Nanoseconds in units of seal time (R401). -/
def ns (n : Nat) : Time := 4 * n

end Sys2Proof
end

