-- ==== Sys2Proof/Syntax.lean ====
section
/-!
DEFINITION. The commands of the block: one constructor of `Instr` for each row of
spec/opcode_table.json. The table gives no operands; they are chosen here from the rule of each
row (assumption log 2): what the event comes from outside with, and which unit it concerns.
-/
namespace Sys2Proof

/-- The two ports that reach the register pages (R309, R312). -/
inductive Port where
  | pcie
  | mgmt
deriving DecidableEq, Repr

/-- A place in the package: die, shell coordinates, unit and sub-unit (R221, R222). -/
structure Place where
  die : Nat
  sx : Nat
  sy : Nat
  unit : Nat
  sub : Nat
deriving DecidableEq, Repr

/-- A packet inside the module (R221): the header's fields and the data flits' bytes. -/
structure Pkt where
  dest : Place
  mc : Bool
  src : Place
  cmd : Nat
  vc : Nat
  dl : Bool
  crew : Nat
  status : Nat
  heat : Nat
  tag : Nat
  addr : Nat
  arg : Nat
  data : List Byte
deriving DecidableEq, Repr

/-- A packet on a Henac link (R242): device numbers and CTX in place of package places. -/
structure HPkt where
  dest : Nat
  ctx : Nat
  mc : Bool
  src : Nat
  cmd : Nat
  vc : Nat
  dl : Bool
  crew : Nat
  status : Nat
  heat : Nat
  tag : Nat
  addr : Nat
  arg : Nat
  data : List Byte
deriving DecidableEq, Repr

/-- What a far end sends at identity exchange, training step 3 (R246, R247). -/
structure Identity where
  stern : Bool
  system : Nat
  dev : Nat
  coord : Nat
  link : Nat
  features : Nat
  heatLength : Nat
  heatOrigin : Nat
  heatBase : Nat
  stage : Nat
  latency : Nat
deriving DecidableEq, Repr

/-- A digest record as it arrives on the twin port (R382, R385). -/
structure DigestMsg where
  tx : Nat
  heat : Nat
  nDec : Nat
  nSum : Nat
  dec : Nat
  sum : Nat
  cfg : Nat
deriving DecidableEq, Repr

/-- A token's identity on both twins (R383). -/
structure TokenId where
  heat : Nat
  port : Nat
  ordinal : Nat
  msg : Nat
deriving DecidableEq, Repr

/-- The commands of a CONTROL message (R382). -/
inductive Control where
  | detach
  | unfence
  | reattach
deriving DecidableEq, Repr

/-- What comes with a service datagram (R416, R417): its REQID, the level of SEAL_SVC_N sampled at
its receipt, and the seal time of the receipt. -/
structure Svc where
  reqid : Nat
  svcLow : Bool
  t : Time
deriving DecidableEq, Repr

/-- A command of the block: one row of spec/opcode_table.json. Times `t` are seal times. -/
inductive Instr where
  -- heat, sprint and event ports (chapters 01 to 03)
  | heatBoundary
  | holdWindowOpen
  | retiringSetRelease (group : Nat) (t : Time)
  | timeOkRise (t : Time)
  | cut (heat count0 count1 tx rx : Nat)
  | cutLate (t : Time)
  | frameIngress (port : Nat) (t : Time)
  | frameHeaderParse (port : Nat) (bytes : List Byte)
  | parserSkip (port : Nat)
  | parserLoad (port : Nat)
  | parserAlu (port : Nat)
  | parserField (port : Nat)
  | parserMeta (port : Nat)
  | parserBranch (port : Nat)
  | parserEmit (port : Nat) (t : Time)
  | parserEnd (port : Nat)
  | frameCheck (port : Nat) (fcs : Word) (t : Time)
  | streamLookup (t : Time)
  | sprintQueryForm (tag : Nat)
  | sprintPartialCompute (group tag : Nat) (weft : Bool) (unit : Nat) (ecc : Bool)
  | sprintPartialReady (group tag : Nat) (weft : Bool)
  | treeFold (node : Nat)
  | sprintLayerComplete (tag : Nat)
  | decisionBuild (tag : Nat)
  | decisionReady (tag : Nat) (t : Time)
  | deadlinePass (tag : Nat) (t : Time)
  | vc0WindowStart (t : Time)
  | sprintDisarmDone
  | egressStamp (port : Nat) (t : Time)
  | parseTblDataAccess (p : Port) (write : Bool) (val : Word)
  | tblSwap (p : Port) (val : Word)
  | parseRefillDone
  -- the oar grid (chapter 04)
  | oarNop (die oar : Nat)
  | oarMma (die oar : Nat)
  | oarVec (die oar : Nat)
  | oarSfn (die oar : Nat)
  | oarMove (die oar : Nat)
  | oarLoop (die oar : Nat)
  | oarSync (die oar : Nat)
  | oarSetcr (die oar : Nat)
  | oarCond (die oar : Nat)
  | oarSeat (die oar : Nat)
  | oarHalt (die oar : Nat)
  | oarUnitDone (die oar unit : Nat) (ecc : Bool)
  | steeringMove (die shell entry : Nat)
  | seatImageArrival (die oar : Nat)
  | seatSwitch (die shell : Nat)
  | watchdogExpiry (die shell : Nat)
  | drain (p : Port) (die : Nat)
  | drainComplete (die : Nat)
  | drainTimeout (die : Nat)
  | resume (p : Port) (die : Nat)
  | snap (p : Port) (die : Nat)
  | gridClr (p : Port) (die : Nat)
  | creditReturn (die oar iq : Nat)
  -- tiles and numbers (chapters 05, 06)
  | xferUnit (die list : Nat) (ecc : Bool)
  | storeUnit (die list : Nat)
  | cacheLineFill (die crew addr : Nat)
  | tileClr (p : Port) (die : Nat)
  | numfClr (p : Port)
  -- attention (chapter 09)
  | passStart (die shell : Nat)
  | passComplete (die shell : Nat)
  | probabilityTileWrite (die shell : Nat)
  | walkComplete (die shell bolt : Nat)
  | attnClr (p : Port)
  -- tiers (chapter 10)
  | migrationCopyDone (slot : Nat)
  | sourceRelease (crew obj : Nat)
  | tierTimerExpiry (slot : Nat)
  | tierReply (slot : Nat) (write : Bool) (unit : Nat) (bad : Bool)
  | channelOutOfService (tier ch : Nat)
  | loomWearLevelling (worn least ch : Nat) (t : Time)
  | loomReadDisturbRefresh (block fresh reads corrected ch : Nat) (t : Time)
  | loomProgramFail (block spare : Nat)
  | tierClr (p : Port)
  -- the package network (chapter 11)
  | meshHop (die router inp vc ecc : Nat)
  | ringHop (stop : Nat) (down : Bool) (vc : Nat) (dl : Bool) (ecc : Nat)
  | linkCreditReturn (queue : Nat)
  | qdata (pkt : Pkt)
  | qend (pkt : Pkt)
  | rdReq (slot : Option Nat) (pkt : Pkt)
  | rdResp (pkt : Pkt)
  | wrReq (slot : Option Nat) (pkt : Pkt)
  | wrAck (pkt : Pkt)
  | regRd (pkt : Pkt)
  | regRdResp (pkt : Pkt)
  | regWr (pkt : Pkt)
  | regWrAck (pkt : Pkt)
  | sprintPacket (pkt : HPkt)
  | collPacket (pkt : HPkt)
  | xchgPacket (pkt : HPkt)
  | faultNotice (pkt : Pkt)
  | errResp (pkt : Pkt)
  | netTimeout (die tag : Nat)
  | tagQuarantineEnd (die tag : Nat)
  | domainWake (die shell : Nat)
  | domainSleep (die shell : Nat)
  | netClr (p : Port) (die : Nat)
  -- Henac links (chapter 12)
  | henacFrameSend (link : Nat)
  | henacFrameReceive (link : Nat) (lanes : List (List Byte)) (errs : List Nat)
  | linkEnable (p : Port) (link : Nat)
  | retrain (p : Port) (link : Nat)
  | receiverAdaptationDone (link : Nat) (laneBad : Bool) (farRefuse : Nat)
  | frameLock (link : Nat)
  | identityExchange (link : Nat) (far : Identity) (farRefuse : Nat)
  | recalibration (link : Nat) (t : Time)
  | recalibrationEnd (link : Nat) (far : Bool)
  | linkClr (p : Port) (link : Nat)
  -- groups and collectives (chapter 13)
  | groupWrite (slot : Nat)
  | sumRoot (slot : Nat)
  | sumAll (slot : Nat)
  | bcast (slot : Nat)
  | barrier (slot : Nat)
  | xchgEq (slot : Nat)
  | xchgCounts (slot : Nat)
  | xchgPad (slot : Nat)
  | rotate (slot : Nat)
  | treeOpStart (slot : Nat)
  | collAbort (p : HPkt)
  | collTimerExpiry (slot : Nat)
  | collClr (p : Port)
  -- host queues and commands (chapter 14)
  | sqDoorbell (crew sq val : Nat)
  | cqDoorbell (crew cq val : Nat)
  | commandFetch (entry : List Byte) (ecc : Bool)
  | waitMet (slot : Nat)
  | completionWrite (slot : Nat)
  | progStart (slot : Nat)
  | xfer (slot : Nat)
  | attn (slot : Nat)
  | alloc (slot : Nat)
  | free (slot : Nat)
  | migrate (slot : Nat)
  | tierCopy (slot : Nat)
  | sprintWrite (slot : Nat)
  | sprintReady (slot : Nat)
  | boltInval (slot : Nat)
  | hostCopy (slot : Nat) (data : List Byte)
  | readoutLoad (slot : Nat)
  | streamOpen (slot : Nat)
  | streamAdv (slot : Nat)
  | streamClose (slot : Nat)
  | ctrSet (slot : Nat)
  | ctrAdd (slot : Nat)
  | ctrRead (slot : Nat)
  | nopCommand (slot : Nat)
  | tableLoad (slot : Nat)
  | hostClr (p : Port)
  -- crews (chapter 15, R364)
  | perst (level : Bool)
  | functionLevelReset (crew : Nat)
  | crewReset (p : Port) (mask : Nat)
  | crewResetFinish (crew : Nat)
  | crewResetForce (crew : Nat)
  | scrub (p : Port) (mask : Nat)
  -- registers, transactions and the management port (chapters 16, 17)
  | registerWrite (p : Port) (off : Nat) (val : Word)
  | unmappedAccess (p : Port) (write : Bool) (off : Nat)
  | loLatchRead (p : Port) (off : Nat)
  | xactBegin (p : Port) (tag : Nat)
  | xactCommit (p : Port) (tag : Nat)
  | xactAbort (p : Port) (tag : Nat)
  | xactIdleExpiry
  | mgmtWrite (frame : List Byte)
  | mgmtTransactionalWrite (frame : List Byte)
  | mgmtSetReadPointer (frame : List Byte)
  | mgmtRead (addr : Byte)
  | mgmtFrameDiscard (frame : List Byte) (cut : Bool)
  | mgmtReadTimeout (addr : Byte)
  | mgmtBusTimeout
  | mgmtClr (p : Port)
  | warmReset (p : Port) (val : Word)
  | featureLock (p : Port)
  | heatClr (p : Port)
  | powerClr (p : Port)
  | errorClr (p : Port)
  | sprintClrCounters (p : Port)
  | eportClrCounters (p : Port) (port : Nat)
  -- resets, power, clocks and start-up (chapters 18, 19)
  | resetNAssert
  | resetRelease (straps : Nat)
  | railsOkFall
  | vddFabLow
  | sealVddLoss (t : Time)
  | sagWarning (dies : Nat)
  | sagWarningRelease
  | sagReset (dies : Nat)
  | sagResetRelease
  | thermalTrip (t : Time)
  | telemetrySampling (temps : List Nat) (t : Time)
  | clockLoss (bit : Nat)
  | referenceReturn
  | diePowerUpDone (die : Nat)
  | firmwareBoot (slotA slotB : List Byte)
  | memoryTrainingDone (hbmBad ddrBad onfiBad ddrUnits rawUnits rawBlocks spares makerBad : Nat)
  | computeReady
  | twinStageTimeout
  -- twins (chapter 20)
  | digest (msg : DigestMsg) (rx : Time)
  | digestMissing
  | cbeDigest (id : TokenId) (emit : Bool) (entry : DWord) (t : Time)
  | cbeLate (id : TokenId) (t : Time)
  | cbeTimeout (tag : Nat) (t : Time)
  | swap (exchanged : List Nat)
  | control (c : Control) (stern : Bool) (slices : Nat)
  | resyncUnit (area unit group layer bolt kvhead : Nat) (slice : List Byte)
  | detach (p : Port)
  | reattach (p : Port)
  | unfence (p : Port)
  | twinClr (p : Port)
  | peerTimeRead (reads : List (Nat × Nat × Nat × Nat))
  -- the seal (chapter 21)
  | tapMessage (t : Time)
  | aggregateReport (t : Time)
  | recordFormation (t : Time)
  | blockAgeExpiry (t : Time)
  | blockSigned
  | ledgerReplay (p : Port) (val : Word)
  | summaryRecord (t : Time)
  | sealMeasurement (t : Time) (offset : Int)
  | referenceTimeout (t : Time)
  | timeCopyValid (t : Time)
  | sealStatus (q : Svc)
  | sealReadBlock (q : Svc) (number : Nat)
  | sealReadKey (q : Svc)
  | sealWriteConfig (q : Svc) (image : List Byte)
  | sealFwChunk (q : Svc) (offset : Nat) (body : List Byte)
  | sealFwCommit (q : Svc)
  | sealTod (q : Svc) (second : Nat)
  | sealReset (t : Time)
  | sealRestart (t : Time) (kept : Bool)
  -- background activities (chapter 22)
  | slackWindowOpen (t : Time)
  | activityOverdue (activity unit : Nat) (t : Time)
  | t1EccScrub (die : Nat) (bad : Option Nat) (t : Time)
  | t2EccScrub (site : Nat) (bad : Option Nat) (t : Time)
  | thermalCalibration (die : Nat) (t : Time)
  -- events of start-up and of the seal's pin
  | eportLinkUp (port : Nat)
  | hostLinkUp (width speed : Nat)
  | oarPllLockTimeout (die : Nat)
  | sealPpsOutFall
deriving DecidableEq, Repr

end Sys2Proof
end

