-- ==== Sys2Proof/Decode.lean ====
section
/-!
DEFINITION. Words that spell a command: the table gives no row any bits, so no word spells one.
-/
namespace Sys2Proof

/-- The command that a word spells by the table's bits: none, for the table gives bits to no row.
DESIGN CHOICE (assumption log 8). -/
def decodeTableWord (_nbits _w : Nat) : Option Instr := none

end Sys2Proof
end

