-- ==== Sys2Proof/Config.lean ====
section
/-!
DEFINITION. What an implementation or a manufacture fixes, and the free values: constants with no
body, so that no proof can see a value of them.
-/
namespace Sys2Proof.Config
open Sys2Proof

/-- Silicon stepping of the fabric die, `GLOBAL.ID.STEPPING` (R328). DESIGN CHOICE (assumption log
7). -/
opaque stepping : Nat
/-- Module serial number, `GLOBAL.SERIAL` (R328). DESIGN CHOICE (assumption log 7). -/
opaque serial : Nat
/-- SHA-256 of the accepted firmware key, fused into the fabric die (R369). DESIGN CHOICE
(assumption log 7). -/
opaque fusedKeyHash : List Byte
/-- Fused minimum security version (R369). DESIGN CHOICE (assumption log 7). -/
opaque fusedMinSvn : Nat
/-- SHA-256 of the accepted seal firmware key, fused into the seal die (R416). DESIGN CHOICE
(assumption log 7). -/
opaque sealKeyHash : List Byte
/-- Fused minimum security version of the seal's images (R416 checks as R369 does). DESIGN CHOICE
(assumption log 7). -/
opaque sealMinSvn : Nat
/-- The seal's Ed25519 public key (R414). DESIGN CHOICE (assumption log 7). -/
opaque sealPublicKey : List Byte
/-- The Ed25519 signature by the seal's private key over a message (R412). DESIGN CHOICE
(assumption log 7). -/
opaque sealSign : List Byte → List Byte
/-- Ed25519 verification of a signature by a public key over a message (R369): key, message,
signature. DESIGN CHOICE (assumption log 7). -/
opaque verifySignature : List Byte → List Byte → List Byte → Bool
/-- The firmware version of the seal's first image (R420). DESIGN CHOICE (assumption log 7). -/
opaque sealFirstVersion : Nat
/-- The strobe latencies and the rest of the configuration image written at manufacture (R418).
DESIGN CHOICE (assumption log 7). -/
opaque sealFirstConfig : List Byte
/-- The verification counter's fuses when the model starts (R417). DESIGN CHOICE (assumption log
7). -/
opaque sealFuses : Nat
/-- Free location of a newly placed object or migration destination (R205): maintained by
hardware, no rule of choice given. Argument: the counter `State.free`. DESIGN CHOICE
(assumption log 6). -/
opaque freeLocation : Nat → Nat
/-- Free byte: the contents of memory the specification gives no value. Argument: the counter.
DESIGN CHOICE (assumption log 6). -/
opaque freeByte : Nat → Byte
/-- Free word: a value that a rule leaves undefined. Argument: the counter. DESIGN CHOICE
(assumption log 6). -/
opaque freeWord : Nat → Word

/-- The parity of a Reed–Solomon codeword RS(224,210) over GF(2^8) from its 210 message bytes (R240), of
which no rule gives the field or the generator. DESIGN CHOICE (assumption log 91). -/
opaque rsParity : List Byte → List Byte

/-- The number from which the model takes how many sets a T1 cache has (R119), which no rule gives. DESIGN
CHOICE (assumption log 6). -/
opaque t1Sets : Nat
/-- The set of a T1 cache to which a line belongs (R119), which no rule gives. Argument: crew × 2^60 +
unified address of the line. DESIGN CHOICE (assumption log 6). -/
opaque t1Set : Nat → Nat

end Sys2Proof.Config
end

