-- ==== Sys2Proof/Machine/Maps.lean ====
section
/-!
DEFINITION. Sparse maps with strictly rising keys and byte memories in canonical form: look-up,
writing, removal, ranges, and the little-endian fields built from bytes (R4).
-/
namespace Sys2Proof.Machine
open Sys2Proof

/-- The value a map holds at a key. -/
def mget {α : Type} : AMap α → Nat → Option α
  | [], _ => none
  | (k', v) :: r, k => if k = k' then some v else mget r k

/-- The value at a key, or a default. -/
def mgetD {α : Type} (m : AMap α) (k : Nat) (d : α) : α := (mget m k).getD d

/-- Set the value at a key, keeping the keys rising. -/
def mset {α : Type} : AMap α → Nat → α → AMap α
  | [], k, v => [(k, v)]
  | (k', v') :: r, k, v =>
    if k < k' then (k, v) :: (k', v') :: r
    else if k = k' then (k, v) :: r
    else (k', v') :: mset r k v

/-- Remove a key. -/
def mdel {α : Type} : AMap α → Nat → AMap α
  | [], _ => []
  | (k', v') :: r, k => if k = k' then mdel r k else (k', v') :: mdel r k

/-- Change the value at a key, where there is one. -/
def mmod {α : Type} (m : AMap α) (k : Nat) (f : α → α) : AMap α :=
  match mget m k with
  | some v => mset m k (f v)
  | none => m

/-- Keep the entries a predicate admits. -/
def mfilter {α : Type} (m : AMap α) (p : Nat → α → Bool) : AMap α := m.filter fun e => p e.1 e.2

/-- Change every value. -/
def mmapv {α : Type} (m : AMap α) (f : Nat → α → α) : AMap α := m.map fun e => (e.1, f e.1 e.2)

/-- Set every key of a second map to its value there. -/
def msetAll {α : Type} (m : AMap α) (l : AMap α) : AMap α :=
  l.foldr (fun e m => mset m e.1 e.2) m

/-- Keys strictly rising. -/
def keysRising {α : Type} : AMap α → Bool
  | [] => true
  | [_] => true
  | (k, _) :: (k', v') :: r => decide (k < k') && keysRising ((k', v') :: r)

/-- A memory's canonical form: addresses strictly rising, no byte equal to what an unlisted
address reads as. DESIGN CHOICE (assumption log 5). -/
def memWf (m : Memory) : Bool := keysRising m && m.all fun e => e.2 != 0

/-- A byte of memory; an unlisted address reads 0. DESIGN CHOICE (assumption log 5). -/
def rdB (m : Memory) (a : Nat) : Byte := (mget m a).getD 0

/-- Write a byte, keeping the canonical form. DESIGN CHOICE (assumption log 5). -/
def wrB (m : Memory) (a : Nat) (b : Byte) : Memory := if b = 0 then mdel m a else mset m a b

/-- `n` bytes from an address on. -/
def rdBytes (m : Memory) (a : Nat) : Nat → List Byte
  | 0 => []
  | n + 1 => rdB m a :: rdBytes m (a + 1) n

/-- Write bytes from an address on, in ascending order. -/
def wrBytes (m : Memory) (a : Nat) : List Byte → Memory
  | [] => m
  | b :: r => wrBytes (wrB m a b) (a + 1) r

/-- Make the range from `lo` up to but not including `hi` read 0. -/
def zeroRange (m : Memory) (lo hi : Nat) : Memory :=
  mfilter m fun k _ => decide (k < lo) || decide (hi ≤ k)

/-- The number that bytes spell, least significant byte first (R4). -/
def leNat : List Byte → Nat
  | [] => 0
  | b :: r => b.toNat + 256 * leNat r

/-- The number that bytes spell in network order. -/
def beNat (l : List Byte) : Nat := l.foldl (fun a b => 256 * a + b.toNat) 0

/-- `k` bytes of a number, least significant first. -/
def toLE (n : Nat) : Nat → List Byte
  | 0 => []
  | k + 1 => BitVec.ofNat 8 n :: toLE (n / 256) k

/-- `k` bytes of a number in network order. -/
def toBE (n k : Nat) : List Byte := (toLE n k).reverse

/-- Little-endian number of `n` bytes of memory. -/
def rdLE (m : Memory) (a n : Nat) : Nat := leNat (rdBytes m a n)

/-- Bits [hi:lo] of a number (R3). -/
def bits (n hi lo : Nat) : Nat := n / 2 ^ lo % 2 ^ (hi + 1 - lo)

/-- One bit of a number. -/
def bit (n i : Nat) : Bool := n / 2 ^ i % 2 = 1

/-- 1 for true. -/
def b2n (b : Bool) : Nat := if b then 1 else 0

/-- A number with bits [hi:lo] replaced by a value. -/
def putBits (n hi lo v : Nat) : Nat :=
  n - bits n hi lo * 2 ^ lo + v % 2 ^ (hi + 1 - lo) * 2 ^ lo

/-- A two's-complement reading of the low `w` bits. -/
def signed (w n : Nat) : Int :=
  let v := n % 2 ^ w
  if v < 2 ^ (w - 1) then (v : Int) else (v : Int) - (2 ^ w : Nat)

/-- The low `w` bits of an integer, as a number. -/
def unsigned (w : Nat) (i : Int) : Nat := (i % (2 ^ w : Nat)).toNat

/-- Numbers `lo`, `lo + 1`, … below `hi`. -/
def span (lo hi : Nat) : List Nat := (List.range (hi - lo)).map (· + lo)

/-- The bytes of a list from an offset on, padded with zeros to a length. -/
def slice (l : List Byte) (off n : Nat) : List Byte :=
  let p := (l.drop off).take n
  p ++ List.replicate (n - p.length) 0

/-- Little-endian field of a byte list. -/
def fld (l : List Byte) (off n : Nat) : Nat := leNat (slice l off n)

/-- Replace bytes of a list at an offset. -/
def putSlice (l : List Byte) (off : Nat) (b : List Byte) : List Byte :=
  slice l 0 off ++ b ++ l.drop (off + b.length)

/-- The places of the ones among the low `n` bits. -/
def onesOf (mask n : Nat) : List Nat := (List.range n).filter (bit mask)

/-- Insert before the first element that is not below, keeping a sorted list sorted. -/
def insertBy {α : Type} (le : α → α → Bool) (x : α) : List α → List α
  | [] => [x]
  | y :: r => if le x y then x :: y :: r else y :: insertBy le x r

/-- Sort a list, equal elements staying in order. -/
def sortBy {α : Type} (le : α → α → Bool) (l : List α) : List α := l.foldr (insertBy le) []

/-- Cut a list into pieces of `k` (the last may be shorter), at most `fuel` of them. -/
def chunksFuel {α : Type} (k : Nat) : Nat → List α → List (List α)
  | 0, _ => []
  | _, [] => []
  | f + 1, l => l.take k :: chunksFuel k f (l.drop k)

/-- Cut a list into pieces of `k`. -/
def chunks {α : Type} (k : Nat) (l : List α) : List (List α) := chunksFuel k l.length l

end Sys2Proof.Machine
end

