-- ==== Sys2Proof/Machine/Checks.lean ====
section
/-!
DEFINITION. Check codes and digests that the specification names: CRC-8 of management frames
(R318), CRC-32 of IEEE 802.3 frames (R52, R53), CRC-32C (R260), CRC-64 (R240), the Internet
checksum (R52, R72) and SHA-256 (R369, R411, R412).
-/
namespace Sys2Proof.Machine
open Sys2Proof

/-- One bit step of a reflected CRC. -/
def crcStep {w : Nat} (poly : BitVec w) (c : BitVec w) : BitVec w :=
  if c.getLsbD 0 then (c >>> 1) ^^^ poly else c >>> 1

/-- A reflected CRC over bytes, least significant bit first, initial value all ones, inverted at
the end; `poly` is the reflected polynomial. -/
def crcRefl {w : Nat} (poly : BitVec w) (l : List Byte) : BitVec w :=
  ~~~ (l.foldl (fun c b => (List.range 8).foldl (fun c _ => crcStep poly c)
    (c ^^^ b.setWidth w)) (BitVec.allOnes w))

/-- The CRC-32 of IEEE 802.3. PRESUMED: the polynomial of that standard (assumption log 9). -/
def crc32 (l : List Byte) : Word := crcRefl 0xEDB88320#32 l

/-- CRC-32C (R260): polynomial 0x1EDC_6F41, reflected. -/
def crc32c (l : List Byte) : Word := crcRefl 0x82F63B78#32 l

/-- CRC-64 (R240): ECMA-182 polynomial 0x42F0_E1EB_A9EA_3693, bits least significant first. -/
def crc64 (l : List Byte) : DWord := crcRefl 0xC96C5795D7870F42#64 l

/-- CRC-8 (R318): polynomial 0x07, initial value 0, no reflection, no inversion. -/
def crc8 (l : List Byte) : Byte :=
  l.foldl (fun c b => (List.range 8).foldl
    (fun c _ => if c.getLsbD 7 then (c <<< 1) ^^^ 0x07#8 else c <<< 1) (c ^^^ b)) 0

/-- The ones-complement sum of 16-bit words in network order, an odd last byte padded with 0. -/
def onesSum : List Byte → Nat
  | [] => 0
  | [a] => a.toNat * 256
  | a :: b :: r => a.toNat * 256 + b.toNat + onesSum r

/-- Fold a ones-complement sum to 16 bits. -/
def fold16 (n : Nat) : Nat :=
  let a := n % 65536 + n / 65536
  let b := a % 65536 + a / 65536
  b % 65536 + b / 65536

/-- The Internet checksum of bytes: the complement of the folded sum. -/
def inetSum (l : List Byte) : Nat := 65535 - fold16 (onesSum l)

/-- The primes below 312, from which SHA-256 takes its constants. -/
def shaPrimes : List Nat :=
  [2, 3, 5, 7, 11, 13, 17, 19, 23, 29, 31, 37, 41, 43, 47, 53]
  ++ [59, 61, 67, 71, 73, 79, 83, 89, 97, 101, 103, 107, 109, 113, 127, 131]
  ++ [137, 139, 149, 151, 157, 163, 167, 173, 179, 181, 191, 193, 197, 199, 211, 223]
  ++ [227, 229, 233, 239, 241, 251, 257, 263, 269, 271, 277, 281, 283, 293, 307, 311]

/-- The greatest number below 2^bits whose k-th power is at most n. -/
def rootK (k n bits : Nat) : Nat :=
  (List.range bits).foldl (fun r i =>
    let c := r + 2 ^ (bits - 1 - i)
    if c ^ k ≤ n then c else r) 0

/-- The first 32 places behind the point of the k-th root of a prime below 512. -/
def rootPlaces (k p : Nat) : Nat := rootK k (p * 2 ^ (32 * k)) 37 % 2 ^ 32

/-- The round constants of SHA-256: places of the cube roots of the first 64 primes. -/
def shaK : List Nat := shaPrimes.map (rootPlaces 3)

/-- The initial hash value of SHA-256: places of the square roots of the first 8 primes. -/
def shaInit : List Word := (shaPrimes.take 8).map fun p => BitVec.ofNat 32 (rootPlaces 2 p)

/-- Three rotations of a word, or two and a shift, combined by exclusive or. -/
def shaMix (x : Word) (i j k : Nat) (shift : Bool) : Word :=
  x.rotateRight i ^^^ (x.rotateRight j ^^^ (if shift then x >>> k else x.rotateRight k))

/-- The schedule word that follows sixteen words, oldest first. -/
def shaNext (w : List Word) : Word :=
  [w.getD 0 0, shaMix (w.getD 1 0) 7 18 3 true, w.getD 9 0, shaMix (w.getD 14 0) 17 19 10 true].foldl
    (· + ·) 0

/-- What one round adds to the working variables, `v 0` to `v 7` being a to h: the two sums of the
standard's T1 and T2. -/
def shaTemps (v : List Word) (kw : Word) : Word × Word :=
  let x := fun i => v.getD i 0
  let choose := (x 4 &&& x 5) ||| (~~~(x 4) &&& x 6)
  let major := (x 0 &&& x 1) ||| (x 2 &&& (x 0 ||| x 1))
  (x 7 + shaMix (x 4) 6 11 25 false + choose + kw, shaMix (x 0) 2 13 22 false + major)

/-- One round: the variables move one place on, and the schedule's window one word. -/
def shaRound (s : List Word × List Word) (k : Nat) : List Word × List Word :=
  let t := shaTemps s.1 (BitVec.ofNat 32 k + s.2.getD 0 0)
  ((t.1 + t.2) :: ((s.1.take 7).set 3 (s.1.getD 3 0 + t.1)), s.2.drop 1 ++ [shaNext s.2])

/-- Add one 64-byte block to the hash value. -/
def shaBlock (h : List Word) (blk : List Byte) : List Word :=
  let w := (List.range 16).map fun i => BitVec.ofNat 32 (beNat (slice blk (4 * i) 4))
  List.zipWith (· + ·) h (shaK.foldl shaRound (h, w)).1

/-- SHA-256. PRESUMED: the function of FIPS 180-4, which the specification names only
(assumption log 9). -/
def sha256 (m : List Byte) : List Byte :=
  let pad := (55 + 64 * (m.length / 64 + 1) - m.length) % 64
  let full := m ++ 0x80#8 :: List.replicate pad 0 ++ toBE (8 * m.length) 8
  ((chunks 64 full).foldl shaBlock shaInit).flatMap fun w => toBE w.toNat 4

end Sys2Proof.Machine
end

