-- ==== Sys2Proof/Machine/State.lean ====
section
/-!
DEFINITION. The state of the device: every register, table, queue, buffer, counter, mode and pin
the specification gives it, as plain data, and `State.reset`. Registers of the BAR0 pages stand in
`regs` by BAR0 offset (an absent offset holds the reset value of the register map, see
Machine/RegMap.lean); registers that show other state are computed from it when they are read.
-/
namespace Sys2Proof.Machine

/-- The reasons for which a run stops with a fault. The device has none: a command whose event
does not occur leaves the state unchanged (assumption log 3), and every error of the hardware is
an effect on the state. -/
inductive Fault where
deriving DecidableEq, Repr

/-- The reasons for which a command is refused by the model. -/
inductive Refusal where
  /-- Raised by an arm of `exec` whose command has no meaning yet. Safe: the run stops. -/
  | notModelled (mnemonic : String)
deriving DecidableEq, Repr

/-- Sticky flags of R137: NV, DZ, OF, UF, NX, IS, SR in bits 0 to 6. -/
abbrev Flags := BitVec 7

/-- The states of the transaction (R312). -/
inductive XPhase where
  | idle
  | opened
  | committed
deriving DecidableEq, Repr

/-- The transaction (R312 to R316) apart from the registers that stand in `regs`. -/
structure Xact where
  phase : XPhase
  port : Port
  owner : Nat
  full : Bool
  coll : List (Nat × Word)
deriving DecidableEq, Repr

/-- An entry of the error log (R338, R339). -/
structure ErrEntry where
  code : Nat
  scope : Nat
  crew : Nat
  page : Nat
  addr : Nat
  time : Time
deriving DecidableEq, Repr

/-- Register access state: shadows, transaction, latches, management pointer, error log, and the
values the last reads returned. -/
structure RegSt where
  shadows : AMap Word
  xact : Xact
  latches : AMap Word
  readPtr : Option Nat
  ptrCrcBad : Bool
  log : List ErrEntry
  pcieOut : Word
  mgmtOut : List Byte
deriving DecidableEq, Repr

/-- The heat (R17, R18, R331, R333) apart from the live length, which stands in `regs`. -/
structure HeatSt where
  num : Nat
  origin : Time
  base : Nat
  next : Time
  timeOk : Bool
  hold : Bool
deriving DecidableEq, Repr

/-- A group's sprint sets on this device (R24, R197): the area bit, the ready mark, whether the shadow
set is frozen, whether there is a retiring set, the first heat of the live set, and the deadline of the
last token that the retiring set may still answer (R23). -/
structure GroupSet where
  area : Bool
  ready : Bool
  frozen : Bool
  retiring : Bool
  liveFrom : Nat
  lastAt : Time
deriving DecidableEq, Repr

/-- The tag of a sprint unit (R197) and its poison mark (R436). -/
structure SUnit where
  group : Nat
  layer : Nat
  bolt : Nat
  kvhead : Nat
  poisoned : Bool
deriving DecidableEq, Repr

/-- A token record (R67) with what the device holds beside it: its flow, the flow's DROP_EPOCH at
its forming (R70), its frame ordinal (R383; the frame's place in the port's count while no heat is
assigned), its heat once assigned (R22, R27), the verdict of its frame's checks: 0 passed, 1
FCS, 2 length case 1, 3 UDP checksum (R53), and when it became ready (R54, R69). -/
structure TokRec where
  stream : Nat
  gap : Bool
  first : Bool
  port : Nat
  last : Bool
  seq : DWord
  ingress : Time
  msg : Nat
  len : Nat
  fields : List Word
  flow : Nat
  epoch : Nat
  ordinal : Nat
  heat : Option Nat
  verdict : Option Nat
  ready : Time
deriving DecidableEq, Repr

/-- Where a token in flight at its root stands (R35). -/
inductive TokPhase where
  | looked
  | asking
  | decided
  | built
  | heldCbe
deriving DecidableEq, Repr

/-- A token in flight at its root: its heat, its descriptor's index and configuration word as live in that
heat, its stream row (R68), the layers done, the state vector, the template image it was built from, its
decision's digest entry, and when its compare-before-emit hold began. -/
structure Token where
  tag : Nat
  tok : TokRec
  heat : Nat
  desc : Nat
  cfg : Nat
  group : Nat
  deadline : Time
  phase : TokPhase
  row : Nat
  layer : Nat
  x : List Word
  flags : Flags
  emit : Bool
  tmpl : Nat
  words : List Word
  frame : List Byte
  entry : DWord
  cbeAt : Time
deriving DecidableEq, Repr

/-- What a position holds of a token on one tree: its group, tag, the layer of the last query, the
query (empty once answered), the partials computed by unit, and their flags (R199, R200). -/
structure PosJob where
  group : Nat
  tag : Nat
  weft : Bool
  layer : Nat
  heat : Nat
  q : List Half
  parts : AMap (List Word)
  flags : Flags
deriving DecidableEq, Repr

/-- A node of a reduction tree on this device: own contribution and the children's inputs by device
in ascending position (R263). `tag` is the token's tag or the collective's SEQ. -/
structure TreeNode where
  sprint : Bool
  group : Nat
  tag : Nat
  layer : Nat
  weft : Bool
  fmt : Nat
  heat : Nat
  own : Option (List Word)
  kids : List (Nat × Option (List Word))
  flags : Flags
deriving DecidableEq, Repr

/-- The sprint (chapter 02, R197 to R200): group sets by group, unit tags by area × 16,384 + u (their slices
lie in T0), readout slots by (2 × n + half) × 557,056 with the live half of descriptor n and the heat from
which that half serves, tokens in flight at this root, what this position holds, tree nodes, the root's tree
sums by tag × 2 + weft, the tokens already counted as waiting for a VC0 window, whether the units are armed
(R51), whether ARM was live in the heat before, and the descriptor words that the last boundary replaced
(R45). -/
structure SprintSt where
  sets : AMap GroupSet
  units : AMap SUnit
  readout : Memory
  roLive : AMap Bool
  roFrom : AMap Nat
  tokens : List Token
  jobs : List PosJob
  nodes : List TreeNode
  sums : AMap (List Word)
  armedUnits : Bool
  armedPrev : Bool
  oldDesc : AMap Word
  vc0Waited : List Nat
  eccFence : Bool
deriving DecidableEq, Repr

/-- An admitted frame on an event port, until its parsing has ended and its checks are made: stamp,
ordinal and heat as in `TokRec`, entries still reserved for it (R71), whether its headers were
parsed and its parsing has ended, its bytes, whether its size is outside R52, the length cases that
apply (R65; `lenCase` is the EPORT counter of case 3, 4 or 5, or 0), the UDP checksum's outcome,
layers counted, whether it is deep, tokens formed, and its verdict (see `TokRec`). -/
structure RxFrame where
  stamp : Time
  ordinal : Nat
  heat : Option Nat
  reserved : Nat
  parsed : Bool
  ended : Bool
  bytes : List Byte
  badSize : Bool
  ipLong : Bool
  trailer : Bool
  lenCase : Nat
  udpOk : Bool
  layers : Nat
  deep : Bool
  tokens : Nat
  verdict : Option Nat
deriving DecidableEq, Repr

/-- The parser running over one datagram (R58). -/
structure ParserRun where
  stamp : Time
  prog : Nat
  pc : Nat
  base : Nat
  limit : Nat
  cur : Nat
  mstart : Nat
  mset : Bool
  m : Nat
  acc : List DWord
  cond : Bool
  stream : DWord
  seq : DWord
  fields : List Word
  icount : Nat
  mcount : Nat
  layers : Nat
  begun : Bool
  flow : Nat
deriving DecidableEq, Repr

/-- A decision frame in an egress queue (R74), with its token's descriptor, template, ingress stamp and
message index (R49). -/
structure EgFrame where
  bytes : List Byte
  desc : Nat
  tmpl : Nat
  ingress : Time
  msg : Nat
deriving DecidableEq, Repr

/-- One event port: frames being received, the parser, the count of frames stamped in, modulo 2^32
(R384), the counts from which the ordinals of the live heat and of the heat before are counted, the
frames held for the cut (R27), the egress queue, and the frames sent with their FCS, oldest first
(R73). -/
structure EPort where
  frames : List RxFrame
  run : Option ParserRun
  count : Nat
  ordBase : Nat
  prevBase : Nat
  heldN : Nat
  egress : List EgFrame
  out : List (List Byte)
deriving DecidableEq, Repr

/-- The counts of one AGGREGATE window of a port (R409, R411): reason, port, the window as a whole
microsecond of seal time, first and last ingress stamp, count. -/
structure Aggregate where
  reason : Nat
  port : Nat
  win : Nat
  first : Time
  last : Time
  count : Nat
deriving DecidableEq, Repr

/-- The event ports and the parser tables (chapter 03): the tokenizer queue, the live and shadow table
spaces, whether the shadow is being refilled and the TBL_DATA writes that wait for its end, with
their offsets (R57),
the streams whose entry has had a token since it became valid or changed SEQ_CHECK (R70), the
egress counter of each template (R72), and the open AGGREGATE windows. -/
structure PortsSt where
  p0 : EPort
  p1 : EPort
  tokQ : List TokRec
  live : Memory
  shadow : Memory
  refill : Bool
  tblWait : List (Nat × Word)
  seen : AMap Bool
  sent : AMap Nat
  aggs : List Aggregate
deriving DecidableEq, Repr

/-- A queue entry: 32 bytes of data, or `none` for an END marker. -/
abbrev QEntry := Option (List Byte)

/-- An operation a unit of an oar is executing: the instruction, the addresses its address registers
gave at firing (R86), the entries it still takes from each input queue, those it has taken, and the
mask record of an MMA with MASK, which is read at firing (R116). Once it has delivered its last result
(`done`) it holds the entries for which OQ0 and OQ1 have had no room (R78).
Units: 0 array, 1 vector, 2 special-function path, 3 mover, 4 the cox with the END markers of SEAT. -/
structure UnitOp where
  unit : Nat
  word : Nat
  addrs : List Int
  need : List Nat
  got : List (List (List Byte))
  mask : List Byte
  done : Bool
  out0 : List QEntry
  out1 : List QEntry
deriving DecidableEq, Repr

/-- One oar (R78). Its address registers and program stand in the active seat image. -/
structure Oar where
  pc : Nat
  halted : Bool
  inSeat : Bool
  image : List Byte
  standby : Option (List Byte)
  standbyBad : Bool
  trips : List Nat
  idx : List Nat
  active : List Bool
  cr : List Half
  iq : List (List QEntry)
  oq0 : List QEntry
  oq1 : List QEntry
  condq : List Bool
  ops : List UnitOp
  flags : Flags
  ctr : List Nat
  tables : AMap (List Byte)
  standbyTables : AMap (List Byte)
deriving DecidableEq, Repr

/-- The power state of a shell's domain (R360). -/
inductive DomainSt where
  | run
  | sleep
  | waking
  | off
deriving DecidableEq, Repr

/-- The state of one steering entry: the open group's bit and entries left, which sources of a
MERGE have delivered an END marker, and the packets addressed to the entry that it has not moved. -/
structure SteerSt where
  bit : Bool
  left : Nat
  endA : Bool
  endB : Bool
  inq : List QEntry
deriving DecidableEq, Repr

/-- One shell (R77, R92 to R96, R295). -/
structure Shell where
  owner : Option Nat
  slot : Option Nat
  seat : Nat
  round : Nat
  rounds : Nat
  running : Bool
  draining : Bool
  drained : Bool
  frozen : Bool
  power : DomainSt
  steer : AMap SteerSt
deriving DecidableEq, Repr

/-- The oar grid (chapter 04): oars by die × 2,048 + index, shells by die × 256 + index, T0 by
oar × 131,072 + byte; and the end-to-end credits (R97) by input queue, oar × 4 + queue: those its
producer holds, those on their way to it, and those withheld by a drain (R103). -/
structure GridSt where
  oars : AMap Oar
  shells : AMap Shell
  scratch : Memory
  creds : AMap Nat
  owed : AMap Nat
  withheld : AMap Nat
deriving DecidableEq, Repr

/-- A transfer list running on a die's engine (R110). -/
structure XList where
  crew : Nat
  slot : Nat
  addr : Nat
  count : Nat
  index : Nat
  tile : Nat
  unit : Nat
deriving DecidableEq, Repr

/-- Transfer engines and T1 caches (chapter 05): lists by die × 64 + index; the index of the list that
each die's engine serves next at the earliest (R110); cached lines of each die, most recently used
first, as crew × 2^60 + unified address of the line, and the lines missed and not yet filled (R119). -/
structure TileSt where
  lists : AMap XList
  turn : AMap Nat
  cache : AMap (List Nat)
  missed : AMap (List Nat)
deriving DecidableEq, Repr

/-- A head slice of a pass: its address, base position, token count, and with a bolt table the
stream it belongs to (R189). -/
structure SliceRef where
  addr : Nat
  base : Nat
  ntok : Nat
  stream : Option Nat
deriving DecidableEq, Repr

/-- A pass buffer that is loaded while the other one runs (R182): the 64 bytes of its descriptor, its query
lines and its accumulator records. -/
structure PassBuf where
  desc : List Byte
  query : List Byte
  recs : List Word
deriving DecidableEq, Repr

/-- The sprint buffer of a shell's pipeline (R182): query lines and accumulator records. -/
structure SprintBuf where
  query : List Half
  recs : List Word
deriving DecidableEq, Repr

/-- An attention command on a shell's pipeline (R186): descriptor index and, once a pass has begun,
the pass buffer that runs (query bytes and accumulator records as loaded, R182), the bolts still to be
walked (stream × 2^32 + bolt), the slices known, the probability tiles written, the code and address
with which the walk failed, the flags so far, and the other pass buffer, once it is loaded. -/
structure AttnList where
  crew : Nat
  slot : Nat
  addr : Nat
  count : Nat
  index : Nat
  started : Bool
  qbuf : List Byte
  acc : List Word
  bolts : List Nat
  slices : List SliceRef
  tiles : Nat
  failed : Option (Nat × Nat)
  flags : Flags
  other : Option PassBuf
deriving DecidableEq, Repr

/-- A look-aside entry (R215). -/
structure LabEntry where
  crew : Nat
  stream : Nat
  bolt : Nat
  addr : Nat
deriving DecidableEq, Repr

/-- The attention pipelines (chapter 09): commands and look-aside buffers (most recently used first)
by die × 256 + shell, the pairs of each die not yet counted in PAIRS, and the sprint buffers by
die × 256 + shell. -/
structure AttnSt where
  lists : AMap AttnList
  lab : AMap (List LabEntry)
  pairs : AMap Nat
  sbuf : AMap SprintBuf
deriving DecidableEq, Repr

/-- An object-table entry (R205). `readers` are the slots whose commands hold reads of it, `waitOn`
those of them that a switch or a free still waits for (R207). While a migration runs `destTier`,
`destDie` and `dest` give its destination; after its switch (`switched`) `oldTier`, `oldDie` and
`oldLoc` give the source that is still to be released. -/
structure Obj where
  state : Nat
  tier : Nat
  pin : Bool
  die : Nat
  size : Nat
  loc : Nat
  dest : Nat
  destTier : Nat
  destDie : Nat
  switched : Bool
  oldTier : Nat
  oldDie : Nat
  oldLoc : Nat
  slot : Option Nat
  readers : List Nat
  waitOn : List Nat
deriving DecidableEq, Repr

/-- What a transfer of the tier engine moves: an object's bytes to another object, a whole object to
another tier, an object's bytes to host memory, or bytes of host memory to an object. -/
inductive TransferKind where
  | copy
  | migrate
  | hostOut
  | hostIn
deriving DecidableEq, Repr

/-- A tier transfer of a command (R219, R285): `len` bytes from `src` to `dst`; its requests to T3 and
T4 are one stripe unit each (R426), of which `reads` and `writes` have been answered. `short` is the
address at which the range of the command ends early, `data` what was read from host memory. When the
command has ended before them, `stray` counts the requests that are still outstanding, by tier × 32 +
channel (R219, R298). -/
structure TierReq where
  slot : Nat
  crew : Nat
  kind : TransferKind
  src : Nat
  dst : Nat
  len : Nat
  reads : Nat
  writes : Nat
  short : Option Nat
  data : List Byte
  stray : Option (AMap Nat)
deriving DecidableEq, Repr

/-- A physical flash block as the loom sees it (R212): erase count, bad mark, and the logical block
it holds. -/
structure Block where
  erases : Nat
  bad : Bool
  holds : Option Nat
deriving DecidableEq, Repr

/-- The tiers (chapter 10): objects by crew × 2^20 + index; object contents by crew × 2^60 + unified
address; transfers in their order of arrival (R210); the loom's blocks; the fitted capacity of T3 in units
of 64 KiB and the raw blocks of T4. -/
structure TierSt where
  objs : AMap Obj
  data : Memory
  reqs : List TierReq
  blocks : AMap Block
  t3Units : Nat
  rawBlocks : Nat
deriving DecidableEq, Repr

/-- A transaction tag of an initiator (R232): the slot whose command issued it, or none. -/
structure TagSt where
  slot : Option Nat
  crew : Nat
  quarantined : Bool
deriving DecidableEq, Repr

/-- A packet of a Henac link held for the next heat in its input queue, where it keeps its credits
(R25): the link and channel it arrived on, where it came by a link, its flits, and the packet. -/
structure Held where
  link : Option (Nat × Nat)
  flits : Nat
  pkt : HPkt
deriving DecidableEq, Repr

/-- The package network (chapter 11): queues of packets, flits held downstream (link credits used), packets
of units that wait for link credits of the queue they enter (R229), the shares of VC1 to VC4 at each output
(R230: the flits each may still send before the round ends), delivered packets of the package and of the
links, held packets, tags, probe traces, the last register words that initiators received, and the queues
whose head is held for a sleeping domain (R234). -/
structure NetSt where
  queues : AMap (List Pkt)
  used : AMap Nat
  outbox : AMap (List Pkt)
  shares : AMap (List Nat)
  delivered : List Pkt
  arrived : List HPkt
  held : List Held
  tags : AMap TagSt
  traces : AMap (List Byte)
  regOut : AMap Word
  wakeHeld : List Nat
deriving DecidableEq, Repr

/-- A packet in a transmit queue of a link: its flits still to be sent, whether it is a fast-path
packet (R273) and has been begun, and of a token's SPRINT packet group × 2^64 + tag. -/
structure TxPkt where
  token : Option Nat
  fast : Bool
  begun : Bool
  flits : List (List Byte)
deriving DecidableEq, Repr

/-- A frame in the replay buffer (R243): sequence number, message bytes, and how many packets end in
it. -/
structure SentFrame where
  seq : Nat
  bytes : List Byte
  tails : Nat
deriving DecidableEq, Repr

/-- One Henac link or the twin port (R241 to R250). Channel c of a map is 2 × VC + DL. `adapted`
says that training step 1 is done; `training` counts the frames of training pattern still to be sent
(R248), `corrected` the corrected symbols of the millisecond `corrSince` of seal time, and `recalNow`
that they exceeded the limit of R248. A frame sent stands in `framesOut` by lanes. -/
structure Link where
  state : Nat
  refuse : Nat
  peerDev : Nat
  peerLink : Nat
  latency : Nat
  adapted : Bool
  training : Nat
  txSeq : Nat
  replay : List SentFrame
  resend : List SentFrame
  rxLast : Nat
  nakSent : Bool
  nakOut : Bool
  noticeOut : Bool
  fails : Nat
  txq : AMap (List TxPkt)
  creditUsed : AMap Nat
  creditBack : AMap Nat
  rxq : AMap (List (List Byte))
  vc0Used : Nat
  wrr : Nat
  wrrLeft : Nat
  corrected : Nat
  corrSince : Nat
  recalNow : Bool
  framesOut : List (List (List Byte))
deriving DecidableEq, Repr

/-- A group-table entry (R259): the fields software gives; the others are computed from them. -/
structure Group where
  fast : Bool
  crew : Nat
  epoch : Nat
  members : List Nat
  seq : Nat
deriving DecidableEq, Repr

/-- A shadow group-table entry: its target heat, and the entry or `none` to invalidate (R258). -/
structure GroupShadow where
  target : Nat
  entry : Option Group
deriving DecidableEq, Repr

/-- A collective in flight on this device (R264 to R273): the child devices whose READY has come on
a tree (true: weft), the trees on which READY has gone up, GO has come and the down wave has ended,
whether this member has contributed or sent its data, of an exchange the blocks and counts
received by member and the members whose block has come whole, and of a ROTATE whose command has ended
the crew, SRC, LEN and FMT of the block it still owes (R271). -/
structure Coll where
  slot : Nat
  group : Nat
  seq : Nat
  op : Nat
  fast : Bool
  ready : List (Nat × Bool)
  sentUp : List Bool
  go : List Bool
  done : List Bool
  began : Bool
  recv : AMap (List Byte)
  counts : AMap Nat
  last : List Nat
  dropped : Bool
  owed : Option (Nat × Nat × Nat × Nat)
deriving DecidableEq, Repr

/-- Groups and collectives (chapter 13): live and shadow entries, instances, packets of collectives
not yet started here, abort reasons by group × 256 + SEQ, and vectors being assembled. -/
structure CollSt where
  live : AMap Group
  shadow : AMap GroupShadow
  insts : List Coll
  early : List HPkt
  aborted : AMap Nat
  asm : AMap (List Byte)
deriving DecidableEq, Repr

/-- The phase of a slot's command (R282 to R289). -/
inductive SlotPhase where
  | waiting
  | ready
  | running
  | ended
deriving DecidableEq, Repr

/-- A slot of the slot table (R287): the command's 64 bytes and its outcome so far; `born` counts the
commands fetched before it. Of one that has ended, `endNo` counts the commands that ended before it and
`endAt` is the instant (R289). -/
structure Slot where
  crew : Nat
  sq : Nat
  born : Nat
  cmd : List Byte
  phase : SlotPhase
  status : Nat
  flags : Flags
  result : Nat
  detail : Nat
  endNo : Nat
  endAt : Time
deriving DecidableEq, Repr

/-- The moving part of a submission or completion queue (R280, R289). -/
structure Queue where
  head : Nat
  tail : Nat
  phase : Bool
deriving DecidableEq, Repr

/-- A stream-table entry (R288); `closing` is the slot of a STREAM_CLOSE that waits for its passes. -/
structure StreamE where
  crew : Nat
  length : Nat
  pos : Nat
  root : Nat
  closing : Option Nat
deriving DecidableEq, Repr

/-- The host port (chapter 14): queues by crew × 8 + index, slots, dependency counters by
crew × 256 + index, streams, what the device has written to host memory, the vectors sent and those
pending (function: 0 to 15 a VF, 16 the PF), and the count of commands that have ended. -/
structure HostSt where
  sqs : AMap Queue
  cqs : AMap Queue
  slots : AMap Slot
  ctrs : AMap Word
  ctrErr : AMap Bool
  streams : AMap StreamE
  rrCrew : Nat
  rrSq : AMap Nat
  fetched : Nat
  mem : Memory
  vectors : List (Nat × Nat)
  pba : List (Nat × Nat)
  ends : Nat
  peak : Nat
  linkUp : Bool
  width : Nat
  speed : Nat
deriving DecidableEq, Repr

/-- Crew resets in progress (R298): crews whose reset sequence runs. -/
structure CrewSt where
  resetting : List Nat
deriving DecidableEq, Repr

/-- Pins, resets, power, clocks and start-up (chapters 18, 19). Masks have one bit per die. -/
structure PowerSt where
  railsOk : Bool
  resetN : Bool
  perstN : Bool
  sagWarnN : Bool
  thermTripN : Bool
  sealVdd : Bool
  sealResetN : Bool
  sealSvcN : Bool
  straps : Nat
  stage : Nat
  failed : Bool
  diesReset : Bool
  sagReset : Bool
  clockStopped : Nat
  tripped : Bool
  offDies : Nat
  warnSince : Bool
  dirtyHeat : Bool
  throttled : Bool
  offer : Nat
  version : Nat
deriving DecidableEq, Repr

/-- A heat digest as one twin keeps it (R385). -/
structure Digest where
  nDec : Nat
  nSum : Nat
  dec : Nat
  sum : Nat
  cfg : Nat
deriving DecidableEq, Repr

/-- A message handed to the twin port (R382): type, and its bytes after TX_TIME. -/
structure TwinMsg where
  kind : Nat
  body : List Byte
deriving DecidableEq, Repr

/-- Twins (chapter 20). `unf`, `det` and `re` with `Own` or `Peer`: UNFENCE, DETACH and REATTACH
written here or announced by the partner; `left`, `peerLeft`: this twin, or the partner, left by
DETACH; `returning`: the partner is in RESYNC or READY; `resync`: units still to copy,
`copied` those the returning twin holds (area × 16,384 + unit);
`cutWait`, `cutTime`: the cut of that boundary is awaited; `cutEarly`: a cut (heat, COUNT0, COUNT1)
that came before the own boundary, and `digEarly` such a digest; `awaiting`: the heat whose digest the
partner still owes; `offsets`: last offset of each peer by link, 16 the twin; `armAtPair`: an ARM that
waits for pairing; `swapLast`: the SWAP of the pairing boundary has not come. -/
structure TwinSt where
  pair : Nat
  fenced : Bool
  adrift : Bool
  fenceDue : Bool
  unfOwn : Bool
  unfPeer : Bool
  detOwn : Bool
  detPeer : Bool
  reOwn : Bool
  rePeer : Bool
  left : Bool
  peerLeft : Bool
  returning : Bool
  cutWait : Bool
  cutTime : Time
  cutEarly : Option (Nat × Nat × Nat)
  digests : AMap Digest
  awaiting : Option Nat
  digEarly : Option DigestMsg
  cbeEarly : List (TokenId × Option (Bool × DWord))
  cbeDone : List TokenId
  resync : Nat
  copied : List Nat
  offsets : AMap Int
  badRow : Nat
  goodRow : Nat
  urgent : List TwinMsg
  bulk : List TwinMsg
  armAtPair : Bool
  swapLast : Bool
deriving DecidableEq, Repr

/-- A tap message (R407): the 64-byte image's fields and, for a DECISION, the frame's copy. -/
structure TapMsg where
  type : Nat
  reason : Nat
  port : Nat
  stream : Nat
  msg : Nat
  stampA : Time
  stampB : Time
  tokseq : Nat
  aux : Nat
  frame : List Byte
deriving DecidableEq, Repr

/-- A closed ledger block (R412): its 16,608 bytes (its last 96 bytes, CHAIN and SIG, stand as 0
until it is signed), its number and whether it is signed. -/
structure LBlock where
  number : Nat
  bytes : List Byte
  signed : Bool
deriving DecidableEq, Repr

/-- The seal's time state (R403). -/
inductive SealTime where
  | unknown
  | acquiring
  | locked
  | holdover
deriving DecidableEq, Repr

/-- The seal die (chapter 21). `freq` holds the two measurements (time, offset) that the frequency
estimate rests on, `slew` the phase offset still to be removed, `hist` the changes of the time
state (newest first), `since` the counts since the last SUMMARY: frames in on ports 0 and 1, frames
out on ports 0 and 1, records formed, messages lost. -/
structure SealSt where
  running : Bool
  inReset : Bool
  now : Time
  tstate : SealTime
  hist : List (Time × SealTime)
  copyValid : Bool
  secondsKnown : Bool
  lastStep : Time
  okSince : Bool
  goodRow : Nat
  freq : List (Time × Int)
  slew : Int
  returned : Bool
  stepDue : Option Int
  todDue : Option Nat
  offset : Int
  config : List Byte
  vcount : Nat
  fw : Nat
  staging : Memory
  blockNo : Nat
  chain : List Byte
  seq : Nat
  wire : List TapMsg
  tap : List TapMsg
  stamps0 : List Time
  stamps1 : List Time
  busy : Bool
  busySince : Time
  lost : Nat
  lostAtReset : Nat
  opened : List (List Byte)
  openTime : Time
  firstSeq : Nat
  blocks : List LBlock
  since : List Nat
  replayLo : Nat
  replies : List (List Byte)
  ppsOut : Bool
  restartReason : Nat
deriving DecidableEq, Repr

/-- Background activities (chapter 22): the slack window is open; the last slot of activity a on unit
u, under 4,096 × a + u; and the activities granted one slot because they are overdue (R428).
Activities by their row in R429: 1 recalibration, 2 T1 scrub, 3 T2 scrub, 4 thermal calibration. -/
structure BackSt where
  slack : Bool
  last : AMap Time
  granted : List Nat
deriving DecidableEq, Repr

/-- The whole machine. `regs` holds the registers that software writes and the counters, by BAR0
offset; `now` is the latest instant the device has seen; `free` counts the free values drawn (the
model's own field); `pending` is the queue of commands. -/
structure State where
  regs : AMap Word
  reg : RegSt
  heat : HeatSt
  sprint : SprintSt
  ports : PortsSt
  grid : GridSt
  tile : TileSt
  att : AttnSt
  tier : TierSt
  net : NetSt
  links : AMap Link
  coll : CollSt
  host : HostSt
  crew : CrewSt
  power : PowerSt
  twin : TwinSt
  ud : SealSt
  back : BackSt
  now : Time
  free : Nat
  pending : List Instr
deriving DecidableEq, Repr

def EPort.reset : EPort := ⟨[], none, 0, 0, 0, 0, [], []⟩

def RegSt.reset : RegSt :=
  { shadows := [], xact := ⟨.idle, .pcie, 0, false, []⟩, latches := [], readPtr := none
    ptrCrcBad := false, log := [], pcieOut := 0, mgmtOut := [] }

def HeatSt.reset : HeatSt :=
  { num := 0, origin := 0, base := 0, next := 0, timeOk := false, hold := false }

def SprintSt.reset : SprintSt :=
  { sets := [], units := [], readout := [], roLive := [], roFrom := [], tokens := [], jobs := []
    nodes := [], sums := [], armedUnits := false, armedPrev := false, oldDesc := [], vc0Waited := []
    eccFence := false }

def PortsSt.reset : PortsSt :=
  { p0 := EPort.reset, p1 := EPort.reset, tokQ := [], live := [], shadow := [], refill := false
    tblWait := [], seen := []
    sent := [], aggs := [] }

def GridSt.reset : GridSt := ⟨[], [], [], [], [], []⟩

def TileSt.reset : TileSt := ⟨[], [], [], []⟩

def AttnSt.reset : AttnSt := ⟨[], [], [], []⟩

def TierSt.reset : TierSt :=
  { objs := [], data := [], reqs := [], blocks := [], t3Units := 0, rawBlocks := 0 }

def NetSt.reset : NetSt :=
  { queues := [], used := [], outbox := [], shares := [], delivered := [], arrived := [], held := []
    tags := [], traces := [], regOut := [], wakeHeld := [] }

/-- A link as it stands in state 0 (R256). DESIGN CHOICE (assumption log 4). -/
def Link.reset : Link :=
  { state := 0, refuse := 0, peerDev := 0, peerLink := 0, latency := 0, adapted := false
    training := 0, txSeq := 0, replay := [], resend := [], rxLast := 4095, nakSent := false
    nakOut := false, noticeOut := false, fails := 0, txq := [], creditUsed := [], creditBack := []
    rxq := [], vc0Used := 0, wrr := 1, wrrLeft := 0, corrected := 0, corrSince := 0, recalNow := false
    framesOut := [] }

def CollSt.reset : CollSt :=
  { live := [], shadow := [], insts := [], early := [], aborted := [], asm := [] }

def HostSt.reset : HostSt :=
  { sqs := [], cqs := [], slots := [], ctrs := [], ctrErr := [], streams := [], rrCrew := 0
    rrSq := [], fetched := 0, mem := [], vectors := [], pba := [], ends := 0, peak := 0, linkUp := false
    width := 0, speed := 0 }

def CrewSt.reset : CrewSt := ⟨[]⟩

/-- Pins and start-up before any rail is applied, RESET_N and RAILS_OK low (R346, R366 stage 0); the
pulled-up seal pins are high. DESIGN CHOICE (assumption log 4). -/
def PowerSt.reset : PowerSt :=
  { railsOk := false, resetN := false, perstN := false, sagWarnN := true, thermTripN := true
    sealVdd := false, sealResetN := true, sealSvcN := true, straps := 0, stage := 0
    failed := false, diesReset := true, sagReset := false, clockStopped := 0, tripped := false
    offDies := 0, warnSince := false, dirtyHeat := false, throttled := false
    offer := 0, version := 0 }

def TwinSt.reset : TwinSt :=
  { pair := 0, fenced := false, adrift := false, fenceDue := false, unfOwn := false
    unfPeer := false, detOwn := false, detPeer := false, reOwn := false, rePeer := false
    left := false, peerLeft := false, returning := false, cutWait := false, cutTime := 0, cutEarly := none
    digests := [], awaiting := none, digEarly := none, cbeEarly := [], cbeDone := [], resync := 0, copied := [], offsets := []
    badRow := 0, goodRow := 0, urgent := [], bulk := [], armAtPair := false
    swapLast := false }

/-- The seal before its supply is applied: its nonvolatile store as at manufacture (R398, R410,
R412, R417, R418), everything else empty. DESIGN CHOICE (assumption log 4). -/
def SealSt.reset : SealSt :=
  { running := false, inReset := true, now := 0, tstate := .unknown, hist := [], copyValid := false
    secondsKnown := false, lastStep := 0, okSince := false, goodRow := 0, freq := [], slew := 0
    returned := false, stepDue := none, todDue := none, offset := 0
    config := Config.sealFirstConfig, vcount := Config.sealFuses, fw := Config.sealFirstVersion
    staging := [], blockNo := 0, chain := List.replicate 32 0, seq := 0, wire := [], tap := []
    stamps0 := [], stamps1 := [], busy := false, busySince := 0, lost := 0, lostAtReset := 0
    opened := [], openTime := 0, firstSeq := 0, blocks := [], since := [0, 0, 0, 0, 0, 0]
    replayLo := 0, replies := [], ppsOut := false, restartReason := 1 }

def BackSt.reset : BackSt := ⟨false, [], []⟩

/-- The machine right after reset: cold reset with RESET_N low, before SEAL_VDD is applied. DESIGN
CHOICE (assumption log 4). -/
def State.reset : State :=
  { regs := [], reg := RegSt.reset, heat := HeatSt.reset, sprint := SprintSt.reset
    ports := PortsSt.reset, grid := GridSt.reset, tile := TileSt.reset, att := AttnSt.reset
    tier := TierSt.reset, net := NetSt.reset, links := [], coll := CollSt.reset
    host := HostSt.reset, crew := CrewSt.reset, power := PowerSt.reset, twin := TwinSt.reset
    ud := SealSt.reset, back := BackSt.reset, now := 0, free := 0, pending := [] }

end Sys2Proof.Machine
end

