-- ==== Sys2Proof/Machine/RegMap.lean ====
section
/-!
DEFINITION. The register map: the pages of R324, and for every page the fields of its register
table (R304, R316, R323, R328 to R340 and the tables of the other chapters) with access type,
reset value and legal values (R7, R444).
-/
namespace Sys2Proof.Machine
open Sys2Proof

/-- The kinds of register page (R324). -/
inductive PageKind where
  | global
  | feature
  | heat
  | xact
  | power
  | clock
  | error
  | numf
  | mgmt
  | host
  | crew
  | sprint
  | parse
  | attn
  | tier
  | coll
  | henac
  | twinlink
  | twin
  | eport
  | link
  | crewq
  | grid
  | tile
  | net
  | seal
  | ledger
deriving DecidableEq, Repr

/-- Access types of R7. -/
inductive Access where
  | ro
  | rw
  | rw1c
  | wo
  | rwh
deriving DecidableEq, Repr

/-- One field, or an array of fields at a stride: offset in the page, instances, bit range, access
type, reset value and the legal values of R444. -/
structure Field where
  off : Nat
  count : Nat
  stride : Nat
  hi : Nat
  lo : Nat
  acc : Access
  reset : Nat
  legal : Nat → Bool

/-- A single field, every value legal. -/
def fl (off hi lo : Nat) (acc : Access) (reset : Nat := 0) : Field :=
  ⟨off, 1, 4, hi, lo, acc, reset, fun _ => true⟩

/-- A single field with a range of legal values. -/
def fr (off hi lo : Nat) (acc : Access) (reset mn mx : Nat) : Field :=
  ⟨off, 1, 4, hi, lo, acc, reset, fun v => mn ≤ v && v ≤ mx⟩

/-- A field whose legal values are the multiples of a number: a base address that its table calls aligned.
No rule says whether an address that is not aligned is a value outside the legal range of R444 or has
its low bits ignored: here it is refused. DESIGN CHOICE (assumption log 93). -/
def fAlign (off hi lo : Nat) (acc : Access) (m : Nat) : Field :=
  ⟨off, 1, 4, hi, lo, acc, 0, fun v => v % m = 0⟩

/-- An array of fields. -/
def fa (off count stride hi lo : Nat) (acc : Access) (reset : Nat := 0) : Field :=
  ⟨off, count, stride, hi, lo, acc, reset, fun _ => true⟩

/-- An array of fields with a range. -/
def far (off count stride hi lo : Nat) (acc : Access) (reset mn mx : Nat) : Field :=
  ⟨off, count, stride, hi, lo, acc, reset, fun v => mn ≤ v && v ≤ mx⟩

/-- `n` counters, read-only words from an offset on. -/
def ctrs (off n : Nat) : Field := fa off n 4 31 0 .ro

/-- The fields of the page header that software writes, and HERR_ADDR (R304). -/
def headerFields : List Field :=
  [fl 0x00C 6 0 .rw, fl 0x00C 8 8 .rw, fl 0x014 3 0 .rw1c, fl 0x018 3 0 .rw 0x3,
   fl 0x020 7 0 .ro, fl 0x020 30 30 .rw1c, fl 0x020 31 31 .rw1c, fl 0x024 31 0 .ro,
   fl 0x028 31 0 .ro, fl 0x000 31 0 .ro, fl 0x004 31 0 .ro, fl 0x008 31 0 .ro, fl 0x010 1 0 .ro,
   fl 0x01C 3 0 .ro, fl 0x02C 31 0 .ro]

/-- GLOBAL (R328). -/
def globalFields : List Field :=
  [fl 0x040 31 0 .ro, fl 0x044 31 0 .ro, fl 0x048 31 0 .ro, fl 0x04C 31 0 .ro, fl 0x050 15 0 .ro,
   fl 0x054 0 0 .rw1c 1, fl 0x054 3 1 .rw1c, fl 0x058 7 0 .wo, fl 0x05C 4 0 .ro,
   fl 0x060 31 0 .rw]

/-- FEATURE (R329). -/
def featureFields : List Field :=
  [fa 0x040 4 4 31 0 .ro, fa 0x050 4 4 31 0 .rw, fl 0x060 0 0 .wo, fl 0x064 0 0 .ro,
   fa 0x070 4 4 31 0 .ro]

/-- HEAT (R331). -/
def heatFields : List Field :=
  [fl 0x040 31 0 .ro, fl 0x044 31 0 .ro, fr 0x048 29 0 .rwh 1000000 1000 1000000000,
   fl 0x04C 2 0 .ro, fl 0x04C 3 3 .rw1c, fl 0x050 31 0 .ro, fl 0x054 31 0 .ro,
   fl 0x058 31 0 .ro, fl 0x05C 31 0 .ro, fl 0x068 31 0 .ro, fl 0x06C 31 0 .ro,
   fl 0x060 0 0 .wo, ctrs 0x100 4]

/-- XACT (R316). -/
def xactFields : List Field :=
  [fl 0x040 1 0 .wo, fl 0x040 13 8 .wo, fl 0x044 31 0 .rw, fl 0x048 31 0 .rw, fl 0x04C 31 0 .ro,
   fl 0x050 7 0 .ro, fl 0x054 7 0 .ro, fr 0x058 15 0 .rw 1000 1 65535, fl 0x060 31 0 .ro,
   fl 0x064 31 0 .ro, ctrs 0x100 6]

/-- POWER (R334). -/
def powerFields : List Field :=
  [fl 0x040 2 0 .ro, fr 0x044 6 0 .rwh 100 10 100, fr 0x048 6 0 .rw 50 10 100,
   fl 0x04C 11 0 .rw 760, fl 0x050 7 0 .rw, fl 0x054 7 0 .rwh, fa 0x080 9 4 11 0 .ro,
   fl 0x060 0 0 .wo, ctrs 0x100 4]

/-- CLOCK (R337). -/
def clockFields : List Field :=
  [fl 0x040 25 0 .ro, fl 0x044 21 0 .rw1c, fl 0x044 25 24 .rw1c, fl 0x048 31 0 .ro,
   fl 0x04C 31 0 .ro, ctrs 0x100 2]

/-- ERROR (R338). -/
def errorFields : List Field :=
  [fl 0x040 0 0 .wo, fl 0x044 8 0 .ro, fl 0x048 5 0 .rw, fa 0x04C 5 4 31 0 .ro,
   fl 0x060 1 0 .ro, ctrs 0x100 5]

/-- NUMF (R140). -/
def numfFields : List Field :=
  [fl 0x040 0 0 .wo, fa 0x080 16 4 6 0 .rw1c, fl 0x0C0 6 0 .rw1c, fl 0x0C4 6 0 .rw 0x41]

/-- MGMT (R323). -/
def mgmtFields : List Field := [fl 0x040 0 0 .wo, fl 0x044 6 0 .ro, ctrs 0x100 7]

/-- HOST (R340). -/
def hostFields : List Field :=
  [fl 0x040 31 0 .ro, fl 0x044 31 0 .ro, fl 0x048 7 0 .ro, fl 0x04C 0 0 .wo]

/-- CREW (R303). -/
def crewFields : List Field :=
  [fl 0x040 15 0 .wo, fl 0x044 15 0 .wo, fl 0x048 15 0 .ro, fl 0x04C 15 0 .rw1c,
   fl 0x050 31 0 .ro, fa 0x100 16 16 13 0 .rw, far 0x100 16 16 30 16 .rw 0 0 16384,
   fa 0x104 16 16 11 0 .rw, far 0x104 16 16 28 16 .rw 0 0 4096, fa 0x108 16 16 12 0 .ro]

/-- SPRINT (R41). -/
def sprintFields : List Field :=
  [fl 0x040 0 0 .rwh, fl 0x040 1 1 .wo, fl 0x044 1 0 .ro, fa 0x048 6 4 31 0 .ro,
   fr 0x060 6 0 .rw 0 0 64, fa 0x100 64 16 0 0 .rwh, fa 0x100 64 16 2 1 .rwh,
   fa 0x100 64 16 14 3 .rwh, far 0x100 64 16 17 15 .rwh 0 0 6, fa 0x100 64 16 21 18 .rwh,
   far 0x104 64 16 10 0 .rwh 0 1 1024, far 0x108 64 16 29 0 .rwh 0 1 1000000000,
   fa 0x10C 64 16 31 0 .ro]

/-- PARSE (R340). -/
def parseFields : List Field :=
  [fl 0x040 18 2 .rw, fl 0x044 31 0 .rw, fl 0x048 0 0 .rwh, fl 0x04C 6 0 .ro, fl 0x04C 7 7 .rw1c,
   fl 0x04C 8 8 .ro, fAlign 0x050 31 0 .rw 4096, fl 0x054 31 0 .rw, fl 0x058 0 0 .rw,
   fr 0x058 16 1 .rw 0 2 65535, fl 0x05C 15 0 .ro, fl 0x060 15 0 .rw, fl 0x064 31 0 .ro]

/-- ATTN (R202). -/
def attnFields : List Field :=
  [fl 0x040 0 0 .wo, fr 0x044 4 0 .rw 0 0 16, fl 0x048 4 0 .ro] ++
  (List.range 8).map fun d => ctrs (0x100 + 0x10 * d) 4

/-- TIER (R220). -/
def tierFields : List Field :=
  [fl 0x040 0 0 .wo, fl 0x044 31 0 .ro, fr 0x048 15 0 .rw 100 1 65535,
   fr 0x04C 15 0 .rw 2000 1 65535, fl 0x050 23 0 .rw 100000, fl 0x054 31 0 .ro, fl 0x058 31 0 .ro,
   fl 0x05C 15 0 .ro, fl 0x060 7 0 .ro, fl 0x064 7 0 .ro, fl 0x068 31 0 .ro,
   far 0x100 16 32 11 0 .rwh 0 0 2048, fa 0x104 16 32 31 0 .rwh, fa 0x108 16 32 31 0 .rwh,
   fa 0x10C 16 32 31 0 .rwh, fa 0x110 16 32 31 0 .rwh, fa 0x114 16 32 26 0 .rw,
   far 0x118 16 32 20 0 .rw 0 0 1048576, fa 0x300 16 32 31 0 .ro, fa 0x304 16 32 31 0 .ro,
   fa 0x308 16 32 31 0 .ro, fa 0x30C 16 32 31 0 .ro, fa 0x310 16 32 31 0 .ro, ctrs 0x500 11]

/-- COLL (R275). -/
def collFields : List Field :=
  [fl 0x040 0 0 .wo, fr 0x044 19 0 .rw 1000 10 1000000, fl 0x048 2 0 .ro, fl 0x048 15 4 .ro,
   fl 0x04C 11 0 .rw, fa 0x080 16 4 31 0 .ro, ctrs 0x100 8]

/-- HENAC (R256). -/
def henacFields : List Field :=
  [fr 0x040 1 0 .rw 0 0 2, fl 0x044 31 0 .rw, fl 0x048 31 0 .rw, fl 0x04C 31 0 .rw,
   fr 0x050 3 0 .rwh 4 1 15, fr 0x050 7 4 .rwh 8 1 15, fr 0x050 11 8 .rwh 3 1 15,
   fr 0x050 15 12 .rwh 1 1 15, fr 0x054 15 0 .rw 1000 1 65535, fl 0x058 10 0 .ro]

/-- LINK and TWINLINK (R256). -/
def linkFields : List Field :=
  [fl 0x040 0 0 .rw, fl 0x040 1 1 .wo, fl 0x040 2 2 .wo, fl 0x044 2 0 .ro, fl 0x044 7 4 .ro,
   fl 0x048 10 0 .ro, fl 0x048 15 12 .ro, ctrs 0x100 10]

/-- TWIN (R397). -/
def twinFields : List Field :=
  [fl 0x040 0 0 .rwh, fl 0x040 4 1 .wo, fl 0x044 5 0 .ro, fl 0x044 6 6 .rw1c, fl 0x044 7 7 .ro,
   fl 0x048 31 0 .ro, fl 0x04C 31 0 .ro, fl 0x050 31 0 .ro, fl 0x054 31 0 .ro, fl 0x058 1 0 .ro,
   fl 0x05C 31 0 .ro, ctrs 0x100 14]

/-- EPORT (R76). -/
def eportFields : List Field :=
  [fl 0x040 0 0 .rw, fl 0x040 1 1 .rwh, fl 0x040 2 2 .rwh, fl 0x040 3 3 .rwh, fl 0x040 4 4 .wo,
   fl 0x044 0 0 .ro, fl 0x048 31 0 .rwh, fl 0x04C 15 0 .rwh, fa 0x080 32 8 31 0 .rwh,
   fa 0x084 32 8 16 0 .rwh, ctrs 0x200 24]

/-- CREWQ (R291). -/
def crewqFields : List Field :=
  [fl 0x040 15 0 .rw1c, fl 0x040 26 16 .ro, fa 0x100 8 16 31 12 .rw, fa 0x104 8 16 31 0 .rw,
   fa 0x108 8 16 0 0 .rw, far 0x108 8 16 5 1 .rw 4 4 16, fa 0x108 8 16 10 8 .rw,
   fa 0x10C 8 16 15 0 .ro, fa 0x200 8 16 31 12 .rw, fa 0x204 8 16 31 0 .rw,
   fa 0x208 8 16 0 0 .rw, far 0x208 8 16 5 1 .rw 4 4 16, far 0x208 8 16 14 8 .rw 0 0 119,
   fa 0x20C 8 16 15 0 .ro]

/-- GRID (R102). -/
def gridFields : List Field :=
  [fl 0x040 3 0 .wo, fl 0x044 1 0 .ro, fl 0x048 15 0 .rw 100, fl 0x04C 15 0 .rw 16384,
   fl 0x050 10 0 .rw, fa 0x060 8 4 31 0 .rw, fa 0x080 8 4 31 0 .rw1c, ctrs 0x100 17,
   ctrs 0x180 3]

/-- TILE (R125). -/
def tileFields : List Field :=
  [fl 0x040 0 0 .wo, fAlign 0x044 26 0 .rw 262144, fl 0x048 7 0 .ro, fl 0x048 18 8 .ro,
   fl 0x048 30 30 .rw1c, fl 0x048 31 31 .rw1c, fl 0x04C 7 0 .ro, fl 0x04C 13 8 .ro,
   fl 0x050 31 0 .ro, ctrs 0x100 6]

/-- NET (R237). -/
def netFields : List Field :=
  [fl 0x040 0 0 .wo, fr 0x044 15 0 .rw 20 4 65535, fa 0x100 4 32 0 0 .rw, fa 0x100 4 32 1 1 .rw,
   fa 0x100 4 32 2 2 .rw, far 0x100 4 32 14 4 .rw 0 0 1283, fa 0x104 4 32 31 0 .rw,
   fa 0x108 4 32 31 0 .rw, fa 0x10C 4 32 31 0 .rw, fa 0x110 4 32 31 0 .rw, fa 0x114 4 32 31 0 .ro,
   fa 0x118 4 32 31 0 .ro, fa 0x11C 4 32 9 0 .ro, fa 0x11C 4 32 16 16 .ro, fl 0x300 11 0 .rw,
   fa 0x304 8 4 31 0 .ro, ctrs 0x400 7]

/-- SEAL (R420). DESIGN CHOICE (assumption log 21). -/
def sealFields : List Field :=
  [fl 0x040 6 0 .ro, fl 0x044 31 0 .ro, fl 0x048 10 0 .ro, fl 0x04C 31 0 .ro, fl 0x050 31 0 .ro,
   fl 0x054 31 0 .ro, fl 0x058 31 0 .ro, fl 0x05C 31 0 .ro, fa 0x060 8 4 31 0 .ro, ctrs 0x100 9]

/-- LEDGER (R420). -/
def ledgerFields : List Field :=
  [fAlign 0x040 31 0 .rw 4096, fl 0x044 31 0 .rw, fl 0x048 0 0 .rw, fr 0x048 16 1 .rw 0 2 65535,
   fl 0x04C 15 0 .ro, fl 0x050 15 0 .rw, fl 0x054 31 0 .wo, fl 0x058 31 0 .wo, ctrs 0x100 3]

/-- The block registers' fields of a page. -/
def pageFields : PageKind → List Field
  | .global => globalFields
  | .feature => featureFields
  | .heat => heatFields
  | .xact => xactFields
  | .power => powerFields
  | .clock => clockFields
  | .error => errorFields
  | .numf => numfFields
  | .mgmt => mgmtFields
  | .host => hostFields
  | .crew => crewFields
  | .sprint => sprintFields
  | .parse => parseFields
  | .attn => attnFields
  | .tier => tierFields
  | .coll => collFields
  | .henac => henacFields
  | .twinlink => linkFields
  | .twin => twinFields
  | .eport => eportFields
  | .link => linkFields
  | .crewq => crewqFields
  | .grid => gridFields
  | .tile => tileFields
  | .net => netFields
  | .seal => sealFields
  | .ledger => ledgerFields

/-- Base offset, instances and block code of a page (R324). -/
def pageInfo : PageKind → Nat × Nat × Nat
  | .global => (0x00000, 1, 0x001)
  | .feature => (0x01000, 1, 0x002)
  | .heat => (0x02000, 1, 0x003)
  | .xact => (0x03000, 1, 0x004)
  | .power => (0x04000, 1, 0x005)
  | .clock => (0x05000, 1, 0x006)
  | .error => (0x06000, 1, 0x007)
  | .numf => (0x07000, 1, 0x008)
  | .mgmt => (0x08000, 1, 0x009)
  | .host => (0x09000, 1, 0x00A)
  | .crew => (0x0A000, 1, 0x00B)
  | .sprint => (0x0B000, 1, 0x00C)
  | .parse => (0x0C000, 1, 0x00D)
  | .attn => (0x0D000, 1, 0x00E)
  | .tier => (0x0E000, 1, 0x00F)
  | .coll => (0x0F000, 1, 0x010)
  | .henac => (0x10000, 1, 0x011)
  | .twinlink => (0x11000, 1, 0x013)
  | .twin => (0x12000, 1, 0x014)
  | .eport => (0x14000, 2, 0x015)
  | .link => (0x20000, 16, 0x012)
  | .crewq => (0x30000, 16, 0x016)
  | .grid => (0x40000, 8, 0x017)
  | .tile => (0x48000, 8, 0x018)
  | .net => (0x50000, 9, 0x019)
  | .seal => (0x60000, 1, 0x01A)
  | .ledger => (0x61000, 1, 0x01B)

/-- Every page kind, in the order of R324. -/
def pageKinds : List PageKind :=
  [.global, .feature, .heat, .xact, .power, .clock, .error, .numf, .mgmt, .host, .crew, .sprint,
   .parse, .attn, .tier, .coll, .henac, .twinlink, .twin, .eport, .link, .crewq, .grid, .tile,
   .net, .seal, .ledger]

/-- The kind of the page with a page number, where there is one (R324). -/
def pageAt (n : Nat) : Option PageKind :=
  pageKinds.find? fun k =>
    let (b, c, _) := pageInfo k
    b / 4096 ≤ n && n < b / 4096 + c

/-- BAR0 offset of page `k` instance `n`. -/
def pageBase (k : PageKind) (n : Nat := 0) : Nat := (pageInfo k).1 + 4096 * n

/-- BAR0 offset of a register: page, instance, offset in the page. -/
def regOff (k : PageKind) (n off : Nat) : Nat := pageBase k n + off

/-- The page of a BAR0 offset: kind and instance (R324). -/
def pageOfOff (off : Nat) : Option (PageKind × Nat) :=
  (pageAt (off / 4096)).map fun k => (k, off / 4096 - (pageInfo k).1 / 4096)

/-- A field covers the register at an offset in the page. -/
def Field.at (f : Field) (o : Nat) : Bool :=
  f.off ≤ o && (o - f.off) % f.stride = 0 && (o - f.off) / f.stride < f.count

/-- The fields of the register at an offset in a page; none for a reserved register (R325). -/
def regFields (k : PageKind) (o : Nat) : List Field :=
  (if o < 0x40 then headerFields else pageFields k).filter (·.at o)

/-- The reset value of a register: its fields' reset values in place. -/
def regReset (k : PageKind) (o : Nat) : Nat :=
  (regFields k o).foldl (fun a f => a + f.reset * 2 ^ f.lo) 0

/-- The bits of a register whose fields have an access type. -/
def accMask (k : PageKind) (o : Nat) (a : Access) : Nat :=
  (regFields k o).foldl
    (fun m f => if f.acc = a then m + (2 ^ (f.hi + 1) - 2 ^ f.lo) else m) 0

/-- The value of a plain register by BAR0 offset: written or counted, else its reset value. -/
def regGet (regs : AMap Word) (off : Nat) : Nat :=
  match mget regs off with
  | some w => w.toNat
  | none =>
    match pageOfOff off with
    | some (k, _) => regReset k (off % 4096)
    | none => 0

/-- Write a plain register. -/
def regSet (regs : AMap Word) (off v : Nat) : AMap Word := mset regs off (BitVec.ofNat 32 v)

/-- The pairs of RO registers that form one 64-bit value (R327): offset of the lower word. -/
def pairLo : PageKind → List Nat
  | .global => [0x024, 0x044]
  | .heat => [0x024, 0x040, 0x050, 0x058, 0x068]
  | .xact => [0x024, 0x060]
  | .clock => [0x024, 0x048]
  | .host => [0x024, 0x040]
  | .twin => [0x024, 0x050]
  | .seal => [0x024, 0x050, 0x058]
  | _ => [0x024]

end Sys2Proof.Machine
end

