-- ==== Sys2Proof/Machine/Ops.lean ====
section
/-!
DEFINITION. Operations shared by the meanings: plain registers and saturating counters (R7),
interrupts of a page (R305), recording an error (R304, R339, R431), messages on the tap (R407),
writes to host memory and MSI-X vectors, free values, and the masks of dies that run.
-/
namespace Sys2Proof.Machine
open Sys2Proof

/-- The outcome of a command. -/
abbrev Out := Host.Outcome State Fault Refusal

/-- The fabric die runs: power and reset released, start-up begun, clocks not stopped by a trip (R346,
R347, R357, R366). -/
def fabOn (s : State) : Bool :=
  s.power.railsOk && s.power.resetN && !s.power.tripped && (1 ≤ s.power.stage || s.power.failed)

/-- A command of the fabric or compute dies: no event while their clocks are stopped. DESIGN
CHOICE (assumption log 3). -/
def fab (s : State) (f : State → State) : Out := .next (if fabOn s then f s else s)

/-- A register of page `k`, instance `n`, as it stands in `regs`. -/
def rg (s : State) (k : PageKind) (n off : Nat) : Nat := regGet s.regs (regOff k n off)

/-- Bits [hi:lo] of a register. -/
def rf (s : State) (k : PageKind) (n off hi lo : Nat) : Nat := bits (rg s k n off) hi lo

/-- Set a register. -/
def rset (s : State) (k : PageKind) (n off v : Nat) : State :=
  { s with regs := regSet s.regs (regOff k n off) v }

/-- Set bits [hi:lo] of a register. -/
def rput (s : State) (k : PageKind) (n off hi lo v : Nat) : State :=
  rset s k n off (putBits (rg s k n off) hi lo v)

/-- Saturating addition at `w` bits. -/
def satAdd (w a b : Nat) : Nat := min (2 ^ w - 1) (a + b)

/-- Add to a saturating 32-bit counter. -/
def bumpBy (s : State) (k : PageKind) (n off c : Nat) : State :=
  rset s k n off (satAdd 32 (rg s k n off) c)

/-- Count one. -/
def bump (s : State) (k : PageKind) (n off : Nat) : State := bumpBy s k n off 1

/-- Counter j of a page whose counters start at 0x100. -/
def bumpC (s : State) (k : PageKind) (n j : Nat) : State := bump s k n (0x100 + 4 * j)

/-- Set several registers of a page to 0. -/
def rzero (s : State) (k : PageKind) (n : Nat) (offs : List Nat) : State :=
  offs.foldl (fun s o => rset s k n o 0) s

/-- Offsets of counters 0 to c − 1 from a base. -/
def ctrOffs (base c : Nat) : List Nat := (List.range c).map fun j => base + 4 * j

/-- Write bytes to host memory (R276). -/
def hostWrite (s : State) (a : Nat) (b : List Byte) : State :=
  { s with host := { s.host with mem := wrBytes s.host.mem a b } }

/-- Send an MSI-X vector (R278): function 0 to 15 a VF, 16 the PF. While the host link is down it is
pending (R277). DESIGN CHOICE (assumption log 90). -/
def msix (s : State) (fn vec : Nat) : State :=
  if s.host.linkUp then { s with host := { s.host with vectors := s.host.vectors ++ [(fn, vec)] } }
  else if s.host.pba.contains (fn, vec) then s
  else { s with host := { s.host with pba := s.host.pba ++ [(fn, vec)] } }

/-- HIRQ_PEND of a page (R304). -/
def irqPend (s : State) (k : PageKind) (n : Nat) : Nat :=
  rf s k n 0x014 3 0 &&& rf s k n 0x018 3 0

/-- Send the page's vector if IRQ_ON (R305). -/
def irqSend (s : State) (k : PageKind) (n : Nat) : State :=
  if rf s k n 0x00C 8 8 = 1 then msix s 16 (rf s k n 0x00C 6 0) else s

/-- Set bits of HIRQ_RAW; the vector is sent when HIRQ_PEND leaves zero (R305). -/
def irqRaise (s : State) (k : PageKind) (n mask : Nat) : State :=
  let before := irqPend s k n
  let s := rput s k n 0x014 3 0 (rf s k n 0x014 3 0 ||| mask)
  if before = 0 && irqPend s k n != 0 then irqSend s k n else s

/-- Raise EVENT on a page. -/
def event (s : State) (k : PageKind) (n : Nat) : State := irqRaise s k n 2

/-- Raise SWAP on a page. -/
def raiseSwap (s : State) (k : PageKind) (n : Nat) : State := irqRaise s k n 8

/-- The scope of an error code (R432). -/
def scopeOf (c : Nat) : Nat :=
  if c = 0x23 || c = 0x24 then 1
  else if 0x30 ≤ c && c ≤ 0x38 then 1
  else if 0x39 ≤ c && c ≤ 0x42 then 2
  else if c = 0x48 then 3
  else 0

/-- Count an error in the scope counter of its code (R339). -/
def countScope (s : State) (code : Nat) : State := bumpC s .error 0 (scopeOf code)

/-- A message on the tap (R407): lost and counted while the seal is in reset (R419). -/
def tapSend (s : State) (m : TapMsg) : State :=
  if s.ud.inReset || !s.ud.running then
    { s with ud := { s.ud with lostAtReset := s.ud.lostAtReset + 1 } }
  else { s with ud := { s.ud with wire := s.ud.wire ++ [m] } }

/-- A tap message with no fields but its type, reason and AUX. -/
def tapPlain (type reason aux : Nat) : TapMsg := ⟨type, reason, 0, 0, 0, 0, 0, 0, aux, []⟩

/-- The crew number of an error that no crew caused (R338). -/
def noCrew : Nat := 31

/-- Append an entry to the error log; the log keeps its first 64 entries (R339). -/
def logErr (s : State) (e : ErrEntry) : State :=
  if s.reg.log.length < 64 then { s with reg := { s.reg with log := s.reg.log ++ [e] } }
  else rput s .error 0 0x044 8 8 1

/-- Record an error in a page's HERR_CODE (R304), the log and the scope counters (R339), and as a
seal record for device and pair scope (R438). INTERNAL_ECC latches the fence of R437. DEDUCED
(assumption log 39 and 72). -/
def recordErr (s : State) (k : PageKind) (n code addr : Nat) (crew : Nat := noCrew) : State :=
  let first := rf s k n 0x020 30 30 = 0
  let s := if first then
      rset (rset (rset s k n 0x020 (code % 256 + 2 ^ 30 + 2 ^ 31 * rf s k n 0x020 31 31)) k n 0x024 (addr % 2 ^ 32))
        k n 0x028 (addr / 2 ^ 32)
    else rput s k n 0x020 31 31 1
  let s := logErr s ⟨code, scopeOf code, crew, pageBase k n / 4096, addr, s.now⟩
  let s := countScope s code
  let s := if 2 ≤ scopeOf code then tapSend s (tapPlain 0x10 3 code) else s
  let s := if code = 0x40 then { s with sprint := { s.sprint with eccFence := true } } else s
  irqRaise s k n 1

/-- Record CONFIG at a BAR0 offset. -/
def errConfig (s : State) (k : PageKind) (n addr : Nat) (crew : Nat := noCrew) : State :=
  recordErr s k n 0x10 addr crew

/-- The latest instant the device has seen. DESIGN CHOICE (assumption log 10). -/
def seen (s : State) (t : Time) : State := { s with now := max s.now t }

/-- Draw a free value: the counter, advanced. DESIGN CHOICE (assumption log 6). -/
def draw (s : State) : Nat × State := (s.free, { s with free := s.free + 1 })

/-- Dies held in reset, without clock or powered off. -/
def dieStopped (s : State) (d : Nat) : Bool :=
  s.power.diesReset || bit s.power.clockStopped d || bit s.power.offDies d

/-- The device has reached a start-up stage (R366). -/
def stageGe (s : State) (n : Nat) : Bool := n ≤ s.power.stage

/-- PAGE.HSTATUS.OFF (R304, R361). DEDUCED (assumption log 28). -/
def pageOff (s : State) (k : PageKind) (n : Nat) : Bool :=
  match k with
  | .grid => bit s.power.offDies n
  | .tile => bit s.power.offDies n
  | .net => n < 8 && bit s.power.offDies n
  | _ => false

/-- PAGE.HSTATUS.READY (R304, R307, R379). DEDUCED (assumption log 31). -/
def pageReady (s : State) (k : PageKind) (n : Nat) : Bool :=
  match k with
  | .global => stageGe s 1 || s.power.failed
  | .grid => stageGe s 2 && !dieStopped s n
  | .tile => stageGe s 2 && !dieStopped s n
  | .net => stageGe s 2 && (n = 8 || !dieStopped s n)
  | .attn => stageGe s 2 && !s.power.diesReset
  | _ => stageGe s 2

/-- A block register of the page is blocked (R307). -/
def pageBlocked (s : State) (k : PageKind) (n : Nat) : Bool :=
  pageOff s k n || !pageReady s k n

/-- A feature bit stands in the locked word (R373, R375). -/
def feature (s : State) (b : Nat) : Bool :=
  bit (rg s .feature 0 (0x070 + 4 * (b / 32))) (b % 32)

/-- The features are locked. -/
def locked (s : State) : Bool := rf s .feature 0 0x064 0 0 = 1

/-- A feature is absent: the set is locked without it (R375). DEDUCED (assumption log 81). -/
def absent (s : State) (b : Nat) : Bool := locked s && !feature s b

/-- The live heat length in units of seal time (R17). -/
def heatLen (s : State) : Time := ns (rf s .heat 0 0x048 29 0)

/-- Weight of VCm in HENAC.WEIGHT (R230, R250, R256). -/
def weightOf (s : State) (m : Nat) : Nat := rf s .henac 0 0x050 (4 * m - 1) (4 * m - 4)

/-- What a heat stamp's difference calls for (R25). -/
inductive StampCase where
  | accept
  | hold
  | early
  | stale
deriving DecidableEq, Repr

/-- Judge the low 16 bits of a heat stamp against the device's own number (R25). -/
def stampCase (s : State) (stamp : Nat) : StampCase :=
  let d := (stamp + 65536 - s.heat.num % 65536) % 65536
  if d = 0 || d = 65535 then .accept
  else if d = 1 then (if s.heat.hold && s.heat.timeOk then .hold else .early)
  else .stale

/-- Return the credits of flits that a channel of a Henac link has passed on or discarded. -/
def returnCredits (s : State) (link : Option (Nat × Nat)) (flits : Nat) : State :=
  match link with
  | some (l, c) =>
    { s with links := mmod s.links l fun k =>
        { k with creditBack := mset k.creditBack c (mgetD k.creditBack c 0 + flits) } }
  | none => s

/-- The queue of a ring station from the ring, where R25 holds packets (R233). -/
def fromRing (q : Nat) : Bool := 2 ^ 22 ≤ q

/-- A packet that R25 holds in a station's queue: on VC0, VC1 or VC4, stamped for the next heat. -/
def heldPkt (s : State) (p : Pkt) : Bool :=
  !(p.vc = 2 || p.vc = 3) && stampCase s p.heat = .hold

/-- Packets held under R25 on this device. -/
def heldCount (s : State) : Nat :=
  s.net.held.length + s.net.queues.foldl (fun n e =>
    if fromRing e.1 then n + (e.2.filter (heldPkt s)).length else n) 0

/-- Discard the packets that ring stations hold; LINK_CREDIT_RETURN returns their credits. -/
def dropHeld (s : State) : State :=
  let keep := fun (q : Nat) (l : List Pkt) =>
    if fromRing q = true then l.filter (fun p => !heldPkt s p) else l
  { s with net := { s.net with queues := mmapv s.net.queues keep } }

/-- TIME_OK falls (R25, R333, R351): boundaries stop, the hold window closes, and every held packet
is discarded with its credits returned. LOCK_LOSS counts the loss of SEALCOPY. -/
def copyFell (s : State) : State :=
  if s.heat.timeOk then
    let s := rput s .clock 0 0x044 25 25 1
    let s := bumpC (event s .clock 0) .clock 0 0
    let n := heldCount s
    let s := s.net.held.foldl (fun s h => returnCredits s h.link h.flits) (dropHeld s)
    let s := bumpBy { s with net := { s.net with held := [] } } .heat 0 0x108 n
    { s with heat := { s.heat with timeOk := false, hold := false } }
  else s

/-- Put a code in the XACT result register of a port (R312, R316). -/
def xactResult (s : State) (p : Port) (code : Nat) : State :=
  let s := rset s .xact 0 (match p with | .pcie => 0x050 | .mgmt => 0x054) code
  if code = 0 then s else recordErr s .xact 0 code (regOff .xact 0 0x040)

/-- The transaction back in IDLE with its collection discarded (R312). -/
def xactIdle (s : State) : State :=
  { s with reg := { s.reg with xact := ⟨.idle, .pcie, 0, false, []⟩ } }

/-- A COMMITTED transaction is discarded and reported as XACT_LATE (R247, R314, R333, R380). -/
def xactLate (s : State) : State :=
  match s.reg.xact.phase with
  | .committed =>
    let p := s.reg.xact.port
    event (bumpC (xactResult (xactIdle s) p 0x52) .xact 0 2) .xact 0
  | _ => s

/-- The full number of an accepted stamp: the own heat or the one before it. -/
def stampHeat (s : State) (stamp : Nat) : Nat :=
  if stamp % 65536 = s.heat.num % 65536 then s.heat.num else s.heat.num - 1

/-- A firmware image passes the checks of R369: header of 256 bytes and body of LENGTH bytes. -/
def imageOk (keyHash : List Byte) (minSvn : Nat) (img : List Byte) : Bool :=
  let len := fld img 12 4
  let key := slice img 32 32
  fld img 0 4 = 0x30345153 && len != 0 && len % 4096 = 0 && len ≤ 2 ^ 24 - 256
    && sha256 key = keyHash && minSvn ≤ fld img 8 2 && 256 + len ≤ img.length
    && Config.verifySignature key (slice img 0 192 ++ slice img 256 len) (slice img 192 64)

/-- Gather sticky flags into a flags register of NUMF; a bit that becomes 1 under the mask raises
EVENT (R140). -/
def gather (s : State) (off : Nat) (f : Flags) : State :=
  let old := rf s .numf 0 off 6 0
  let new := old ||| f.toNat
  let rose := new - old
  let s := rset s .numf 0 off new
  if rose &&& rf s .numf 0 0x0C4 6 0 != 0 then event s .numf 0 else s

/-- Gather the flags of crew work (R138). -/
def gatherCrew (s : State) (crew : Nat) (f : Flags) : State := gather s (0x080 + 4 * crew) f

/-- Gather the flags of sprint tokens rooted here (R138). -/
def gatherSprint (s : State) (f : Flags) : State := gather s 0x0C0 f

end Sys2Proof.Machine
end

