-- ==== Sys2Proof/Machine/Objects.lean ====
section
/-!
DEFINITION. Objects and slots: the unified range and the object tables (R204 to R208), reads and
writes of object bytes, capacities and channels (R209, R219), and the end of a command (R285, R289,
R299).
-/
namespace Sys2Proof.Machine
open Sys2Proof

/-- Status codes of R432. -/
def cOK : Nat := 0x00
def cPAD : Nat := 0x01
def cCONFIG : Nat := 0x10
def cBADCMD : Nat := 0x11
def cRANGE : Nat := 0x12
def cQUOTA : Nat := 0x13
def cFULL : Nat := 0x14
def cBUSY : Nat := 0x15
def cPINNED : Nat := 0x16
def cPOISON : Nat := 0x17
def cNOTRES : Nat := 0x18
def cMISSING : Nat := 0x19
def cLATE : Nat := 0x1A
def cDEP : Nat := 0x1B
def cSHELL : Nat := 0x1C
def cSTREAM : Nat := 0x1D
def cSPRINT : Nat := 0x1E
def cTLATE : Nat := 0x20
def cTFAIL : Nat := 0x21

/-- Object index and offset of a unified address (R204). -/
def uObj (a : Nat) : Nat := bits a 59 40
def uOff (a : Nat) : Nat := a % 2 ^ 40

/-- Key of an object in the tables. -/
def objKey (crew obj : Nat) : Nat := crew * 2 ^ 20 + obj

/-- Key of a byte of a crew's unified range. -/
def uKey (crew a : Nat) : Nat := crew * 2 ^ 60 + a

/-- TIER.CREWc_OBJ.COUNT. -/
def objCount (s : State) (crew : Nat) : Nat := rf s .tier 0 (0x118 + 0x20 * crew) 20 0

/-- A crew's object, if its entry is valid and below COUNT (R204). -/
def objGet (s : State) (crew obj : Nat) : Option Obj :=
  if obj < objCount s crew then mget s.tier.objs (objKey crew obj) else none

/-- Replace an object. -/
def objSet (s : State) (crew obj : Nat) (o : Obj) : State :=
  { s with tier := { s.tier with objs := mset s.tier.objs (objKey crew obj) o } }

/-- Bytes of objects. -/
def rdU (s : State) (crew a n : Nat) : List Byte := rdBytes s.tier.data (uKey crew a) n

/-- Write bytes of objects. -/
def wrU (s : State) (crew a : Nat) (b : List Byte) : State :=
  { s with tier := { s.tier with data := wrBytes s.tier.data (uKey crew a) b } }

/-- Stripe unit and channels of a tier (R209). -/
def stripe : Nat → Nat × Nat
  | 2 => (256, 8)
  | 3 => (256, 8)
  | 4 => (16384, 32)
  | _ => (256, 1)

/-- TIER.CH_DOWN of a tier. -/
def chDown (s : State) (tier : Nat) : Nat :=
  if 2 ≤ tier && tier ≤ 4 then rg s .tier 0 (0x060 + 4 * (tier - 2)) else 0

/-- Bytes [off, off + len) of an object in a tier lie, at least in part, on a channel of a mask. The
stripe units of an object follow one another over the channels from its offset 0 on. -/
def onChannels (tier mask off len : Nat) : Bool :=
  let (u, n) := stripe tier
  let a := off / u
  let b := (off + len + u - 1) / u
  if n ≤ b - a then mask % 2 ^ n != 0 else (span a b).any fun i => bit mask (i % n)

/-- The code that an access of `len` bytes ends with, or OK: RANGE (R204), OBJ_POISON (R219),
TIER_FAIL for a channel out of service (R219). -/
def accessCode (s : State) (crew a len : Nat) : Nat :=
  if 2 ^ 60 ≤ a then cRANGE
  else match objGet s crew (uObj a) with
    | none => cRANGE
    | some o =>
      if o.state = 3 || o.size < uOff a + len then cRANGE
      else if o.state = 2 then cPOISON
      else if onChannels o.tier (chDown s o.tier) (uOff a) len then cTFAIL
      else cOK

/-- The code of a store: as an access, with OBJ_BUSY for a migrating object (R207) and TIER_FAIL
for a write into T4 that is read-only (R212). -/
def storeCode (s : State) (crew a len : Nat) : Nat :=
  let c := accessCode s crew a len
  if c != cOK then c
  else match objGet s crew (uObj a) with
    | none => cRANGE
    | some o =>
      if o.state = 1 then cBUSY
      else if o.tier = 4 && rf s .tier 0 0x044 0 0 = 1 then cTFAIL
      else cOK

/-- A command that reads an object holds the read until it ends (R207). -/
def addReader (s : State) (crew a slot : Nat) : State :=
  match objGet s crew (uObj a) with
  | some o =>
    if o.readers.contains slot then s
    else objSet s crew (uObj a) { o with readers := o.readers ++ [slot] }
  | none => s

/-- Size in units of 64 KiB. -/
def units (n : Nat) : Nat := (n + 65535) / 65536

/-- The objects of a crew. -/
def crewObjs (s : State) (crew : Nat) : List (Nat × Obj) :=
  s.tier.objs.filter fun e => e.1 / 2 ^ 20 = crew

/-- Units an object is charged in a tier (R207, R208). -/
def charge (o : Obj) (tier : Nat) : Nat :=
  (if o.tier = tier then units o.size else 0) +
    (if o.state = 1 && !o.switched && o.destTier = tier then units o.size else 0)

/-- Units an object occupies in a tier, a destination and a source still to be released among them;
`die` counts for T1 only. -/
def occupies (o : Obj) (tier die : Nat) : Nat :=
  let at_ := fun (t d : Nat) => if t = tier && (tier != 1 || d = die) then units o.size else 0
  at_ o.tier o.die + (if o.switched then at_ o.oldTier o.oldDie
    else if o.state = 1 then at_ o.destTier o.destDie else 0)

/-- Shells on which a crew's programs run. -/
def shellsUsed (s : State) (crew : Nat) : Nat :=
  (s.grid.shells.filter fun e => e.2.running && e.2.owner = some crew).length

/-- TIER.CREWc_USED_Tt (R220): shells for T0, units of 64 KiB for T1 to T4; the object table counts
against T2 (R205). DEDUCED (assumption log 66). -/
def tierUsed (s : State) (crew tier : Nat) : Nat :=
  if tier = 0 then shellsUsed s crew
  else (crewObjs s crew).foldl (fun n e => n + charge e.2 tier) 0
    + (if tier = 2 then units (32 * objCount s crew) else 0)

/-- A crew's live quota for a tier (R208). -/
def quota (s : State) (crew tier : Nat) : Nat := rg s .tier 0 (0x100 + 0x20 * crew + 4 * tier)

/-- Space of a tier in units of 64 KiB: T1 of a die less the readout slots of CD0 (R37), T2 less
the member lists of R259 and the object tables (R205), T3 as fitted, T4 as T4_CAP. DEDUCED
(assumption log 66). -/
def tierSpace (s : State) (tier die : Nat) : Nat :=
  match tier with
  | 1 => 1536 - (if die = 0 then 17 * rf s .sprint 0 0x060 6 0 else 0)
  | 2 => 6291200 - (List.range 16).foldl (fun n c => n + units (32 * objCount s c)) 0
  | 3 => s.tier.t3Units
  | _ => rg s .tier 0 0x054

/-- Units of a tier in use by objects of all crews. -/
def tierTaken (s : State) (tier die : Nat) : Nat :=
  s.tier.objs.foldl (fun n e => n + occupies e.2 tier die) 0

/-- The code for placing `n` units in a tier: QUOTA, counted, before TIER_FULL (R206 to R208); T1 of a
die that is stopped or powered off answers UNIT_OFF (R234, R361); a tier T4 that the features leave
out has no space (R375). DEDUCED (assumption log 69). -/
def placeCode (s : State) (crew tier die n : Nat) : Nat :=
  if quota s crew tier < tierUsed s crew tier + n then cQUOTA
  else if tier = 1 && dieStopped s die then 0x25
  else if (tier = 4 && absent s 10) || tierSpace s tier die < tierTaken s tier die + n then cFULL
  else cOK

/-- A slot. -/
def slotGet (s : State) (i : Nat) : Option Slot := mget s.host.slots i

/-- Change a slot. -/
def slotMod (s : State) (i : Nat) (f : Slot → Slot) : State :=
  { s with host := { s.host with slots := mmod s.host.slots i f } }

/-- A crew is in its reset (R298). -/
def resetting (s : State) (crew : Nat) : Bool := s.crew.resetting.contains crew

/-- A slot's command no longer holds reads (R207). -/
def dropReader (s : State) (i : Nat) : State :=
  { s with tier := { s.tier with objs := mmapv s.tier.objs fun _ o =>
      { o with readers := o.readers.filter (· != i), waitOn := o.waitOn.filter (· != i) } } }

/-- The requests that one side of a transfer makes of T3 or T4 (R209, R426): tier, first stripe unit
of the object, and how many; none of a nearer tier. -/
def reqSide (s : State) (r : TierReq) (write : Bool) : Option (Nat × Nat × Nat) :=
  let a := if write then r.dst else r.src
  let far := match r.kind with
    | .hostOut => write
    | .hostIn => !write
    | _ => false
  match objGet s r.crew (uObj a) with
  | none => none
  | some o =>
    let tier := if r.kind = .migrate && write then o.destTier else o.tier
    let u := (stripe tier).1
    if far || tier < 3 || r.len = 0 then none
    else some (tier, uOff a / u, (uOff a + r.len + u - 1) / u - uOff a / u)

/-- Requests of a side that have been answered. -/
def TierReq.answered (r : TierReq) (write : Bool) : Nat := if write then r.writes else r.reads

/-- Numbers from `a` on and below `b` that leave rest `c` by `n`. -/
def countMod (a b n c : Nat) : Nat := (b + n - 1 - c) / n - (a + n - 1 - c) / n

/-- Requests of a transfer on a channel of a tier that have not been answered; of one whose command has
ended, those that it had issued. -/
def reqsOn (s : State) (tier ch : Nat) (r : TierReq) : Nat :=
  match r.stray with
  | some m => mgetD m (tier * 32 + ch) 0
  | none => [false, true].foldl (fun n w =>
    match reqSide s r w with
    | some (t, a, c) =>
      if t = tier then n + countMod (a + r.answered w) (a + c) (stripe tier).2 ch else n
    | none => n) 0

/-- Requests of the transfers that came before a slot's, on a channel (R210). -/
def aheadOf (s : State) (i tier ch : Nat) : Nat :=
  (s.tier.reqs.takeWhile fun r => r.slot != i || r.stray.isSome).foldl (fun n r => n + reqsOn s tier ch r) 0

/-- Every request of a transfer has been answered. -/
def reqDone (s : State) (r : TierReq) : Bool :=
  [false, true].all fun w => match reqSide s r w with
    | some (_, _, c) => c ≤ r.answered w
    | none => true

/-- Requests that a channel keeps outstanding (R426). -/
def chanLimit : Nat := 64

/-- The channels of the lower tiers, as (tier, channel). -/
def lowChannels : List (Nat × Nat) :=
  ((List.range 8).map fun ch => (3, ch)) ++ (List.range 32).map fun ch => (4, ch)

/-- Requests of a slot's transfer that are issued and not answered, by tier × 32 + channel (R426). -/
def outstanding (s : State) (r : TierReq) : AMap Nat :=
  match r.stray with
  | some m => m
  | none => lowChannels.filterMap fun x =>
      let n := min (reqsOn s x.1 x.2 r) (chanLimit - aheadOf s r.slot x.1 x.2)
      if n = 0 then none else some (x.1 * 32 + x.2, n)

/-- The transfers of some slots end: what they have outstanding stays so until it is answered, and the
rest is not issued. -/
def dropReqs (s : State) (p : TierReq → Bool) : State :=
  { s with tier := { s.tier with reqs := s.tier.reqs.filterMap fun r =>
      if r.stray.isSome || (p r) = false then some r
      else
        let m := outstanding s r
        if m.isEmpty then none else some { r with stray := some m } } }

/-- A command ends with a status (R285, R289): its slot waits for its record. While its crew resets
it writes none and the slot becomes free (R299). -/
def endCmd (s : State) (i status : Nat) (detail : Nat := 0) (result : Nat := 0)
    (flags : Flags := 0) : State :=
  match slotGet s i with
  | none => s
  | some c =>
    if c.phase = .ended then s
    else
      let s := dropReader s i
      let s := dropReqs s fun r => r.slot = i
      if resetting s c.crew then
        { s with host := { s.host with slots := mdel s.host.slots i } }
      else
        let n := s.host.ends
        slotMod { s with host := { s.host with ends := n + 1 } } i fun c =>
          { c with phase := .ended, status := status, detail := detail, result := result
                   flags := c.flags ||| flags, endNo := n, endAt := s.now }

/-- Poison an object (R213, R219, R435): one that is being freed goes on (R207), and a migration that has
not switched ends with TIER_FAIL at its source. DEDUCED (assumption log 66). -/
def poison (s : State) (crew obj : Nat) : State :=
  match mget s.tier.objs (objKey crew obj) with
  | none => s
  | some o =>
    let put := fun (o : Obj) =>
      { s with tier := { s.tier with objs := mset s.tier.objs (objKey crew obj) o } }
    if o.state = 3 then s
    else if o.state = 1 && !o.switched then
      endCmd (bump (put { o with state := 2, slot := none }) .tier 0 0x508) (o.slot.getD 4096) cTFAIL
    else put { o with state := 2 }

/-- Key of a cached line (R119). -/
def lineKey (crew a : Nat) : Nat := uKey crew (a / 256 * 256)

/-- A write invalidates the lines it touched in every die's cache (R121). -/
def invalidate (s : State) (crew a len : Nat) : State :=
  let lo := lineKey crew a
  let hi := uKey crew (a + len)
  let keep := fun (_ : Nat) (c : List Nat) => c.filter fun l => l < lo || hi ≤ l
  { s with tile := { s.tile with cache := mmapv s.tile.cache keep } }

/-- An object-table entry's 32 bytes (R205). -/
def objEntry (o : Obj) : List Byte :=
  toLE (1 + 2 * o.state + 8 * o.tier + 64 * b2n o.pin) 1 ++ toLE o.die 1 ++ toLE 0 6
    ++ toLE o.size 8 ++ toLE o.loc 8 ++ toLE (if o.state = 1 then o.dest else 0) 8

/-- The byte that stands at an offset of T2 where a crew's object table covers it (R205): the table lies
at OBJ.BASE, in units of 4 KiB, and an entry that is not valid reads 0. -/
def tableByte (s : State) (off : Nat) : Option Byte :=
  ((List.range 16).find? fun c =>
    let base := 4096 * rf s .tier 0 (0x114 + 0x20 * c) 26 0
    base ≤ off && off < base + 32 * objCount s c).map fun c =>
      let i := off - 4096 * rf s .tier 0 (0x114 + 0x20 * c) 26 0
      match objGet s c (i / 32) with
      | some o => (objEntry o).getD (i % 32) 0
      | none => 0

/-- Add flags to a running command (R138). -/
def flagCmd (s : State) (i : Nat) (f : Flags) : State :=
  slotMod s i fun c => { c with flags := c.flags ||| f }

/-- An earlier command of the same submission queue has not started (R281). -/
def startsLater (s : State) (c : Slot) : Bool :=
  s.host.slots.any fun e => e.2.crew = c.crew && e.2.sq = c.sq && e.2.born < c.born
    && (e.2.phase = .waiting || e.2.phase = .ready)

/-- A command of an opcode starts: its slot is ready, and every earlier command of its submission queue
has started (R281). The meaning gets the command's bytes and its crew; while the crew resets nothing of
it starts (R298). -/
def opcode (i op : Nat) (s : State) (f : Slot → State → State) : Out :=
  fab s fun s =>
    match slotGet s i with
    | none => s
    | some c =>
      if c.phase = .ready && fld c.cmd 0 1 = op && !resetting s c.crew && !startsLater s c then
        f c (slotMod s i fun c => { c with phase := .running })
      else s

/-- A tree operation of a crew holds a compute die quiet (R271). -/
def quietHeld (s : State) (crew die : Nat) : Bool :=
  s.coll.insts.any fun x => decide (x.op < 4) &&
    match slotGet s x.slot with
    | some c => c.crew = crew && bit (fld c.cmd 19 1) die
    | none => false

/-- A command that ends with NOT_RESIDENT counts (R220). DEDUCED (assumption log 84). -/
def countNotResident (s : State) (code : Nat) : State :=
  if code = cNOTRES then bump s .tier 0 0x520 else s

/-- An error of a range carries the address in DETAIL (R289). -/
def endAt (s : State) (i code a : Nat) : State := endCmd (countNotResident s code) i code a

end Sys2Proof.Machine
end

