-- ==== Sys2Proof/Machine/Flags.lean ====
section
/-!
DEFINITION. Number formats and sticky flags (chapters 06 and 07): exact values, the encodings of
R126 to R131, rounding with its flags (R129, R133, R137), conversions (R132, R134, R136), integer
saturation (R130) and the exact arithmetic of R141, R146 and R147.
-/
namespace Sys2Proof.Machine
open Sys2Proof

/-- The sticky flags, in the bit order of R137. -/
def fNV : Flags := 0x01#7
def fDZ : Flags := 0x02#7
def fOF : Flags := 0x04#7
def fUF : Flags := 0x08#7
def fNX : Flags := 0x10#7
def fIS : Flags := 0x20#7
def fSR : Flags := 0x40#7

/-- An exact value: NaN, an infinity, or the rational (−1)^neg × n ÷ d × 2^e with d > 0. -/
inductive Num where
  | nan
  | inf (neg : Bool)
  | fin (neg : Bool) (n d : Nat) (e : Int)
deriving DecidableEq, Repr

/-- The shapes of the encodings of R126. -/
inductive FKind where
  | ieee
  | fp8a
  | fp4
  | twill
deriving DecidableEq, Repr

/-- A floating-point format of R126: exponent bits, fraction bits, bias, shape. -/
structure FFmt where
  eb : Nat
  fb : Nat
  bias : Nat
  kind : FKind
deriving DecidableEq, Repr

def fp32 : FFmt := ⟨8, 23, 127, .ieee⟩
def bf16 : FFmt := ⟨8, 7, 127, .ieee⟩
def fp16 : FFmt := ⟨5, 10, 15, .ieee⟩
def fp8a : FFmt := ⟨4, 3, 7, .fp8a⟩
def fp8b : FFmt := ⟨5, 2, 15, .ieee⟩
def fp4 : FFmt := ⟨2, 1, 1, .fp4⟩
def twill32 : FFmt := ⟨12, 19, 2047, .twill⟩

/-- The floating-point format of a format code of R88. -/
def ffmt : Nat → Option FFmt
  | 0 => some fp32
  | 1 => some bf16
  | 2 => some fp16
  | 3 => some fp8a
  | 4 => some fp8b
  | 5 => some fp4
  | 9 => some twill32
  | _ => none

/-- The width in bits of the integer formats of R130. -/
def intWidth : Nat → Option Nat
  | 6 => some 8
  | 7 => some 4
  | 8 => some 32
  | _ => none

/-- The width in bits of a format code of R88. -/
def fmtWidth : Nat → Nat
  | 0 => 32
  | 1 => 16
  | 2 => 16
  | 3 => 8
  | 4 => 8
  | 5 => 4
  | 6 => 8
  | 7 => 4
  | 8 => 32
  | 9 => 32
  | _ => 0

/-- Formats whose operands carry block scales (R131). -/
def isBlockFmt (f : Nat) : Bool := f = 3 || f = 4 || f = 5

/-- The value an encoding stands for (R126, R127). -/
def decodeF (f : FFmt) (w : Nat) : Num :=
  let neg := bit w (f.eb + f.fb)
  let e := bits w (f.eb + f.fb - 1) f.fb
  let m := w % 2 ^ f.fb
  let top := 2 ^ f.eb - 1
  let normal := Num.fin neg (2 ^ f.fb + m) 1 ((e : Int) - f.bias - f.fb)
  if e = 0 then
    if f.kind = .twill then .fin neg 0 1 0 else .fin neg m 1 (1 - (f.bias : Int) - f.fb)
  else match f.kind with
    | .fp4 => normal
    | .fp8a => if e = top && m = 7 then .nan else normal
    | _ => if e = top then (if m = 0 then .inf neg else .nan) else normal

/-- The canonical NaN of a format (R128); FP4 has none and gives +0 (R134). -/
def nanOf (f : FFmt) : Nat :=
  match f.kind with
  | .fp4 => 0
  | .fp8a => 0x7F
  | _ => (2 ^ f.eb - 1) * 2 ^ f.fb + 2 ^ (f.fb - 1)

/-- A sign bit in place. -/
def signOf (f : FFmt) (neg : Bool) : Nat := if neg then 2 ^ (f.eb + f.fb) else 0

/-- The encoding of an infinity, for a format that has it. -/
def infOf (f : FFmt) (neg : Bool) : Nat := signOf f neg + (2 ^ f.eb - 1) * 2 ^ f.fb

/-- Significand and exponent of the largest finite value (R126). -/
def maxSig (f : FFmt) : Nat × Int :=
  match f.kind with
  | .fp4 => (3, 1)
  | .fp8a => (14, 5)
  | _ => (2 ^ (f.fb + 1) - 1, (2 ^ f.eb : Int) - 2 - f.bias - f.fb)

/-- The encoding of k × 2^q, where k has at most fb + 1 bits, in a finite format place. -/
def encodeFin (f : FFmt) (neg : Bool) (k : Nat) (q : Int) : Nat :=
  let (k, q) := if 2 ^ (f.fb + 1) ≤ k then (k / 2, q + 1) else (k, q)
  signOf f neg +
    (if k < 2 ^ f.fb then k else (q + f.fb + f.bias).toNat * 2 ^ f.fb + (k - 2 ^ f.fb))

/-- The encoding of the largest finite value. -/
def maxOf (f : FFmt) (neg : Bool) : Nat := encodeFin f neg (maxSig f).1 (maxSig f).2

/-- The rounding modes of R133. -/
inductive RMode where
  | rne
  | rtz
  | rpi
  | rni
deriving DecidableEq, Repr

/-- The mode of a two-bit field (R136). -/
def rmode : Nat → RMode
  | 0 => .rne
  | 1 => .rtz
  | 2 => .rpi
  | _ => .rni

/-- Round the non-negative rational n ÷ d to an integer; the second part says it was inexact. -/
def roundNat (mode : RMode) (neg : Bool) (n d : Nat) : Nat × Bool :=
  let k := n / d
  let r := n % d
  if r = 0 then (k, false)
  else
    let up := match mode with
      | .rne => decide (d < 2 * r) || (decide (2 * r = d) && k % 2 = 1)
      | .rtz => false
      | .rpi => !neg
      | .rni => neg
    (if up then k + 1 else k, true)

/-- n ÷ d × 2^e as a plain fraction. -/
def asFrac (n d : Nat) (e : Int) : Nat × Nat :=
  if 0 ≤ e then (n * 2 ^ e.toNat, d) else (n, d * 2 ^ (-e).toNat)

/-- floor(log2(n ÷ d)) for positive n and d. -/
def ilog2 (n d : Nat) : Int :=
  let l : Int := (Nat.log2 n : Int) - Nat.log2 d
  let (a, b) := asFrac n d (-l)
  if a < b then l - 1 else l

/-- The result where a finite value exceeds the largest finite one (R134): the saturating variant
gives the bound, the plain variant infinity under IEEE directed rules, NaN in FP8A, ±6 in FP4. -/
def overflowOf (f : FFmt) (mode : RMode) (sat neg : Bool) : Nat :=
  if sat then maxOf f neg
  else match f.kind with
    | .fp4 => maxOf f neg
    | .fp8a => nanOf f
    | _ =>
      match mode, neg with
      | .rne, _ => infOf f neg
      | .rpi, false => infOf f neg
      | .rni, true => infOf f neg
      | _, _ => maxOf f neg

/-- Round a non-zero rational into a format (R129, R133, R134). Tininess is judged after
rounding; Twill-32 flushes below its smallest normal. DEDUCED (assumption log 74). -/
def roundFin (f : FFmt) (mode : RMode) (sat neg : Bool) (n d : Nat) (e : Int) : Nat × Flags :=
  let l := ilog2 n d + e
  let emin : Int := 1 - f.bias
  let q := if f.kind = .twill then l - f.fb else max (l - f.fb) (emin - f.fb)
  let (a, b) := asFrac n d (e - q)
  let (k, inex) := roundNat mode neg a b
  let (k, q) := if k = 2 ^ (f.fb + 1) then (2 ^ f.fb, q + 1) else (k, q)
  let (a', b') := asFrac n d (e - (l - f.fb))
  let k' := (roundNat mode neg a' b').1
  let tiny := decide (l < emin) && !(decide (l = emin - 1) && k' = 2 ^ (f.fb + 1))
  if f.kind = .twill && tiny then (signOf f neg, fUF ||| fNX)
  else if (maxSig f).2 < q || ((maxSig f).2 = q && (maxSig f).1 < k) then
    (overflowOf f mode sat neg, fOF ||| fNX)
  else
    (encodeFin f neg k q,
      (if inex then fNX else 0) ||| (if tiny && inex then fUF else 0))

/-- Round an exact value into a format: computed results and conversions alike (R128, R134). -/
def roundTo (f : FFmt) (mode : RMode) (sat : Bool) : Num → Nat × Flags
  | .nan => (nanOf f, if f.kind = .fp4 then fNV else 0)
  | .inf neg =>
    match f.kind with
    | .fp4 => (maxOf f neg, fNV)
    | .fp8a => (if sat then maxOf f neg else nanOf f, fNV)
    | _ => (infOf f neg, 0)
  | .fin neg n d e => if n = 0 then (signOf f neg, 0) else roundFin f mode sat neg n d e

/-- Round to nearest, ties to even: the mode of all arithmetic (R133). -/
def rne (f : FFmt) (x : Num) : Nat × Flags := roundTo f .rne false x

/-- The sign of an exact value; NaN counts as positive. -/
def Num.neg : Num → Bool
  | .nan => false
  | .inf s => s
  | .fin s _ _ _ => s

/-- Change the sign. -/
def Num.negate : Num → Num
  | .nan => .nan
  | .inf s => .inf (!s)
  | .fin s n d e => .fin (!s) n d e

/-- Magnitude. -/
def Num.abs : Num → Num
  | .nan => .nan
  | .inf _ => .inf false
  | .fin _ n d e => .fin false n d e

def Num.isZero : Num → Bool
  | .fin _ n _ _ => n = 0
  | _ => false

def Num.isNan : Num → Bool
  | .nan => true
  | _ => false

def Num.isFin : Num → Bool
  | .fin .. => true
  | _ => false

/-- An integer as an exact value. -/
def ofInt (i : Int) : Num := .fin (decide (i < 0)) i.natAbs 1 0

/-- A fraction with a power of two, positive. -/
def ofRat (n d : Nat) (e : Int) : Num := .fin false n d e

/-- Exact finite sum; an exact zero sum of opposite values is +0 (R129, every mode but RNI).
DEDUCED (assumption log 74). -/
def addFin (s1 : Bool) (n1 d1 : Nat) (e1 : Int) (s2 : Bool) (n2 d2 : Nat) (e2 : Int) : Num :=
  let e := min e1 e2
  let a : Int := (n1 * d2 * 2 ^ (e1 - e).toNat : Nat)
  let b : Int := (n2 * d1 * 2 ^ (e2 - e).toNat : Nat)
  let v := (if s1 then -a else a) + (if s2 then -b else b)
  if v = 0 then .fin (s1 && s2 && n1 = 0 && n2 = 0) 0 1 0
  else .fin (decide (v < 0)) v.natAbs (d1 * d2) e

/-- Exact sum, with the cases of R147. -/
def addN : Num → Num → Num × Flags
  | .nan, _ => (.nan, 0)
  | _, .nan => (.nan, 0)
  | .inf a, .inf b => if a = b then (.inf a, 0) else (.nan, fNV)
  | .inf a, _ => (.inf a, 0)
  | _, .inf b => (.inf b, 0)
  | .fin s1 n1 d1 e1, .fin s2 n2 d2 e2 => (addFin s1 n1 d1 e1 s2 n2 d2 e2, 0)

/-- Exact product, with the cases of R147. -/
def mulN : Num → Num → Num × Flags
  | .nan, _ => (.nan, 0)
  | _, .nan => (.nan, 0)
  | .inf a, y => if y.isZero then (.nan, fNV) else (.inf (xor a y.neg), 0)
  | x, .inf b => if x.isZero then (.nan, fNV) else (.inf (xor x.neg b), 0)
  | .fin s1 n1 d1 e1, .fin s2 n2 d2 e2 => (.fin (xor s1 s2) (n1 * n2) (d1 * d2) (e1 + e2), 0)

/-- Exact quotient (R155, R172): 0 ÷ 0 and ∞ ÷ ∞ raise NV, a division by zero raises DZ. -/
def divN : Num → Num → Num × Flags
  | .nan, _ => (.nan, 0)
  | _, .nan => (.nan, 0)
  | .inf _, .inf _ => (.nan, fNV)
  | .inf a, y => (.inf (xor a y.neg), 0)
  | x, .inf b => (.fin (xor x.neg b) 0 1 0, 0)
  | .fin s1 n1 d1 e1, .fin s2 n2 d2 e2 =>
    if n2 = 0 then (if n1 = 0 then (.nan, fNV) else (.inf (xor s1 s2), fDZ))
    else (.fin (xor s1 s2) (n1 * d2) (d1 * n2) (e1 - e2), 0)

/-- Exact sum of products of one group (R141, R147, R191): NV where a product of ±∞ and ±0, or
products of +∞ and −∞, occur, whatever else the group holds. DEDUCED (assumption log 74). -/
def dotN (ps : List (Num × Num)) : Num × Flags :=
  let prods := ps.map fun p => mulN p.1 p.2
  let nv := prods.any (fun r => r.2 != 0)
    || (prods.any (fun r => r.1 = .inf false) && prods.any (fun r => r.1 = .inf true))
  let total := match prods with
    | [] => ofInt 0
    | r :: rest => rest.foldl (fun a r => (addN a r.1).1) r.1
  if nv then (.nan, fNV) else (total, 0)

/-- Fused multiply-add, exact (R135). -/
def fmaN (a b c : Num) : Num × Flags :=
  let p := mulN a b
  let s := addN p.1 c
  (s.1, p.2 ||| s.2)

/-- Compare exact values, with −0 below +0 (R135): `x` strictly below `y`. -/
def ltN (x y : Num) : Bool :=
  match x, y with
  | .nan, _ => false
  | _, .nan => false
  | .inf a, .inf b => a && !b
  | .inf a, _ => a
  | _, .inf b => !b
  | .fin s1 n1 d1 e1, .fin s2 n2 d2 e2 =>
    match addFin s1 n1 d1 e1 (!s2) n2 d2 e2 with
    | .fin s n _ _ => if n = 0 then (n1 = 0 && n2 = 0 && s1 && !s2) else s
    | _ => false

/-- `x` at most `y` as real numbers, for finite values. -/
def leN (x y : Num) : Bool :=
  match x, y with
  | .fin s1 n1 d1 e1, .fin s2 n2 d2 e2 =>
    match addFin s1 n1 d1 e1 (!s2) n2 d2 e2 with
    | .fin s n _ _ => n = 0 || s
    | _ => false
  | _, _ => false

/-- FP32 reading of a word. -/
def v32 (w : Word) : Num := decodeF fp32 w.toNat
/-- BF16 reading of a half. -/
def vbf (h : Half) : Num := decodeF bf16 h.toNat
/-- Twill-32 reading of a word. -/
def vtw (w : Word) : Num := decodeF twill32 w.toNat

/-- One rounding to FP32 under RNE. -/
def r32 (x : Num × Flags) : Word × Flags :=
  let r := rne fp32 x.1
  (BitVec.ofNat 32 r.1, x.2 ||| r.2)

/-- One rounding to Twill-32 under RNE; an overflowing addition also raises SR (R154). -/
def rTwAdd (x : Num × Flags) : Word × Flags :=
  let r := rne twill32 x.1
  let sr := if r.2 &&& fOF != 0 then fSR else 0
  (BitVec.ofNat 32 r.1, x.2 ||| r.2 ||| sr)

/-- One FMA step into FP32: fma(a, b, c) of R36. -/
def fma32 (a b : Num) (c : Word) : Word × Flags := r32 (fmaN a b (v32 c))

/-- Two's complement value of an integer format's element (R130). -/
def intVal (w n : Nat) : Int := signed w n

/-- Saturate an exact integer into a width, raising IS (R130). -/
def satInt (w : Nat) (i : Int) : Int × Flags :=
  let hi : Int := (2 ^ (w - 1) : Nat) - 1
  let lo : Int := -(2 ^ (w - 1) : Nat)
  if hi < i then (hi, fIS) else if i < lo then (lo, fIS) else (i, 0)

/-- Convert an exact value to an integer format (R134): NaN gives 0 with NV, a value beyond the
range or an infinity the nearer bound with NV; NX where rounding was inexact. DEDUCED
(assumption log 74). -/
def toInt (w : Nat) (mode : RMode) : Num → Int × Flags
  | .nan => (0, fNV)
  | .inf neg => (if neg then -(2 ^ (w - 1) : Nat) else (2 ^ (w - 1) : Nat) - 1, fNV)
  | .fin neg n d e =>
    let (a, b) := asFrac n d e
    let (k, inex) := roundNat mode neg a b
    let i : Int := if neg then -(k : Int) else k
    let s := satInt w i
    if s.2 = 0 then (i, if inex then fNX else 0) else (s.1, fNV)

/-- The block scale 2^(c − 127), or NaN for 0xFF (R131). -/
def scaleN (c : Nat) : Num := if c = 255 then .nan else .fin false 1 1 ((c : Int) - 127)

/-- An element with its block scale applied exactly (R131); scale 0xFF reads as NaN and raises
NV (R137). -/
def scaled (x : Num) (c : Nat) : Num × Flags :=
  if c = 255 then (.nan, fNV) else ((mulN x (scaleN c)).1, 0)

/-- floor of an exact value as an integer. -/
def Num.floorI : Num → Int
  | .fin s n d e =>
    let (a, b) := asFrac n d e
    if s then -(((a + b - 1) / b : Nat) : Int) else ((a / b : Nat) : Int)
  | _ => 0

/-- The value of an element in a format code, floating or integer. -/
def elemN (fmt w : Nat) : Num :=
  match ffmt fmt with
  | some f => decodeF f w
  | none => match intWidth fmt with
    | some k => ofInt (intVal k w)
    | none => .nan

/-- Convert one exact value of a source format code into a format code (R134, R136): encoding and
flags. Between integer formats the value saturates with IS (R130); the NV row of R134 is that of a
floating-point source. FP32 values of more than 20 significant bits round into Twill-32 with NX.
DEDUCED (assumption log 85). -/
def convertTo (src fmt : Nat) (mode : RMode) (sat : Bool) (x : Num) : Nat × Flags :=
  match ffmt fmt with
  | some f => roundTo f mode sat x
  | none => match intWidth fmt with
    | some w =>
      let r := match intWidth src with
        | some _ => satInt w x.floorI
        | none => toInt w mode x
      (unsigned w r.1, r.2)
    | none => (0, 0)

/-- The larger magnitude of two values. -/
def maxMag (a b : Num) : Num := if ltN a.abs b.abs then b.abs else a.abs

/-- The smallest scale code from 0x00 to 0xFE whose division brings m to at most the bound,
searched from `c` upwards with `fuel` steps. -/
def findScale (m bound : Num) : Nat → Nat → Option Nat
  | 0, _ => none
  | fuel + 1, c =>
    if leN (mulN m (.fin false 1 1 (127 - (c : Int)))).1 bound then some c
    else findScale m bound fuel (c + 1)

/-- The block scale that a conversion computes (R132), and its flags. -/
def blockScale (f : FFmt) (xs : List Num) : Nat × Flags :=
  if xs.any (fun x => !x.isFin) then (255, fNV)
  else
    let m := xs.foldl maxMag (ofInt 0)
    if m.isZero then (127, 0)
    else match findScale m (decodeF f (maxOf f false)) 255 0 with
      | some c => (c, 0)
      | none => (254, fOF)

/-- A block-scaled conversion of one block (KIND 2, R132, R136): every element divided by 2^(c − 127),
code 0xFF too, and rounded; elements, scale code, flags. -/
def convertBlock (fmt : Nat) (mode : RMode) (xs : List Num) : List Nat × Nat × Flags :=
  match ffmt fmt with
  | none => ([], 0, 0)
  | some f =>
    let sc := blockScale f xs
    let rs := xs.map fun x => roundTo f mode true (mulN x (.fin false 1 1 (127 - (sc.1 : Int)))).1
    (rs.map (·.1), sc.1, rs.foldl (fun a r => a ||| r.2) sc.2)

/-- One addition in a tree's format (R159, R263): FP32, BF16, Twill-32 rounded under RNE, INT32
saturated. Elements stand in words. -/
def treeAdd (fmt : Nat) (a b : Word) : Word × Flags :=
  if fmt = 8 then
    let r := satInt 32 (signed 32 a.toNat + signed 32 b.toNat)
    (BitVec.ofInt 32 r.1, r.2)
  else if fmt = 9 then rTwAdd (addN (vtw a) (vtw b))
  else match ffmt fmt with
    | some f =>
      let s := addN (decodeF f a.toNat) (decodeF f b.toNat)
      let r := rne f s.1
      (BitVec.ofNat 32 r.1, s.2 ||| r.2)
    | none => (a, 0)

end Sys2Proof.Machine
end

