-- ==== Sys2Proof/Machine/Special.lean ====
section
/-!
DEFINITION. Special functions (chapter 08): the quadratic tables and their load check (R162, R163,
R166), the built-in coefficients (R165), the function codes (R160 to R174), the Twill-32
exponential (R152) and the SQ-20 compatibility codes (R180).
-/
namespace Sys2Proof.Machine
open Sys2Proof

/-- The format of 64 significant bits used by the table procedure (R165). -/
def f64s : FFmt := ⟨15, 63, 16383, .ieee⟩

/-- Round to 64 significant bits, nearest even (R165). -/
def round64 (x : Num) : Num := decodeF f64s (rne f64s x).1

/-- Fixed-point places used for the built-in functions: far more than the 64 bits kept. -/
def fixP : Nat := 320

/-- Σ y^i ÷ i! in fixed point, from term `t` = y^i ÷ i! on, for `fuel` terms. -/
def expTerms (y : Nat) : Nat → Nat → Nat → Nat
  | 0, _, _ => 0
  | fuel + 1, i, t => t + expTerms y fuel (i + 1) (t * y / 2 ^ fixP / (i + 1))

/-- Square a fixed-point number `k` times. -/
def squareK : Nat → Nat → Nat
  | 0, v => v
  | k + 1, v => squareK k (v * v / 2 ^ fixP)

/-- e^(y ÷ 2^fixP) in fixed point, for y at least 0 and at most 64 × 2^fixP. DEDUCED (assumption
log 75). -/
def expFix (y : Nat) : Nat := squareK 16 (expTerms (y / 2 ^ 16) 40 0 (2 ^ fixP))

/-- Σ z^(2i+1) ÷ (2i+1) in fixed point. -/
def atanhTerms (z2 : Nat) : Nat → Nat → Nat → Nat
  | 0, _, _ => 0
  | fuel + 1, i, t => t / (2 * i + 1) + atanhTerms z2 fuel (i + 1) (t * z2 / 2 ^ fixP)

/-- ln of the rational a ÷ b between 1 and 2, in fixed point. DEDUCED (assumption log 75). -/
def lnFix (a b : Nat) : Nat :=
  let z := (a - b) * 2 ^ fixP / (a + b)
  2 * atanhTerms (z * z / 2 ^ fixP) 110 0 z

/-- ln 2 in fixed point. -/
def ln2Fix : Nat := lnFix 2 1

/-- A fixed-point number as an exact value. -/
def ofFix (v : Nat) : Num := ofRat v 1 (-(fixP : Int))

/-- floor(√n) by binary digits from 2^k down. -/
def isqrtFrom (n : Nat) : Nat → Nat → Nat
  | 0, r => r
  | k + 1, r =>
    let c := r + 2 ^ k
    isqrtFrom n k (if c * c ≤ n then c else r)

/-- floor(√n). -/
def isqrt (n : Nat) : Nat := isqrtFrom n (Nat.log2 n / 2 + 1) 0

/-- 1 ÷ √(n ÷ d × 2^e) for a positive value: exact where the root is rational with at most `p`
binary places, else a value strictly between two neighbours of 2^−p relative spacing, so that any
rounding to fewer bits is that of the exact value. DEDUCED (assumption log 75). -/
def rsqrtNum (n d : Nat) (e : Int) : Num :=
  let (a, b, h) := if e % 2 = 0 then (d, n, -(e / 2)) else (d * 2, n, -((e + 1) / 2))
  -- value = √(a ÷ b) × 2^h
  let p := 160 + Nat.log2 b
  let m := a * 2 ^ (2 * p) / b
  let r := isqrt m
  if r * r * b = a * 2 ^ (2 * p) then ofRat r 1 (h - p)
  else ofRat (2 * r + 1) 1 (h - p - 1)

/-- The functions of the built-in tables (R165, R180). -/
inductive BFun where
  | tanh
  | logn
  | exp2
  | ln
  | inv
  | isq
deriving DecidableEq, Repr

/-- f at the positive rational a ÷ b, rounded to 64 significant bits (R165). DEDUCED (assumption
log 75). -/
def bfun (f : BFun) (a b : Nat) : Num :=
  let one := 2 ^ fixP
  match f with
  | .tanh => let e := expFix (2 * a * one / b); round64 (ofRat (e - one) (e + one) 0)
  | .logn => let e := expFix (a * one / b); round64 (ofRat one (one + e) 0)
  | .exp2 => round64 (ofFix (expFix (a * ln2Fix / b)))
  | .ln => round64 (ofFix (lnFix a b))
  | .inv => round64 (ofRat b a 0)
  | .isq => round64 (rsqrtNum a b 0)

/-- c0, c1, c2 of a segment: the quadratic through three nodes, each coefficient rounded under a
mode to FP32 (R165, R180). DEDUCED (assumption log 75). -/
def coeffs (mode : RMode) (y0 y1 y2 : Num) : Word × Word × Word :=
  let lin (k0 k1 k2 : Int) :=
    (addN (addN (mulN (ofInt k0) y0).1 (mulN (ofInt k1) y1).1).1 (mulN (ofInt k2) y2).1).1
  let r := fun x => BitVec.ofNat 32 (roundTo fp32 mode false x).1
  (r (lin 1 0 0), r (lin (-3) 4 (-1)), r (lin 2 (-4) 2))

/-- Node k of segment s of a binade table with `per` segments a binade from 2^ebase, as a
fraction. -/
def binadeNode (ebase : Int) (per s k : Nat) : Nat × Nat :=
  let m := 2 * per + 2 * (s % per) + k
  asFrac m (2 * per) (ebase + (s / per : Nat))

/-- Node k of segment s of a linear table with width 2^wexp from lo (a natural number). -/
def linearNode (lo : Nat) (wbits s k : Nat) : Nat × Nat :=
  (lo * 2 ^ (wbits + 1) + 2 * s + k, 2 ^ (wbits + 1))

/-- The coefficients of segment s of a built-in table. -/
def segOf (f : BFun) (mode : RMode) (node : Nat → Nat × Nat) : Word × Word × Word :=
  let y := fun k => bfun f (node k).1 (node k).2
  coeffs mode (y 0) (y 1) (y 2)

/-- c0 + c1 × t + c2 × t², exact, with t = tn ÷ 2^tb (R163). -/
def quad (c : Word × Word × Word) (tn tb : Nat) : Num :=
  let t := ofRat tn 1 (-(tb : Int))
  let t2 := (mulN t t).1
  (addN (addN (v32 c.1) (mulN (v32 c.2.1) t).1).1 (mulN (v32 c.2.2) t2).1).1

def tanhSeg (s : Nat) := segOf .tanh .rne (binadeNode (-12) 16 s)
def lognSeg (s : Nat) := segOf .logn .rne (binadeNode (-12) 16 s)
def exp2Seg (s : Nat) := segOf .exp2 .rne (linearNode 0 8 s)
def lnSeg (s : Nat) := segOf .ln .rne (linearNode 1 8 s)

/-- floor(log2) of a positive exact value. -/
def Num.expo : Num → Int
  | .fin _ n d e => ilog2 n d + e
  | _ => 0

/-- floor of a non-negative exact value times 2^k. -/
def Num.floorShift (x : Num) (k : Int) : Nat :=
  match x with
  | .fin _ n d e => let (a, b) := asFrac n d (e + k); a / b
  | _ => 0

/-- Segment and t of an operand in binade mode (R163): s from the exponent and m[22:19]; t is
m[18:0] of 2^19. Only for magnitudes in [2^ebase, 2^(ebase+16)). -/
def binadeAt (ebase : Int) (x : Num) : Nat × Nat :=
  let e := x.expo
  let m := x.floorShift (23 - e) - 2 ^ 23
  (16 * (e - ebase).toNat + m / 2 ^ 19, m % 2 ^ 19)

/-- 2^k as an exact value. -/
def pow2 (k : Int) : Num := ofRat 1 1 k

/-- Multiply by a power of two. -/
def shiftN (x : Num) (k : Int) : Num := (mulN x (pow2 k)).1

/-- `x < y` for the magnitudes of finite values, with 0 below every positive value. -/
def magLt (x y : Num) : Bool := ltN x.abs y.abs

/-- log2 e rounded to nearest at 48 significant bits (R171). -/
def log2e48 : Num := ofRat 0xb8aa3b295c18 1 (-47)

/-- ln 2 rounded to nearest at 64 significant bits (R172). -/
def ln2c64 : Num := ofRat 0xb17217f7d1cf79ac 1 (-64)

/-- E(x) of R171 before rounding. Exponents beyond ±8,000 are held at ±8,000: every destination
format rounds both alike. DEDUCED (assumption log 75). -/
def expE (x : Num) : Num :=
  let y := (mulN x log2e48).1
  let n := y.floorI
  let u := (addN y (ofInt (-n))).1
  let k := u.floorShift 27
  let q := quad (exp2Seg (k / 2 ^ 19)) (k % 2 ^ 19) 19
  shiftN q (max (-8000) (min 8000 n))

/-- The Twill-32 exponential of R152, for a source value. -/
def expw : Num → Nat × Flags
  | .nan => (nanOf twill32, 0)
  | .inf true => (0, 0)
  | .inf false => (infOf twill32 false, fSR)
  | x =>
    if x.isZero then rne twill32 (ofInt 1)
    else if ltN x (ofInt (-1418)) then (0, fUF ||| fNX)
    else if ltN (ofRat 11629079 1 (-13)) x then (infOf twill32 false, fOF ||| fNX ||| fSR)
    else
      let r := rne twill32 (expE x)
      (r.1, fNX ||| (if ltN (ofInt 1419) x then fSR else 0))

/-- Subnormal in a format: a non-zero value below the smallest normal. -/
def isSubnormal (f : FFmt) (x : Num) : Bool := !x.isZero && magLt x (pow2 (1 - f.bias))

/-- TANH into a destination (R169); `src` is the operand's format. -/
def tanhF (src dst : FFmt) : Num → Nat × Flags
  | .nan => (nanOf dst, 0)
  | .inf s => rne dst (if s then ofInt (-1) else ofInt 1)
  | x =>
    if magLt x (pow2 (-12)) then
      let r := rne dst x
      (r.1, r.2 ||| (if x.isZero then 0 else fNX) ||| (if isSubnormal src x then fUF else 0))
    else if !(magLt x (ofInt 16)) then
      ((rne dst (if x.neg then ofInt (-1) else ofInt 1)).1, fNX)
    else
      let (s, t) := binadeAt (-12) x.abs
      let q := quad (tanhSeg s) t 19
      rne dst (if x.neg then q.negate else q)

/-- LOGI into a destination (R170). -/
def logiF (dst : FFmt) : Num → Nat × Flags
  | .nan => (nanOf dst, 0)
  | .inf s => rne dst (if s then ofInt 0 else ofInt 1)
  | x =>
    let v :=
      if magLt x (pow2 (-12)) then (addN (pow2 (-1)) (shiftN x (-2))).1
      else if magLt x (ofInt 16) then
        let (s, t) := binadeAt (-12) x.abs
        let q := quad (lognSeg s) t 19
        if x.neg then q else (addN (ofInt 1) q.negate).1
      else if x.neg then expE x
      else (addN (ofInt 1) (expE x.negate).negate).1
    rne dst v

/-- EXP into its format (R171): NX for every finite non-zero operand, and UF where the result is
tiny, since no delivered value is exact. -/
def expF (dst : FFmt) : Num → Nat × Flags
  | .nan => (nanOf dst, 0)
  | .inf true => (0, 0)
  | .inf false => (infOf dst false, 0)
  | x =>
    if x.isZero then rne dst (ofInt 1)
    else
      let r := rne dst (expE x)
      (r.1, r.2 ||| fNX ||| (if isSubnormal dst (decodeF dst r.1) then fUF else 0))

/-- RECIP in its format (R157, R172). -/
def recipF (dst : FFmt) (x : Num) : Nat × Flags :=
  let q := divN (ofInt 1) x
  let r := rne dst q.1
  (r.1, q.2 ||| r.2)

/-- RSQRT in its format (R157, R172). -/
def rsqrtF (dst : FFmt) : Num → Nat × Flags
  | .nan => (nanOf dst, 0)
  | .inf s => if s then (nanOf dst, fNV) else (0, 0)
  | .fin s n d e =>
    if n = 0 then (infOf dst s, fDZ)
    else if s then (nanOf dst, fNV)
    else rne dst (rsqrtNum n d e)

/-- LNW into FP32 (R172); `fb` is the fraction width of the source format. -/
def lnwF (fb : Nat) : Num → Nat × Flags
  | .nan => (nanOf fp32, 0)
  | .inf s => if s then (nanOf fp32, fNV) else (infOf fp32 false, 0)
  | x =>
    if x.isZero then (infOf fp32 true, fDZ)
    else if x.neg then (nanOf fp32, fNV)
    else
      let k := x.expo
      let m := x.floorShift (fb - k) - 2 ^ fb
      let q := quad (lnSeg (m / 2 ^ (fb - 8))) (m % 2 ^ (fb - 8)) (fb - 8)
      rne fp32 (addN (mulN (ofInt k) ln2c64).1 q).1

/-- A loaded table image (R162), as its fields. -/
structure TableImg where
  linear : Bool
  down : Bool
  odd : Bool
  ident : Bool
  ebase : Int
  wexp : Int
  lo : Num
  lowv : Num
  highv : Num
  bytes : List Byte
deriving DecidableEq, Repr

/-- Read an image's parameters (R162). -/
def parseTable (b : List Byte) : TableImg :=
  let w := fld b 0 4
  { linear := bit w 8, down := bit w 9, odd := bit w 10, ident := bit w 11
    ebase := signed 8 (bits w 23 16), wexp := signed 8 (bits w 31 24)
    lo := decodeF fp32 (fld b 4 4), lowv := decodeF fp32 (fld b 8 4)
    highv := decodeF fp32 (fld b 12 4), bytes := b }

/-- Coefficients of segment s of an image (R162). -/
def TableImg.seg (t : TableImg) (s : Nat) : Word × Word × Word :=
  let g := fun i => BitVec.ofNat 32 (fld t.bytes (0x40 + 12 * s + 4 * i) 4)
  (g 0, g 1, g 2)

/-- q_s(1) = c0 + c1 + c2 (R166). -/
def TableImg.endVal (t : TableImg) (s : Nat) : Num := quad (t.seg s) 1 0

/-- "≤" of R166: read as "≥" when DIR = 1. -/
def TableImg.le (t : TableImg) (a b : Num) : Bool := if t.down then leN b a else leN a b

/-- Condition 3 of segment s, or condition 4 at the join before it, fails (R166). -/
def TableImg.segFails (t : TableImg) (s : Nat) : Bool :=
  let (c0, c1, c2) := t.seg s
  let s3 := (addN (v32 c1) (mulN (ofInt 2) (v32 c2)).1).1
  !(t.le (ofInt 0) (v32 c1) && t.le (ofInt 0) s3)
    || (s != 0 && !(t.le (t.endVal (s - 1)) (v32 c0)))

/-- Conditions 1, 2, 5, 6 and 7 of R166. EBASE lies in its range in either mode (R162 limits only
SYM, BELOW, LO and WEXP to a mode). -/
def TableImg.wholeOk (t : TableImg) : Bool :=
  let b := t.bytes
  let w := fld b 0 4
  let reserved := bits w 15 12 = 0 && (slice b 0x10 48).all (· = 0)
  let params := if t.linear then !t.odd && !t.ident
      && (addN t.lo (pow2 (8 + t.wexp))).1.isFin
      && !((rne fp32 (addN t.lo (pow2 (8 + t.wexp))).1).2 &&& fOF != 0) && t.lo.isFin
    else true
  let params := params && decide (-126 ≤ t.ebase) && decide (t.ebase ≤ 112)
  let finite := (List.range 256).all (fun s =>
      let (c0, c1, c2) := t.seg s
      (v32 c0).isFin && (v32 c1).isFin && (v32 c2).isFin) && t.lowv.isFin && t.highv.isFin
  let c0 := v32 (t.seg 0).1
  let edge := (if t.ident then leN (pow2 t.ebase) c0 else t.le t.lowv c0)
    && t.le (t.endVal 255) t.highv
  let odd := !t.odd || (if t.down then !t.ident && leN t.lowv (ofInt 0)
    else t.ident || leN (ofInt 0) t.lowv)
  w % 256 = 1 && reserved && params && finite && edge && odd && !(t.ident && t.down)

/-- The load check of R166: the failing segment, 256 for the conditions on the whole, or none. -/
def tableCheck (b : List Byte) : Option Nat :=
  let t := parseTable b
  match (List.range 256).find? t.segFails with
  | some s => if t.wholeOk then some s else some 256
  | none => if t.wholeOk then none else some 256

/-- A loaded table at an operand (R163), rounded once into a destination: −infinity lies below the
domain of a table that is not odd, and BELOW = 1 delivers it as it is. -/
def tableF (t : TableImg) (dst : FFmt) : Num → Nat × Flags
  | .nan => (nanOf dst, 0)
  | .inf s =>
    let v := if s && !t.odd then (if t.ident && !t.linear then .inf true else t.lowv) else t.highv
    ((rne dst (if s && t.odd then v.negate else v)).1, 0)
  | x =>
    let y := if t.odd then x.abs else x
    let flip := fun (r : Num) => if t.odd && x.neg then r.negate else r
    let const := fun (v : Num) => let r := rne dst (flip v); (r.1, r.2 ||| fNX)
    if t.linear then
      let u := shiftN (addN y t.lo.negate).1 (-t.wexp)
      if ltN u (ofInt 0) && !u.isZero then const t.lowv
      else if !(ltN u (ofInt 256)) then const t.highv
      else
        let k := u.floorShift 19
        rne dst (flip (quad (t.seg (k / 2 ^ 19)) (k % 2 ^ 19) 19))
    else if y.neg || magLt y (pow2 t.ebase) then
      (if t.ident then rne dst x else const t.lowv)
    else if !(magLt y (pow2 (t.ebase + 16))) then const t.highv
    else
      let (s, k) := binadeAt t.ebase y
      rne dst (flip (quad (t.seg s) k 19))

/-- S2 × a rounded once into a format, with the flags of a's forming (R174). -/
def gate (dst : FFmt) (s2 : Num) (a : Nat × Flags) : Nat × Flags :=
  let p := mulN s2 (decodeF fp32 a.1)
  let r := rne dst p.1
  (r.1, a.2 ||| p.2 ||| r.2)

/-- SQ-20 mode: a table value with two FP32 roundings (R180). -/
def c20Quad (c : Word × Word × Word) (tn tb : Nat) : Num × Flags :=
  let t := ofRat tn 1 (-(tb : Int))
  let a := r32 (mulN (v32 c.2.2) t)
  let p := r32 (addN (v32 c.2.1) (v32 a.1))
  let b := r32 (mulN (v32 p.1) t)
  let y := r32 (addN (v32 c.1) (v32 b.1))
  (v32 y.1, a.2 ||| p.2 ||| b.2 ||| y.2)

/-- SQ-20 mode: round into FMT, flushing a subnormal result (R180). -/
def c20Out (dst : FFmt) (x : Num × Flags) : Nat × Flags :=
  let r := rne dst x.1
  if isSubnormal dst (decodeF dst r.1) then (signOf dst x.1.neg, x.2 ||| r.2 ||| fUF ||| fNX)
  else (r.1, x.2 ||| r.2)

/-- SQ-20 tanh before the output rounding. -/
def c20Tanh (x : Num) : Num × Flags :=
  if magLt x (pow2 (-5)) then (x, 0)
  else if !(magLt x (ofInt 8)) then
    ((if x.neg then ofInt (-1) else ofInt 1), if x.isFin then fNX else 0)
  else
    let (s, t) := binadeAt (-5) x.abs
    let q := c20Quad (segOf .tanh .rtz (binadeNode (-5) 16 s)) t 19
    (if x.neg then q.1.negate else q.1, q.2)

/-- SQ-20 exponential before the output rounding. -/
def c20Exp (x : Num) : Num × Flags :=
  match x with
  | .nan => (.nan, 0)
  | .inf s => (if s then ofInt 0 else .inf false, 0)
  | x =>
    let y := r32 (mulN x (v32 0x3FB8AA3B))
    let n := (v32 y.1).floorI
    let k := (addN (v32 y.1) (ofInt (-n))).1.floorShift 27
    let q := c20Quad (segOf .exp2 .rtz (linearNode 0 7 (k / 2 ^ 20))) (k % 2 ^ 20) 20
    if (v32 y.1).isFin then (shiftN q.1 (max (-8000) (min 8000 n)), y.2 ||| q.2)
    else (if x.neg then ofInt 0 else .inf false, y.2)

/-- SQ-20 reciprocal before the output rounding. -/
def c20Recip (x : Num) : Num × Flags :=
  match x with
  | .nan => (.nan, 0)
  | .inf s => (.fin s 0 1 0, 0)
  | x =>
    if x.isZero then (.inf x.neg, fDZ)
    else
      let k := x.expo
      let m := x.abs.floorShift (23 - k) - 2 ^ 23
      let q := c20Quad (segOf .inv .rtz (linearNode 1 7 (m / 2 ^ 16))) (m % 2 ^ 16) 16
      (shiftN (if x.neg then q.1.negate else q.1) (-k), q.2)

/-- SQ-20 reciprocal square root before the output rounding. -/
def c20Rsqrt (x : Num) : Num × Flags :=
  match x with
  | .nan => (.nan, 0)
  | .inf s => if s then (.nan, fNV) else (ofInt 0, 0)
  | x =>
    if x.isZero then (.inf x.neg, fDZ)
    else if x.neg then (.nan, fNV)
    else
      let e := x.expo
      let k := e / 2
      let m := x.floorShift (23 - e) - 2 ^ 23
      let s := 64 * (e - 2 * k).toNat + m / 2 ^ 17
      let q := c20Quad (segOf .isq .rtz (binadeNode 0 64 s)) (m % 2 ^ 17) 17
      (shiftN q.1 (-k), q.2)

/-- SQ-20 logistic before the output rounding (R180). -/
def c20Logi (x : Num) : Num × Flags :=
  let h := r32 (mulN x (pow2 (-1)))
  let t := c20Tanh (v32 h.1)
  let t' := r32 (t.1, t.2)
  let p := r32 (mulN (pow2 (-1)) (v32 t'.1))
  let y := r32 (addN (pow2 (-1)) (v32 p.1))
  (v32 y.1, h.2 ||| t'.2 ||| p.2 ||| y.2)

/-- A compatibility code (R180): a subnormal input reads as zero of its sign; never SR. -/
def c20 (fn : Nat) (src : FFmt) (x : Num) : Nat × Flags :=
  if x.isNan then (nanOf src, 0)
  else
    let x := if isSubnormal src x then Num.fin x.neg 0 1 0 else x
    c20Out src (match fn with
      | 0x30 => c20Tanh x
      | 0x31 => c20Logi x
      | 0x32 => c20Exp x
      | 0x34 => c20Recip x
      | _ => c20Rsqrt x)

/-- The destination format of a function code for a source format code (R160). -/
def sfnDst (fn fmt : Nat) : Nat := if fn = 0x03 then 9 else if fn = 0x07 then 0 else fmt

/-- A function code is defined for a source format (R160). -/
def sfnValid (fn fmt : Nat) : Bool :=
  if fn = 0x04 || fn = 0x05 then fmt = 0 || fmt = 1 || fmt = 2 || fmt = 9
  else if fn = 0x07 then fmt = 0 || fmt = 9
  else (fmt = 0 || fmt = 1 || fmt = 2) &&
    ([0x00, 0x01, 0x02, 0x03, 0x10, 0x11, 0x12, 0x18, 0x19, 0x1A, 0x1B, 0x20, 0x21, 0x22, 0x23,
      0x30, 0x31, 0x32, 0x34, 0x35].contains fn)

/-- The function codes that read S2 (R160, R174). -/
def sfnGated (fn : Nat) : Bool := (0x10 ≤ fn && fn ≤ 0x12) || (0x18 ≤ fn && fn ≤ 0x1B)

/-- A loaded table, or NaN with NV for a slot never loaded (R167). -/
def tableOrNan (t : Option (List Byte)) (dst : FFmt) (x : Num) : Nat × Flags :=
  match t with
  | some b => tableF (parseTable b) dst x
  | none => (nanOf dst, fNV)

/-- One result of an SFN instruction (R160 to R174): function code, source format code, the
oar's loaded tables, S1 and S2. -/
def sfnEval (fn fmt : Nat) (tabs : Nat → Option (List Byte)) (x s2 : Num) : Nat × Flags :=
  match ffmt fmt, ffmt (sfnDst fn fmt) with
  | some src, some dst =>
    if x.isNan || (sfnGated fn && s2.isNan) then (nanOf dst, 0)
    else match fn with
      | 0x00 => tanhF src dst x
      | 0x01 => logiF dst x
      | 0x02 => expF dst x
      | 0x03 => expw x
      | 0x04 => recipF dst x
      | 0x05 => rsqrtF dst x
      | 0x07 => lnwF src.fb x
      | 0x10 => gate dst s2 (tanhF src fp32 x)
      | 0x11 => gate dst s2 (logiF fp32 x)
      | 0x12 =>
        let l := logiF fp32 x
        let p := mulN x (decodeF fp32 l.1)
        let a := rne fp32 p.1
        gate dst s2 (a.1, l.2 ||| p.2 ||| a.2)
      | 0x18 => gate dst s2 (tableOrNan (tabs 0) fp32 x)
      | 0x19 => gate dst s2 (tableOrNan (tabs 1) fp32 x)
      | 0x1A => gate dst s2 (tableOrNan (tabs 2) fp32 x)
      | 0x1B => gate dst s2 (tableOrNan (tabs 3) fp32 x)
      | 0x20 => tableOrNan (tabs 0) dst x
      | 0x21 => tableOrNan (tabs 1) dst x
      | 0x22 => tableOrNan (tabs 2) dst x
      | 0x23 => tableOrNan (tabs 3) dst x
      | _ => c20 fn src x
  | _, _ => (0, 0)

end Sys2Proof.Machine
end

