-- ==== Sys2Proof/Machine/Operands.lean ====
section
/-!
DEFINITION. Operand forms of oar instructions (chapters 04 to 06, 08): the fields of an
instruction (R87, R88), the layouts of operands in scratch and in queues (R107, R108), what an
instruction reads and writes, and the value of every array, vector and special-function operation
(R135, R136, R141, R143, R160, R175 to R178).
-/
namespace Sys2Proof.Machine
open Sys2Proof

/-- Common instruction fields (R87). -/
def iClass (w : Nat) : Nat := bits w 63 60
def iInq (w : Nat) : Nat := bits w 59 56
def iNin (w : Nat) : Nat := bits w 55 50 + 1
def iOutq (w : Nat) : Nat := bits w 49 48
def iNout (w : Nat) : Nat := bits w 47 42 + 1
def iPred (w : Nat) : Nat := bits w 41 40

/-- MMA fields (R88): format, the three dimensions, accumulate and mask. -/
def mmaFmt (w : Nat) : Nat := bits w 39 36
def mmaM (w : Nat) : Nat := 8 * (bits w 35 31 + 1)
def mmaN (w : Nat) : Nat := 8 * (bits w 30 26 + 1)
def mmaK (w : Nat) : Nat := 8 * (bits w 25 21 + 1)

/-- VEC and SFN fields (R88). -/
def vOp (w : Nat) : Nat := bits w 39 34
def vFmt (w : Nat) : Nat := bits w 33 30
def vD (w : Nat) : Nat := bits w 29 26
def vLen (w : Nat) : Nat := 32 * (bits w 15 8 + 1)
def vDq (w : Nat) : Bool := bit w 7
def vDstFmt (w : Nat) : Nat := bits w 19 16

/-- Elements of `w` bits, least significant first, as bytes. -/
def packElems (w : Nat) (xs : List Nat) : List Byte :=
  toLE (xs.foldr (fun x n => x % 2 ^ w + 2 ^ w * n) 0) ((xs.length * w + 7) / 8)

/-- Element i of `w` bits of a byte list. -/
def elemAt (w : Nat) (b : List Byte) (i : Nat) : Nat :=
  bits (fld b (i * w / 8) 4) (i * w % 8 + w - 1) (i * w % 8)

/-- The first n elements. -/
def elems (w : Nat) (b : List Byte) (n : Nat) : List Nat := (List.range n).map (elemAt w b)

/-- Units of the scales of `n` elements in blocks of 32 (R108). -/
def scaleUnits (fmt n : Nat) : Nat := if isBlockFmt fmt then (n / 32 + 31) / 32 else 0

/-- Units of `n` consecutive elements, without scales. -/
def dataUnits (fmt n : Nat) : Nat := (n * fmtWidth fmt + 255) / 256

/-- Byte offset and bit of element k of row r in panels of rows of L elements (R107). -/
def panelAt (w L r k : Nat) : Nat × Nat :=
  let e := 32 / w
  (32 * (r / 8 * (L * w / 32) + k / e) + 4 * (r % 8), w * (k % e))

/-- Element k of row r in panels. -/
def panelElem (w L : Nat) (b : List Byte) (r k : Nat) : Nat :=
  let (o, i) := panelAt w L r k
  bits (fld b o 4) (i + w - 1) i

/-- An operand of an instruction: a queue or an address register, and its length in units. -/
structure Opnd where
  isQ : Bool
  idx : Nat
  units : Nat
deriving DecidableEq, Repr

/-- An operand selected by a source bit and a 4-bit field (R88). -/
def opnd (src : Bool) (f units : Nat) : Opnd := if src then ⟨true, f % 4, units⟩ else ⟨false, f, units⟩

/-- Units of a tile operand of R108: `r` panels' rows of length K. -/
def tileUnits (fmt r k : Nat) : Nat := r / 8 * (k * fmtWidth fmt / 32) + scaleUnits fmt (r * k)

/-- The number of elements that an OP reads from S1: the finishing codes read a state of three. -/
def s1Units (w : Nat) : Nat :=
  if vOp w = 0x3A || vOp w = 0x3E then 1
  else dataUnits (vFmt w) (vLen w) + scaleUnits (vFmt w) (vLen w)

/-- Units of S2, or none where an OP has no second operand (R135, R136, R175). -/
def s2Units (w : Nat) : Option Nat :=
  let op := vOp w
  if op = 6 || op = 7 || (0x20 ≤ op && op ≤ 0x38) || op = 0x3C then none
  else if 0x38 ≤ op then some 1
  else if op = 8 then some (dataUnits 8 (vLen w))
  else some (dataUnits (vFmt w) (vLen w))

/-- What an instruction reads, in order (R88, R108, R116). -/
def reads (w : Nat) : List Opnd :=
  match iClass w with
  | 1 =>
    let f := mmaFmt w
    [opnd (bit w 20) (bits w 19 16) (tileUnits f (mmaM w) (mmaK w)),
     opnd (bit w 15) (bits w 14 11) (tileUnits f (mmaN w) (mmaK w))]
    ++ [⟨false, bits w 10 7, mmaM w / 8 * mmaN w⟩]
    ++ (if bit w 5 then [⟨false, 15, 3⟩] else [])
  | 2 =>
    [opnd (bit w 25) (bits w 24 21) (s1Units w)]
    ++ (match s2Units w with
      | some n => [opnd (bit w 20) (bits w 19 16) n]
      | none => [])
    ++ (if vOp w = 3 then [⟨false, vD w, dataUnits (vFmt w) (vLen w)⟩] else [])
  | 3 =>
    [opnd (bit w 25) (bits w 24 21) (dataUnits (vFmt w) (vLen w))]
    ++ (if sfnGated (vOp w) then [opnd (bit w 20) (bits w 19 16) (dataUnits (vFmt w) (vLen w))] else [])
  | 4 => if bit w 39 then [⟨false, bits w 38 35, iNout w⟩] else []
  | _ => []

/-- Units of a VEC or SFN result. -/
def resultUnits (w : Nat) : Nat :=
  let op := vOp w
  if iClass w = 3 then dataUnits (sfnDst op (vFmt w)) (vLen w)
  else if 0x20 ≤ op && op < 0x30 then
    dataUnits (vDstFmt w) (vLen w) + (if 0x28 ≤ op then scaleUnits (vDstFmt w) (vLen w) else 0)
  else if (0x30 ≤ op && op != 0x3B) then 1
  else dataUnits (vFmt w) (vLen w)

/-- The address register and units that an instruction writes in scratch. -/
def writesTo (w : Nat) : Option (Nat × Nat) :=
  match iClass w with
  | 1 => some (bits w 10 7, mmaM w / 8 * mmaN w)
  | 2 => if vDq w then none else some (vD w, resultUnits w)
  | 3 => if vDq w then none else some (vD w, resultUnits w)
  | 4 => if bit w 39 then none else some (bits w 38 35, iNin w)
  | _ => none

/-- Entries that an operation takes from input queue q: at least NIN + 1 of a queue in INQ, and
every unit of the operands that come from it (R84, R109). DEDUCED (assumption log 78). -/
def needOf (w q : Nat) : Nat :=
  let u := (reads w).foldl (fun n o => if o.isQ && o.idx = q then n + o.units else n) 0
  max u (if bit (iInq w) q then iNin w else 0)

/-- The instruction sends entries to its outputs (R88). -/
def sends (w : Nat) : Bool :=
  (iClass w = 4 && bit w 39) || ((iClass w = 2 || iClass w = 3) && vDq w)

/-- FP32 words with the flags gathered in forming them. -/
abbrev FW := Word × Flags

def wAdd (a b : FW) : FW := let r := r32 (addN (v32 a.1) (v32 b.1)); (r.1, a.2 ||| b.2 ||| r.2)
def wSub (a b : FW) : FW :=
  let r := r32 (addN (v32 a.1) (v32 b.1).negate); (r.1, a.2 ||| b.2 ||| r.2)
def wMul (a b : FW) : FW := let r := r32 (mulN (v32 a.1) (v32 b.1)); (r.1, a.2 ||| b.2 ||| r.2)
def wDiv (a b : FW) : FW := let r := r32 (divN (v32 a.1) (v32 b.1)); (r.1, a.2 ||| b.2 ||| r.2)
def wFma (a b c : FW) : FW :=
  let r := fma32 (v32 a.1) (v32 b.1) c.1; (r.1, a.2 ||| b.2 ||| c.2 ||| r.2)
def wNum (x : Num) : FW := r32 (x, 0)
def wNeg (a : FW) : FW := (BitVec.ofNat 32 (rne fp32 (v32 a.1).negate).1, a.2)

/-- A normalisation state (R175): count, mean, and sum of squared differences. -/
structure NState where
  n : FW
  m : FW
  m2 : FW
deriving DecidableEq, Repr

/-- One element into a lane of MV, or of MSQ (R176, R177). -/
def laneStep (sq : Bool) (s : NState) (x : FW) : NState :=
  let n := wAdd s.n (wNum (ofInt 1))
  if sq then { s with n := n, m := wAdd s.m (wDiv (wFma x x (wNeg s.m)) n) }
  else
    let m := wAdd s.m (wDiv (wSub x s.m) n)
    ⟨n, m, wFma (wSub x s.m) (wSub x m) s.m2⟩

/-- The combination step of R176, or of R177, which holds M2 at +0. -/
def laneJoin (sq : Bool) (a b : NState) : NState :=
  let n := wAdd a.n b.n
  let w := wDiv b.n n
  let d := wSub b.m a.m
  let m := wFma d w a.m
  if sq then ⟨n, m, (0, 0)⟩
  else ⟨n, m, wFma (wMul d d) (wMul a.n w) (wAdd a.m2 b.m2)⟩

/-- One level of pairs: items 2i and 2i + 1 combined (R143). -/
def pairUp {α : Type} (g : α → α → α) : List α → List α
  | a :: b :: r => g a b :: pairUp g r
  | l => l

/-- Five levels of pairs over 32 lanes (R143). -/
def pairLanes {α : Type} (g : α → α → α) (l : List α) : List α :=
  pairUp g (pairUp g (pairUp g (pairUp g (pairUp g l))))

/-- The elements of lane j, in ascending order (R143). -/
def laneOf {α : Type} (xs : List α) (j : Nat) : List α := (chunks 32 xs).filterMap fun r => r[j]?

/-- The state of three words at the front of a byte list. -/
def readState (b : List Byte) : NState :=
  let g := fun i => ((BitVec.ofNat 32 (fld b (4 * i) 4), 0) : FW)
  ⟨g 0, g 1, g 2⟩

/-- Words as bytes. -/
def wordsLE (ws : List Word) : List Byte := ws.flatMap fun w => toLE w.toNat 4

/-- Canonical NaN in every element of a state (R178). -/
def nanState : List Byte := wordsLE (List.replicate 3 0x7FC00000#32)

/-- A state as bytes, with the flags gathered in forming it. -/
def stateOut (s : NState) : List Byte × Flags :=
  (wordsLE [s.n.1, s.m.1, s.m2.1], s.n.2 ||| s.m.2 ||| s.m2.2)

/-- The rows of R158 in which every element is equal: those of this instruction equal one another
and, with a left state, its mean, and its M2 is +0. DEDUCED (assumption log 86). -/
def constRow (xs : List Num) (left : Option NState) : Bool :=
  let eq := fun (a b : Num) => a.isFin && b.isFin && leN a b && leN b a
  let x := xs.headD .nan
  xs.all (eq x) && (match left with
    | some l => eq x (v32 l.m.1) && (v32 l.m2.1).isZero
    | none => true)

/-- MV and MSQ (R176, R177), combined with a left operand for the accumulating forms. The exact count
of the combined state is held to 2^24 before anything is rounded (R178); a row of equal elements
raises no flag (R158). DEDUCED (assumption log 86). -/
def meanVar (sq : Bool) (xs : List Num) (left : Option NState) : List Byte × Flags :=
  let zero : NState := ⟨(0, 0), (0, 0), (0, 0)⟩
  let ws := xs.map wNum
  let lanes := (List.range 32).map fun j => (laneOf ws j).foldl (laneStep sq) zero
  let s := (pairLanes (laneJoin sq) lanes).headD zero
  match left with
  | none => stateOut s
  | some l =>
    if ltN (ofInt (2 ^ 24)) (addN (v32 l.n.1) (ofInt xs.length)).1 then
      (nanState, (stateOut s).2 ||| fNV)
    else
      let r := stateOut (laneJoin sq l s)
      (r.1, if !sq && constRow xs left then 0 else r.2)

/-- MVFIN and MSFIN (R175, R178). -/
def finish (sq : Bool) (s : NState) (eps : FW) : List Byte × Flags :=
  let words := [s.n, s.m, s.m2]
  if words.any (fun w => v32 w.1 = .inf false || v32 w.1 = .inf true) then
    (nanState, fNV)
  else
    let mean := (wNum (v32 s.m.1)).1
    let v := if sq then s.m else wDiv s.m2 s.n
    let t := wAdd v eps
    let r := rsqrtF fp32 (v32 t.1)
    let f := t.2 ||| r.2
    if sq then (wordsLE [0, BitVec.ofNat 32 r.1, mean], f)
    else (wordsLE [mean, BitVec.ofNat 32 r.1, v.1], f)

/-- Round an exact integer quotient to nearest even and saturate (R130). -/
def intScaleb (x k : Int) : Int × Flags :=
  match mulN (ofInt x) (pow2 (max (-100) (min 100 k))) with
  | (.fin s n d e, _) =>
    let (a, b) := asFrac n d e
    let (q, inex) := roundNat .rne s a b
    let r := satInt 32 (if s then -(q : Int) else q)
    (r.1, r.2 ||| (if inex then fNX else 0))
  | _ => (0, 0)

/-- INT32 arithmetic, bitwise and shift codes (R130, R135). -/
def vecInt (op a b c : Nat) : Nat × Flags :=
  let x := signed 32 a
  let y := signed 32 b
  let fin := fun (r : Int × Flags) => (unsigned 32 r.1, r.2)
  match op with
  | 0x00 => fin (satInt 32 (x + y))
  | 0x01 => fin (satInt 32 (x - y))
  | 0x02 => fin (satInt 32 (x * y))
  | 0x03 => fin (satInt 32 (x * y + signed 32 c))
  | 0x04 => (if x ≤ y then a else b, 0)
  | 0x05 => (if x ≤ y then b else a, 0)
  | 0x06 => fin (satInt 32 x.natAbs)
  | 0x07 => fin (satInt 32 (-x))
  | 0x08 => fin (intScaleb x y)
  | 0x09 => (a &&& b, 0)
  | 0x0A => (a ||| b, 0)
  | 0x0B => (a ^^^ b, 0)
  | 0x0C => (a * 2 ^ (b % 32) % 2 ^ 32, 0)
  | _ => (unsigned 32 (x / (2 ^ (b % 32) : Nat)), 0)

/-- Floating-point arithmetic codes (R135): one rounding under RNE. -/
def vecFloat (f : FFmt) (op : Nat) (x y z : Num) (k : Int) : Nat × Flags :=
  let fin := fun (r : Num × Flags) => let q := rne f r.1; (q.1, r.2 ||| q.2)
  let pick := fun (v : Num) => if x.isNan || y.isNan then (nanOf f, (0 : Flags)) else ((rne f v).1, 0)
  match op with
  | 0x00 => fin (addN x y)
  | 0x01 => fin (addN x y.negate)
  | 0x02 => fin (mulN x y)
  | 0x03 => fin (fmaN x y z)
  | 0x04 => pick (if ltN y x then y else x)
  | 0x05 => pick (if ltN x y then y else x)
  | 0x06 => ((rne f x.abs).1, 0)
  | 0x07 => ((rne f x.negate).1, 0)
  | _ => fin (mulN x (pow2 (max (-8000) (min 8000 k))))

/-- OR of the flags of a list of results. -/
def orFlags {α : Type} (l : List (α × Flags)) : Flags := l.foldl (fun a r => a ||| r.2) 0

/-- Elementwise VEC arithmetic: the bytes of S1, S2 and D. -/
def vecElems (op fmt n : Nat) (s1 s2 d : List Byte) : List Byte × Flags :=
  let w := fmtWidth fmt
  let rs := (List.range n).map fun i =>
    let a := elemAt w s1 i
    let b := elemAt (if op = 8 then 32 else w) s2 i
    let c := elemAt w d i
    match ffmt fmt with
    | some f =>
      vecFloat f op (decodeF f a) (if op = 8 then ofInt 0 else decodeF f b) (decodeF f c) (signed 32 b)
    | none => vecInt op a b c
  (packElems w (rs.map (·.1)), orFlags rs)

/-- Source elements of a conversion with their scales applied (R131, R136). -/
def sourceElems (fmt n : Nat) (b : List Byte) : List (Num × Flags) :=
  let w := fmtWidth fmt
  let base := 32 * dataUnits fmt n
  (List.range n).map fun i =>
    let x := elemN fmt (elemAt w b i)
    if isBlockFmt fmt then scaled x (fld b (base + i / 32) 1) else (x, 0)

/-- A conversion code (R136): data, then the scales of KIND 2 in units of their own. -/
def vecConvert (op fmt dst n : Nat) (b : List Byte) : List Byte × Flags :=
  let xs := sourceElems fmt n b
  let mode := rmode (op % 4)
  if op < 0x28 then
    let rs := xs.map fun x => let r := convertTo fmt dst mode (decide (0x24 ≤ op)) x.1; (r.1, x.2 ||| r.2)
    (packElems (fmtWidth dst) (rs.map (·.1)), orFlags rs)
  else
    let blocks := (chunks 32 xs).map fun c => (convertBlock dst mode (c.map (·.1)), orFlags c)
    let data := packElems (fmtWidth dst) (blocks.flatMap (·.1.1))
    let scales := blocks.map fun c => BitVec.ofNat 8 c.1.2.1
    (slice data 0 (32 * dataUnits dst n) ++ slice scales 0 (32 * scaleUnits dst n),
      blocks.foldl (fun f c => f ||| c.1.2.2 ||| c.2) 0)

/-- One step of a reduction in its accumulation format (R143). -/
def redStep (op acc : Nat) (a x : Nat × Flags) : Nat × Flags :=
  let fl := a.2 ||| x.2
  match ffmt acc with
  | some f =>
    let r := vecFloat f (if op = 0x31 then 5 else if op = 0x32 then 4 else 0)
      (decodeF f a.1) (decodeF f x.1) (ofInt 0) 0
    (r.1, fl ||| r.2)
  | none =>
    let r := vecInt (if op = 0x31 then 5 else if op = 0x32 then 4 else 0) a.1 x.1 0
    (r.1, fl ||| r.2)

/-- One element into a lane of RSUMSQ: acc + x × x, rounded once. -/
def sqStep (acc : Nat) (a : Nat × Flags) (x : Nat) : Nat × Flags :=
  match ffmt acc with
  | some f =>
    let r := vecFloat f 3 (decodeF f x) (decodeF f x) (decodeF f a.1) 0
    (r.1, a.2 ||| r.2)
  | none =>
    let r := vecInt 3 x x a.1
    (r.1, a.2 ||| r.2)

/-- A reduction code (R143): lanes start at their first element. -/
def vecReduce (op fmt n : Nat) (b : List Byte) : List Byte × Flags :=
  let acc := if fmt = 9 || fmt = 8 then fmt else 0
  let w := fmtWidth fmt
  let xs := (elems w b n).map fun e =>
    match ffmt fmt, ffmt acc with
    | some f, some g => (rne g (decodeF f e)).1
    | _, _ => e
  let sq := fun (e : Nat) =>
    match ffmt acc with
    | some f => vecFloat f 2 (decodeF f e) (decodeF f e) (ofInt 0) 0
    | none => vecInt 2 e e 0
  let lane := fun (l : List Nat) =>
    match l with
    | [] => ((0, 0) : Nat × Flags)
    | e :: r =>
      if op = 0x33 then r.foldl (sqStep acc) (sq e)
      else r.foldl (fun a x => redStep op acc a (x, 0)) (e, 0)
  let lanes := (List.range 32).map fun j => lane (laneOf xs j)
  let r := (pairLanes (redStep op acc) lanes).headD (0, 0)
  (toLE r.1 4, r.2)

/-- NORM (R175): (S1 − S2[0]) × S2[1], exact, rounded once into FMT. S2[1] = +infinity is what the
finishing codes write where variance + ε is +0: every output is canonical NaN with NV (R158, R178).
DEDUCED (assumption log 86). -/
def vecNorm (fmt n : Nat) (s1 s2 : List Byte) : List Byte × Flags :=
  match ffmt fmt with
  | none => ([], 0)
  | some f =>
    let m := decodeF fp32 (fld s2 0 4)
    let r := decodeF fp32 (fld s2 4 4)
    let rs := (elems (fmtWidth fmt) s1 n).map fun e =>
      let d := addN (decodeF f e) m.negate
      let p := if r = .inf false then (Num.nan, fNV) else mulN d.1 r
      let q := rne f p.1
      (q.1, d.2 ||| p.2 ||| q.2)
    (packElems (fmtWidth fmt) (rs.map (·.1)), orFlags rs)

/-- The value of a VEC instruction from the bytes of its operands in order. -/
def vecEval (w : Nat) (ops : List (List Byte)) : List Byte × Flags :=
  let op := vOp w
  let fmt := vFmt w
  let n := vLen w
  let s1 := ops.getD 0 []
  let s2 := ops.getD 1 []
  let nums := fun (_ : Unit) => match ffmt fmt with
    | some f => (elems (fmtWidth fmt) s1 n).map (decodeF f)
    | none => []
  if op < 0x20 then vecElems op fmt n s1 s2 (ops.getD 2 [])
  else if op < 0x30 then vecConvert op fmt (vDstFmt w) n s1
  else if op < 0x38 then vecReduce op fmt n s1
  else match op with
    | 0x38 => meanVar false (nums ()) none
    | 0x39 => meanVar false (nums ()) (some (readState s2))
    | 0x3A => finish false (readState s1) (BitVec.ofNat 32 (fld s2 0 4), 0)
    | 0x3B => vecNorm fmt n s1 s2
    | 0x3C => meanVar true (nums ()) none
    | 0x3D => meanVar true (nums ()) (some (readState s2))
    | _ => finish true (readState s1) (BitVec.ofNat 32 (fld s2 0 4), 0)

/-- The value of an SFN instruction. -/
def sfnOp (w : Nat) (tabs : Nat → Option (List Byte)) (ops : List (List Byte)) : List Byte × Flags :=
  match ffmt (vFmt w) with
  | none => ([], 0)
  | some f =>
    let wd := fmtWidth (vFmt w)
    let rs := (List.range (vLen w)).map fun i =>
      sfnEval (vOp w) (vFmt w) tabs (decodeF f (elemAt wd (ops.getD 0 []) i))
        (decodeF f (elemAt wd (ops.getD 1 []) i))
    (packElems (fmtWidth (sfnDst (vOp w) (vFmt w))) (rs.map (·.1)), orFlags rs)

/-- Products per group of K (R79, R141). -/
def mmaP (fmt : Nat) : Nat :=
  match fmtWidth fmt with
  | 4 => 4
  | 8 => 2
  | _ => 1

/-- One output element of an MMA (R141): row i of A, column j of B, starting from C's word. -/
def mmaElem (fmt k : Nat) (a b : List Byte) (na nb i j : Nat) (c : FW) : FW :=
  let w := fmtWidth fmt
  let p := mmaP fmt
  (List.range (k / p)).foldl (fun acc g =>
    let el := fun (x : List Byte) (r t : Nat) => panelElem w k x r (g * p + t)
    match ffmt fmt with
    | some f =>
      let dot := dotN ((List.range p).map fun t => (decodeF f (el a i t), decodeF f (el b j t)))
      let sc := if isBlockFmt fmt then
          let sa := fld a (32 * na + i * (k / 32) + g * p / 32) 1
          let sb := fld b (32 * nb + j * (k / 32) + g * p / 32) 1
          if sa = 255 || sb = 255 then (Num.nan, fNV)
          else (pow2 ((sa : Int) - 127 + (sb - 127)), 0)
        else (ofInt 1, 0)
      let pr := mulN dot.1 sc.1
      let s := addN (v32 acc.1) pr.1
      let r := r32 s
      (r.1, acc.2 ||| dot.2 ||| sc.2 ||| pr.2 ||| r.2)
    | none =>
      let wi := (intWidth fmt).getD 8
      let dot := (List.range p).foldl (fun n t => n + signed wi (el a i t) * signed wi (el b j t)) 0
      let r := satInt 32 (signed 32 acc.1.toNat + dot)
      (BitVec.ofInt 32 r.1, acc.2 ||| r.2)) c

/-- The value of an MMA (R108, R116, R141): operands A, B, C and the mask record. -/
def mmaEval (w : Nat) (ops : List (List Byte)) : List Byte × Flags :=
  let f := mmaFmt w
  let (m, n, k) := (mmaM w, mmaN w, mmaK w)
  let a := ops.getD 0 []
  let b := ops.getD 1 []
  let c := ops.getD 2 []
  let mask := ops.getD 3 []
  let na := m / 8 * (k * fmtWidth f / 32)
  let nb := n / 8 * (k * fmtWidth f / 32)
  let on := fun i j => !(bit w 5) ||
    (bit (fld mask (32 + i / 8) 1) (i % 8) && bit (fld mask (64 + j / 8) 1) (j % 8))
  let rs := (List.range (m / 8 * n * 8)).map fun x =>
    let i := x / (8 * n) * 8 + x % 8
    let j := x / 8 % n
    if on i j then
      mmaElem f k a b na nb i j
        (if bit w 6 then (BitVec.ofNat 32 (panelElem 32 n c i j), 0) else (0, 0))
    else (BitVec.ofNat 32 (fld mask 0 4), 0)
  (wordsLE (rs.map (·.1)), orFlags rs)

/-- Valid operation and format of a VEC instruction (R135, R136, R175). -/
def vecValid (w : Nat) : Bool :=
  let op := vOp w
  let f := vFmt w
  if op ≤ 0x08 then f = 0 || f = 1 || f = 2 || f = 8 || f = 9
  else if op ≤ 0x0D then f = 8
  else if 0x20 ≤ op && op ≤ 0x2B then
    f ≤ 9 && vDstFmt w ≤ 9 && !bit w 20 && (op < 0x28 || isBlockFmt (vDstFmt w))
  else if 0x30 ≤ op && op ≤ 0x33 then f = 0 || f = 1 || f = 2 || f = 8 || f = 9
  else if 0x38 ≤ op && op ≤ 0x3E then f = 0 || f = 1 || f = 2
  else false

/-- A mask names exactly one. -/
def oneOf (m : Nat) : Bool := m = 1 || m = 2 || m = 4 || m = 8

/-- The compatibility codes of R160. -/
def sfnCompat (fn : Nat) : Bool := 0x30 ≤ fn && fn ≤ 0x35

/-- The codes that read a loaded table. -/
def sfnTable (fn : Nat) : Bool := (0x18 ≤ fn && fn ≤ 0x1B) || (0x20 ≤ fn && fn ≤ 0x23)

/-- The class and field values of an instruction are defined (R87, R88, R94); `compat` and `tables`
say whether the features of R179 and R375 are there. -/
def instrOk (compat tables : Bool) (w : Nat) : Bool :=
  (iInq w != 0 || iNin w = 1) && (iOutq w != 0 || iNout w = 1) &&
  match iClass w with
  | 0 => true
  | 1 => mmaFmt w ≤ 7 && (!bit w 15 || mmaM w = 8) && (!isBlockFmt (mmaFmt w) || mmaK w % 32 = 0)
  | 2 => vecValid w && (!vDq w || iOutq w != 0)
  | 3 => sfnValid (vOp w) (vFmt w) && (compat || !sfnCompat (vOp w)) && (tables || !sfnTable (vOp w))
      && (!vDq w || iOutq w != 0)
  | 4 => if bit w 39 then oneOf (iOutq w) else oneOf (iInq w)
  | 5 => true
  | 6 =>
    let op := bits w 39 36
    if op = 1 then oneOf (iInq w) && iNin w = 1
    else if op = 2 then bits w 35 34 ≤ 2
    else op ≤ 4
  | _ => false

/-- Instruction i of a seat image (R92). -/
def imgInstr (img : List Byte) (i : Nat) : Nat := fld img (0x180 + 8 * i) 8

/-- The number of instructions of an image. -/
def imgCount (img : List Byte) : Nat := fld img 1 1 + 1

/-- LOOP fields: level and END (R88). -/
def loopLevel (w : Nat) : Nat := bits w 39 38
def loopEnd (w : Nat) : Nat := bits w 37 30

/-- The loops of a program, as (position, level, END). -/
def loopsOf (img : List Byte) : List (Nat × Nat × Nat) :=
  (List.range (imgCount img)).filterMap fun i =>
    let w := imgInstr img i
    if iClass w = 5 then some (i, loopLevel w, loopEnd w) else none

/-- The loops obey R85: END behind the LOOP and inside the program, bodies nested by level. -/
def loopsOk (img : List Byte) : Bool :=
  let ls := loopsOf img
  ls.all fun (i, k, e) => i < e && e < imgCount img &&
    ls.all fun (i', k', e') => !(i < i' && i' ≤ e) || (k' < k && e' ≤ e)

/-- Depth of input queue q of an image. -/
def imgDepth (img : List Byte) (q : Nat) : Nat := fld img (0x130 + 2 * q) 2

/-- Steering entry i of a bank (R89). -/
def bankEntry (img : List Byte) (i : Nat) : Nat := fld img (0x140 + 4 * i) 4

/-- The steering bank obeys R89. -/
def bankOk (img : List Byte) : Bool :=
  let es := (List.range 16).map (bankEntry img)
  let dst := fun d => d ≤ 32 || d = 63
  es.all (fun e =>
    let mode := bits e 2 0
    mode = 0 || (mode ≤ 4 && bits e 6 3 ≤ 8 && (mode != 2 || bits e 10 7 ≤ 8) && dst (bits e 16 11)
      && dst (bits e 22 17) && bits e 27 26 ≤ 2)) &&
  (List.range 8).all fun c =>
    (es.filter fun e => 1 ≤ bits e 2 0 && bits e 2 0 ≤ 3 && bits e 25 23 = c).length ≤ 1

/-- The load check of an image (R94); `first` for the image of oar 0, which carries the bank. The list of
R94 does not name FORMAT and the single depths, which R92 fixes: they are checked too. DESIGN CHOICE
(assumption log 87). -/
def imgOk (compat tables first : Bool) (img : List Byte) : Bool :=
  let qs := (List.range 4).map (imgDepth img)
  fld img 0 1 = 1 && (List.range (imgCount img)).all (fun i => instrOk compat tables (imgInstr img i))
    && loopsOk img && qs.all (fun d => d % 8 = 0 && d ≤ 512) && qs.foldl (· + ·) 0 ≤ 512
    && (!first || bankOk img)

/-- The image uses a compatibility code (R181). -/
def usesCompat (img : List Byte) : Bool :=
  (List.range (imgCount img)).any fun i =>
    iClass (imgInstr img i) = 3 && sfnCompat (vOp (imgInstr img i))

/-- Address register n of an image at loop indices and a round (R86), in units. -/
def arAddr (img : List Byte) (n : Nat) (idx : List Nat) (round : Nat) : Int :=
  let a := fld img (0x10 + 16 * n) 16
  let st := fun hi lo => signed 13 (bits a hi lo)
  (bits a 11 0 : Int) + st 24 12 * idx.getD 0 0 + st 37 25 * idx.getD 1 0 + st 50 38 * idx.getD 2 0
    + st 63 51 * idx.getD 3 0 + st 76 64 * round

end Sys2Proof.Machine
end

