-- ==== Sys2Proof/Machine/GridOps.lean ====
section
/-!
DEFINITION. The oar grid, shared operations: packets entering the package network (R221, R227,
R229), routes and multicast sets (R92, R117), end-to-end credits (R97, R103), entries arriving at
input queues (R123), shells that stop or halt (R96, R124), and entering a seat (R95).
-/
namespace Sys2Proof.Machine
open Sys2Proof

/-- Keys of oars, shells and input queues (R77). -/
def oarKey (die oar : Nat) : Nat := die * 2048 + oar
def shellKey (die sh : Nat) : Nat := die * 256 + sh
def qKey (die oar q : Nat) : Nat := oarKey die oar * 4 + q

/-- Queues of the package network: router inputs (ports 0 north to 4 local), ring inputs, and the
ring station's queues from the mesh and from the ring (R229). -/
def meshQ (die router inp vc : Nat) : Nat := ((die * 256 + router) * 5 + inp) * 5 + vc
def ringQ (stop : Nat) (down : Bool) (vc : Nat) (dl : Bool) : Nat :=
  2 ^ 20 + ((stop * 2 + b2n down) * 5 + vc) * 2 + b2n dl
def outQ (stop vc : Nat) : Nat := 2 ^ 21 + stop * 5 + vc
def inQ (stop vc : Nat) : Nat := 2 ^ 22 + stop * 5 + vc

/-- Depth of a queue in flits (R229). -/
def netDepth (q : Nat) : Nat := if q < 2 ^ 20 then 18 else if q < 2 ^ 21 then 64 else 128

/-- Flits of a packet (R221). -/
def flitsOf (p : Pkt) : Nat := 1 + (p.data.length + 31) / 32

/-- Put a packet behind a queue, using one link credit for each flit. -/
def pushQ (s : State) (q : Nat) (p : Pkt) : State :=
  { s with net := { s.net with
      queues := mset s.net.queues q (mgetD s.net.queues q [] ++ [p])
      used := mset s.net.used q (mgetD s.net.used q 0 + flitsOf p) } }

/-- There is a link credit for every flit of a packet. -/
def roomQ (s : State) (q : Nat) (p : Pkt) : Bool :=
  mgetD s.net.used q 0 + flitsOf p ≤ netDepth q

/-- Units at the ring station of a compute die (R222). -/
def atStation (u : Nat) : Bool := u = 10 || u = 11 || u = 14 || u = 15

/-- The queue by which a unit's packets enter the network: the local input of its shell's router, or
its ring station (R225, R227). -/
def entryQ (p : Pkt) : Nat :=
  if p.src.die < 8 && !atStation p.src.unit then meshQ p.src.die (16 * p.src.sy + p.src.sx) 4 p.vc
  else if p.src.die = p.dest.die then inQ p.src.die p.vc
  else outQ p.src.die p.vc

/-- Inject a packet of a unit: it waits at the unit, behind earlier ones, while the queue it enters has
no link credits (R229). -/
def inject (s : State) (p : Pkt) : State :=
  let q := entryQ p
  let w := mgetD s.net.outbox q []
  if w.isEmpty && roomQ s q p then pushQ s q p
  else { s with net := { s.net with outbox := mset s.net.outbox q (w ++ [p]) } }

/-- A link credit of a queue has returned: the packet that waits first enters, where it can. -/
def pumpOutbox (s : State) (q : Nat) : State :=
  match mgetD s.net.outbox q [] with
  | p :: r =>
    if roomQ s q p then pushQ { s with net := { s.net with outbox := mset s.net.outbox q r } } q p
    else s
  | [] => s

/-- Change an oar. -/
def oarMod (s : State) (k : Nat) (f : Oar → Oar) : State :=
  { s with grid := { s.grid with oars := mmod s.grid.oars k f } }

/-- An oar on which nothing has started. DESIGN CHOICE (assumption log 4). -/
def Oar.idle : Oar :=
  { pc := 0, halted := false, inSeat := false, image := [], standby := none, standbyBad := false
    trips := [0, 0, 0, 0], idx := [0, 0, 0, 0], active := [false, false, false, false]
    cr := List.replicate 16 0, iq := [[], [], [], []], oq0 := [], oq1 := [], condq := [], ops := []
    flags := 0, ctr := List.replicate 17 0, tables := [], standbyTables := [] }

/-- A shell on which nothing has started. -/
def Shell.idle : Shell :=
  { owner := none, slot := none, seat := 0, round := 0, rounds := 0, running := false
    draining := false, drained := false, frozen := false, power := .run, steer := [] }

/-- A shell. -/
def shellGet (s : State) (k : Nat) : Shell := mgetD s.grid.shells k Shell.idle

/-- Set a shell. -/
def shellSet (s : State) (k : Nat) (x : Shell) : State :=
  { s with grid := { s.grid with shells := mset s.grid.shells k x } }

/-- The oars of a shell, by key. -/
def shellOars (s : State) (k : Nat) : List (Nat × Oar) :=
  (List.range 8).filterMap fun j => (mget s.grid.oars (8 * k + j)).map fun o => (8 * k + j, o)

/-- GRIDn.STOPPED of a shell (R102). -/
def stopped (s : State) (k : Nat) : Bool :=
  bit (rg s .grid (k / 256) (0x080 + 4 * (k % 256 / 32))) (k % 32)

/-- T0 units left to each oar by the sprint reservation (R198). -/
def scratchUnits (s : State) : Nat := 4096 - 136 * rf s .attn 0 0x044 4 0

/-- Bytes of a sprint unit: an FP4 head slice at D = 128 (R184). -/
def unitSize : Nat := 34816

/-- Where byte i of the slice of unit u of an area stands in T0 (R197, R198): in shell u mod 2,048, as
slice area × SLICES ÷ 2 + u div 2,048 of the reservation at the top of each oar's scratch; unit k of the
slice goes to oar k mod 8. -/
def sliceByte (s : State) (area : Bool) (u i : Nat) : Nat :=
  let j := (if area then rf s .attn 0 0x044 4 0 / 2 else 0) + u / 2048
  (8 * (u % 2048) + i / 32 % 8) * 131072 + 32 * (scratchUnits s + 136 * j + i / 256) + i % 32

/-- The bytes of a sprint unit. -/
def sliceGet (s : State) (area : Bool) (u : Nat) : List Byte :=
  (List.range unitSize).map fun i => rdB s.grid.scratch (sliceByte s area u i)

/-- Store bytes of a sprint unit, from its first on. -/
def slicePut (s : State) (area : Bool) (u : Nat) (b : List Byte) : State :=
  { s with grid := { s.grid with
    scratch := b.zipIdx.foldl (fun m x => wrB m (sliceByte s area u x.2) x.1) s.grid.scratch } }

/-- A shell is sprint-armed (R50): armed, with a unit of a sprint set in its T0 (R197). -/
def sprintArmed (s : State) (k : Nat) : Bool :=
  s.sprint.armedUnits && s.sprint.units.any fun e => e.1 % 16384 % 2048 = k

/-- Record a fault in the TILE page (R123, R125). -/
def tileFault (s : State) (die code oar pc list addr crew : Nat) : State :=
  let s := if rf s .tile die 0x048 30 30 = 1 then rput s .tile die 0x048 31 31 1
    else
      let old := rf s .tile die 0x048 31 31
      let s := rset s .tile die 0x048 (code + 2 ^ 8 * (oar % 2048) + 2 ^ 30 + 2 ^ 31 * old)
      rset (rset s .tile die 0x04C (pc % 256 + 2 ^ 8 * (list % 64))) .tile die 0x050 (addr % 2 ^ 32)
  recordErr s .tile die code addr crew

/-- The flags of a command's shells (R138). -/
def shellFlags (s : State) (slot : Nat) : Flags :=
  s.grid.shells.foldl (fun f e =>
    if e.2.slot = some slot then (shellOars s e.1).foldl (fun f o => f ||| o.2.flags) f else f) 0

/-- A PROG_START ends once every shell it started has halted or stopped (R285). -/
def progEnd (s : State) (i : Nat) : State :=
  match slotGet s i with
  | none => s
  | some c =>
    if s.grid.shells.any (fun e => e.2.slot = some i && e.2.running) then s
    else
      let f := shellFlags s i
      let free := fun (_ : Nat) (x : Shell) => if x.slot = some i then { x with slot := none } else x
      let s := { s with grid := { s.grid with shells := mmapv s.grid.shells free } }
      endCmd s i c.status c.detail 0 f

/-- The standby copies of an oar's table slots become live (R167). -/
def tablesLive (o : Oar) : Oar :=
  { o with tables := msetAll o.tables o.standbyTables, standbyTables := [] }

/-- A shell no longer runs its program: `code` 0 where it halted (R96, R124). -/
def shellEnd (s : State) (k code detail : Nat) : State :=
  let x := shellGet s k
  let s := shellSet s k { x with running := false, draining := false, frozen := code != 0 }
  let s := (List.range 8).foldl (fun s j => oarMod s (8 * k + j) tablesLive) s
  match x.slot with
  | none => s
  | some i =>
    let s := slotMod s i fun c =>
      if code != 0 && c.status = 0 then { c with status := code, detail := detail } else c
    progEnd s i

/-- Stop a shell: its STOPPED bit, and the end of its program with the code (R124). -/
def haltShell (s : State) (k code detail : Nat) : State :=
  let off := 0x080 + 4 * (k % 256 / 32)
  let s := rset s .grid (k / 256) off (rg s .grid (k / 256) off ||| 2 ^ (k % 32))
  shellEnd s k code detail

/-- Stop a shell on a fault of R123 or R232, recorded in the TILE page. -/
def stopTile (s : State) (k code oar pc list addr : Nat) : State :=
  let crew := (shellGet s k).owner.getD noCrew
  haltShell (tileFault s (k / 256) code oar pc list addr crew) k code oar

/-- Stop a shell with a code that the GRID page reports with an oar index (R94, R100, R104). -/
def stopGrid (s : State) (k code oar : Nat) : State :=
  let crew := (shellGet s k).owner.getD noCrew
  haltShell (recordErr s .grid (k / 256) code oar crew) k code oar

/-- A byte of a die's T1 by its offset in T1: that of the object placed there (R117, R205). -/
def t1Byte (s : State) (die off : Nat) : Byte :=
  match s.tier.objs.find? fun e =>
      e.2.tier = 1 && e.2.die = die && e.2.loc ≤ off && off < e.2.loc + e.2.size with
  | some (k, o) => rdB s.tier.data (uKey (k / 2 ^ 20) (k % 2 ^ 20 * 2 ^ 40 + (off - o.loc)))
  | none => 0

/-- An entry of a die's multicast set table (R117). -/
def mcastEntry (s : State) (die set : Nat) : List Byte :=
  (List.range 64).map fun i => t1Byte s die (rf s .tile die 0x044 26 0 + 64 * (set % 4096) + i)

/-- The input queues of a multicast set, or none where the entry is not valid. -/
def mcastQueues (s : State) (die set : Nat) : Option (List Nat) :=
  let e := mcastEntry s die set
  if bit (fld e 33 1) 7 then
    some ((onesOf (fld e 0 32) 256).flatMap fun sh =>
      (onesOf (fld e 32 1) 8).map fun k => qKey die (8 * sh + k) (fld e 33 1 % 4))
  else none

/-- Where a route of R92 or a DEST of R111 leads. -/
inductive Route where
  | unused
  | one (die sx sy oar iq : Nat)
  | many (idx : Nat)
deriving DecidableEq, Repr

/-- Read a route. -/
def parseRoute (r : Nat) : Route :=
  if bit r 31 then .many (r % 65536)
  else if bit r 30 then .one (bits r 19 16) (bits r 15 12) (bits r 11 8) (bits r 4 2) (bits r 1 0)
  else .unused

/-- The OQ0 route of an oar. -/
def oarRoute (o : Oar) : Route := parseRoute (fld o.image 0x138 4)

/-- The input queues that a route of a die leads to; none where its set is not valid. -/
def routeQueues (s : State) (die : Nat) : Route → Option (List Nat)
  | .unused => some []
  | .one d x y k q => some [qKey d (8 * (16 * y + x) + k) q]
  | .many i => mcastQueues s die i

/-- Steering entry i of a shell, from the image of its oar 0 (R92). -/
def steerEntry (s : State) (k i : Nat) : Nat :=
  match mget s.grid.oars (8 * k) with
  | some o => bankEntry o.image i
  | none => 0

/-- Destinations of a steering entry that take data: DSTA, and DSTB of SELECT and PASS. -/
def steerDsts (e : Nat) : List Nat :=
  let mode := bits e 2 0
  [bits e 16 11] ++ (if mode = 1 || (mode = 4 && bits e 22 17 != 63) then [bits e 22 17] else [])

/-- The oar that produces for an input queue, where one does (R82): the one whose OQ0 leads there, or
the first source of the steering entry that does. DEDUCED (assumption log 79). -/
def producerOf (s : State) (q : Nat) : Option Nat :=
  let k := q / 32
  match (List.range 16).find? fun i =>
      let e := steerEntry s k i
      bits e 2 0 != 0 && (steerDsts e).contains (q % 32) with
  | some i => some (8 * k + bits (steerEntry s k i) 6 3 % 8)
  | none =>
    (s.grid.oars.find? fun e => match routeQueues s (e.1 / 2048) (oarRoute e.2) with
      | some l => l.contains q
      | none => false).map (·.1)

/-- Credits for entries taken go back to the producer, or are withheld from one outside the
selection of a drain (R97, R103). -/
def creditBack (s : State) (q n : Nat) : State :=
  if n = 0 then s
  else
    let outside := match producerOf s q with
      | some k => !(shellGet s (k / 8)).draining
      | none => true
    if (shellGet s (q / 32)).draining && outside then
      { s with grid := { s.grid with withheld := mset s.grid.withheld q (mgetD s.grid.withheld q 0 + n) } }
    else { s with grid := { s.grid with owed := mset s.grid.owed q (mgetD s.grid.owed q 0 + n) } }

/-- Use one credit for each of several input queues. -/
def useCredits (s : State) (qs : List Nat) : State :=
  { s with grid := { s.grid with creds := qs.foldl (fun m q => mset m q (mgetD m q 0 - 1)) s.grid.creds } }

/-- Credits held for an input queue. -/
def credsFor (s : State) (q : Nat) : Nat := mgetD s.grid.creds q 0

/-- Move entries that operations in progress still need out of one input queue: the operations in
order, up to an END marker (R109). -/
def absorbOps (q : Nat) : List UnitOp → List QEntry → List UnitOp × List QEntry
  | [], es => ([], es)
  | op :: r, es =>
    let n := op.need.getD q 0
    let t := (es.take n).takeWhile (·.isSome)
    let op' := { op with
      need := op.need.modify q fun m => m - t.length
      got := op.got.modify q fun g => g ++ t.filterMap id }
    let (r', es') := absorbOps q r (es.drop t.length)
    (op' :: r', es')

/-- Operations of an oar take what has arrived; credits go back. -/
def absorb (s : State) (k : Nat) : State :=
  (List.range 4).foldl (fun s q =>
    match mget s.grid.oars k with
    | none => s
    | some o =>
      let es := o.iq.getD q []
      let (ops, es') := absorbOps q o.ops es
      if es'.length = es.length then s
      else creditBack (oarMod s k fun _ => { o with ops := ops, iq := o.iq.set q es' })
        (4 * k + q) (es.length - es'.length)) s

/-- An entry arrives at an input queue: a full queue stops the shell (R123). DESIGN CHOICE
(assumption log 20). -/
def arrive (s : State) (q : Nat) (e : QEntry) : State :=
  let k := q / 4
  let o := mgetD s.grid.oars k Oar.idle
  let es := o.iq.getD (q % 4) []
  if imgDepth o.image (q % 4) ≤ es.length then
    stopTile s (k / 8) 0x31 (k % 2048) o.pc 0 (q % 4)
  else
    let n := es.length + 1
    absorb (oarMod s k fun o => { o with
      iq := o.iq.set (q % 4) (es ++ [e])
      ctr := o.ctr.modify (6 + 3 * (q % 4)) (max n) }) k

/-- Place of an oar, or of a unit of a shell. -/
def placeOf (k unit sub : Nat) : Place :=
  ⟨k / 256, k % 16, k % 256 / 16, unit, sub⟩

/-- A QDATA or QEND packet (R223). -/
def qPacket (s : State) (src : Place) (dest : Place) (mc : Bool) (crew : Nat) (e : QEntry) : Pkt :=
  { dest := dest, mc := mc, src := src, cmd := if e.isSome then 0x00 else 0x01, vc := 3, dl := false
    crew := crew, status := 0, heat := s.heat.num % 65536, tag := 0, addr := 0, arg := 0
    data := e.getD [] }

/-- Send an entry along a route: packets for its queues, one credit each (R97, R118). -/
def sendRoute (s : State) (src : Place) (crew : Nat) (r : Route) (e : QEntry) : State :=
  match r, routeQueues s src.die r with
  | .one d x y k q, some qs => inject (useCredits s qs) (qPacket s src ⟨d, x, y, k, q⟩ false crew e)
  | .many i, some qs => inject (useCredits s qs) (qPacket s src ⟨src.die, 0, 0, 0, i⟩ true crew e)
  | _, _ => s

/-- Finished operations hand their entries to the output queues while these have room, 16 entries each
(R78); an operation that has handed over all of them leaves its unit. -/
def handOver (o : Oar) : Oar :=
  let f := fun (a : List UnitOp × List QEntry × List QEntry) (op : UnitOp) =>
    let n := 16 - a.2.1.length
    let m := 16 - a.2.2.length
    let op' := { op with out0 := op.out0.drop n, out1 := op.out1.drop m }
    (a.1 ++ (if op'.done && op'.out0.isEmpty && op'.out1.isEmpty then [] else [op']),
      a.2.1 ++ op.out0.take n, a.2.2 ++ op.out1.take m)
  let r := o.ops.foldl f ([], o.oq0, o.oq1)
  { o with ops := r.1, oq0 := r.2.1, oq1 := r.2.2 }

/-- The first entry of OQ0 leaves along the route: with a credit of every queue it leads to, and link
credits of the router's local input (R97, R118, R229). -/
def oq0Send (s : State) (k : Nat) : State :=
  match mget s.grid.oars k with
  | none => s
  | some o =>
    match oarRoute o, routeQueues s (k / 2048) (oarRoute o), o.oq0 with
    | .unused, _, _ => s
    | r, some qs, e :: es =>
      let src := placeOf (k / 8) (k % 8) 0
      let p := qPacket s src src false 0 e
      if qs.all (fun q => credsFor s q != 0) && (mgetD s.net.outbox (entryQ p) []).isEmpty
          && roomQ s (entryQ p) p then
        sendRoute (oarMod s k fun o => handOver { o with oq0 := es }) src
          ((shellGet s (k / 8)).owner.getD noCrew) r e
      else s
    | _, _, _ => s

/-- OQ0 of an oar sends what it can. -/
def pumpOar (s : State) (k : Nat) : State :=
  match mget s.grid.oars k with
  | none => s
  | some o =>
    (List.range (o.ops.foldl (fun n op => n + op.out0.length) o.oq0.length)).foldl
      (fun s _ => oq0Send s k) s

/-- The credits of a new seat's queues go to their producers; what their producers and the shell's
own outputs held is 0 (R95). -/
def seatCredits (s : State) (k : Nat) (old : List (Nat × Oar)) : State :=
  let outs := (old ++ shellOars s k).flatMap fun e => (routeQueues s (k / 256) (oarRoute e.2)).getD []
  let own := (List.range 32).map fun i => 32 * k + i
  let s := { s with grid := { s.grid with
    creds := (outs ++ own).foldl (fun m q => mset m q 0) s.grid.creds } }
  own.foldl (fun s q =>
    let o := mgetD s.grid.oars (q / 4) Oar.idle
    { s with grid := { s.grid with
        owed := mset s.grid.owed q (imgDepth o.image (q % 4)), withheld := mset s.grid.withheld q 0 } }) s

/-- An oar at the start of a seat: program, registers and depths of the image, no entries in any queue,
tables live (R95, R167). Scratch, flags and counters stay. DEDUCED (assumption log 78). -/
def Oar.enter (o : Oar) (img : List Byte) : Oar :=
  tablesLive { Oar.idle with
    image := img, cr := (List.range 16).map (fun i => BitVec.ofNat 16 (fld img (0x110 + 2 * i) 2))
    flags := o.flags, ctr := o.ctr, tables := o.tables
    standbyTables := o.standbyTables }

/-- Enter a seat with the images of its eight oars. -/
def enterSeat (s : State) (k : Nat) (imgs : List (List Byte)) (round : Nat) : State :=
  let old := shellOars s k
  let oars := (List.range 8).foldl (fun m j =>
    mset m (8 * k + j) ((mgetD m (8 * k + j) Oar.idle).enter (imgs.getD j []))) s.grid.oars
  let h := fld (imgs.headD []) 0 8
  let seat := bits h 17 16
  let x := shellGet s k
  let s := { s with grid := { s.grid with oars := oars } }
  let s := shellSet s k { x with
    seat := seat, round := round, rounds := if seat = 0 then bits h 47 32 else x.rounds
    steer := [] }
  seatCredits s k old

end Sys2Proof.Machine
end

