-- ==== Sys2Proof/Machine/LinkOps.lean ====
section
/-!
DEFINITION. Henac links, shared operations: packets as flits (R221, R242), topology and routing
(R252, R253), transmit queues (R249, R273), links going down (R251), the pair's loss of its port
(R389, R393), and the join condition (R378).
-/
namespace Sys2Proof.Machine
open Sys2Proof

/-- The page of a link; 16 is the twin port. -/
def linkPage (l : Nat) : PageKind × Nat := if l < 16 then (.link, l) else (.twinlink, 0)

/-- Count in counter j of a link's page (R256). -/
def linkCount (s : State) (l j : Nat) (c : Nat := 1) : State :=
  bumpBy s (linkPage l).1 (linkPage l).2 (0x100 + 4 * j) c

/-- A link. -/
def linkGet (s : State) (l : Nat) : Link := mgetD s.links l Link.reset

/-- Set a link. -/
def linkSet (s : State) (l : Nat) (k : Link) : State := { s with links := mset s.links l k }

/-- CTRL.EN of a link. -/
def linkEn (s : State) (l : Nat) : Bool := rf s (linkPage l).1 (linkPage l).2 0x040 0 0 = 1

/-- A link is up: state 3 or 4 (R251). DEDUCED (assumption log 67). -/
def linkUp (k : Link) : Bool := k.state = 3 || k.state = 4

/-- Receive depth of a virtual channel, each sub-channel (R249). -/
def rxDepth (vc : Nat) : Nat := [384, 512, 1024, 512, 64].getD vc 0

/-- Dimensions of the torus (R252, R256). -/
def topoD (s : State) : Nat :=
  match rf s .henac 0 0x040 1 0 with
  | 0 => 1
  | 1 => 2
  | _ => 4

/-- Size and coordinate of dimension k. DEDUCED (assumption log 83). -/
def topoSize (s : State) (k : Nat) : Nat := rf s .henac 0 0x044 (8 * k + 7) (8 * k)
def topoCoord (s : State) (k : Nat) : Nat := rf s .henac 0 0x048 (8 * k + 7) (8 * k)

/-- Number of a device from its coordinates (R252). -/
def devNum (s : State) (c : Nat → Nat) : Nat :=
  ((List.range (topoD s)).reverse).foldl (fun n k => c k + topoSize s k * n) 0

/-- HENAC.STATUS.DEV: the own device number. -/
def ownDev (s : State) : Nat := devNum s (topoCoord s) % 2048

/-- Devices of the plane. DEDUCED (assumption log 83). -/
def planeCount (s : State) : Nat := (List.range (topoD s)).foldl (fun n k => n * topoSize s k) 1

/-- The step in device numbers from one coordinate of dimension k to the next (R252). -/
def stride (s : State) (k : Nat) : Nat := (List.range k).foldl (fun n j => n * topoSize s j) 1

/-- Coordinate k of a device number. -/
def coordOf (s : State) (dev k : Nat) : Nat :=
  if topoSize s k = 0 then 0 else dev / stride s k % topoSize s k

/-- The device carries TWIN_PRESENT, and TWIN_ROLE says stern (R358). -/
def twinPresent (s : State) : Bool := bit s.power.straps 4
def isStern (s : State) : Bool := bit s.power.straps 3

/-- The twin is in RESYNC or READY (R381, R391). -/
def awaitsPair (s : State) : Bool := s.twin.pair = 3 || s.twin.pair = 4

/-- The local topology registers keep R252. -/
def topoOk (s : State) : Bool :=
  let d := topoD s
  (List.range d).all (fun k =>
      2 ≤ topoSize s k && topoSize s k ≤ (if d = 4 then 16 else 64) && topoCoord s k < topoSize s k)
    && planeCount s ≤ (if twinPresent s then 1024 else 2048)

/-- Links of each set (R252). -/
def setLen (s : State) : Nat := 8 / topoD s

/-- The links of the set of dimension d, plus or minus, in ascending order (R252). -/
def setLinks (s : State) (d : Nat) (plus : Bool) : List Nat :=
  let l := setLen s
  (List.range l).map fun j => 2 * l * d + (if plus then 0 else l) + j

/-- The neighbour and port a link connects to (R252). -/
def expectedPeer (s : State) (link : Nat) : Nat × Nat :=
  let l := setLen s
  let d := link / (2 * l)
  let plus := link % (2 * l) < l
  let n := topoSize s d
  let c := fun k =>
    if k != d then topoCoord s k
    else if plus then (topoCoord s k + 1) % n else (topoCoord s k + n - 1) % n
  (devNum s c % 2048, if plus then link + l else link - l)

/-- Where a packet for a device goes next (R253). -/
inductive Hop where
  | here
  | via (link : Nat) (dl : Bool)
  | noRoute (lowest : Nat)
deriving DecidableEq, Repr

/-- Route one hop: source and destination device, TREE, and the dimension and DL with which the
packet came (R253). -/
def hop (s : State) (src dst : Nat) (tree : Nat) (came : Option (Nat × Bool)) : Hop :=
  match (List.range (topoD s)).find? (fun k => coordOf s dst k != topoCoord s k) with
  | none => .here
  | some d =>
    let n := topoSize s d
    let a := topoCoord s d
    let b := coordOf s dst d
    let up := (b + n - a) % n
    let down := (a + n - b) % n
    let plus := up ≤ down
    let set := setLinks s d plus
    let live := set.filter fun l => linkUp (linkGet s l)
    let crosses := if plus then a + 1 = n else a = 0
    let dl := match came with
      | some (d', x) => (d' = d && x) || crosses
      | none => crosses
    if live.isEmpty then .noRoute (set.headD 0)
    else .via (live.getD ((src + dst + tree) % live.length) 0) dl

/-- The header flit of a link packet (R221, R242), with a channel and sub-channel. -/
def hpktHeader (p : HPkt) (dl : Bool) : List Byte :=
  toLE (p.dest % 2048 + 2 ^ 16 * (p.ctx % 4096) + 2 ^ 31 * b2n p.mc) 4 ++ toLE (p.src % 2048) 4
    ++ toLE p.cmd 1 ++ toLE (p.vc % 8 + 8 * b2n dl + 16 * ((p.data.length + 31) / 32)) 1
    ++ toLE p.crew 1 ++ toLE p.status 1 ++ toLE p.heat 2 ++ toLE p.tag 2 ++ toLE p.addr 8
    ++ toLE p.arg 8

/-- Data flits of bytes, the last padded with zeros. -/
def dataFlits (b : List Byte) : List (List Byte) := (chunks 32 b).map fun c => slice c 0 32

/-- The packet that a header flit and data flits spell. -/
def parseHpkt (h : List Byte) (data : List (List Byte)) : HPkt :=
  let d := fld h 0 4
  let v := fld h 9 1
  { dest := bits d 10 0, ctx := bits d 27 16, mc := bit d 31, src := bits (fld h 4 4) 10 0
    cmd := fld h 8 1, vc := bits v 2 0, dl := bit v 3, crew := bits (fld h 10 1) 4 0
    status := fld h 11 1, heat := fld h 12 2, tag := fld h 14 2, addr := fld h 16 8
    arg := fld h 24 8, data := data.flatten }

/-- TREE and FAST of a packet (R267): TREE routes SPRINT and COLL packets only (R253). -/
def treeOf (p : HPkt) : Nat := if p.cmd = 0x10 || p.cmd = 0x11 then b2n (bit p.addr 48) else 0
def fastOf (p : HPkt) : Bool := p.cmd = 0x10 && bit p.addr 49

/-- Put a packet behind a queue; a sprint packet goes before fast-path packets that have not begun
(R273). -/
def enqueue : List TxPkt → TxPkt → List TxPkt
  | [], p => [p]
  | q :: r, p => if q.fast && !q.begun && !p.fast then p :: q :: r else q :: enqueue r p

/-- Put a packet into a transmit queue of a link. -/
def txPut (s : State) (l : Nat) (p : HPkt) (dl : Bool) : State :=
  let k := linkGet s l
  let c := 2 * p.vc + b2n dl
  let token := if p.cmd = 0x10 && !fastOf p then some (p.ctx * 2 ^ 64 + p.arg) else none
  let x : TxPkt := ⟨token, fastOf p, false, hpktHeader p dl :: dataFlits p.data⟩
  linkSet s l { k with txq := mset k.txq c (enqueue (mgetD k.txq c []) x) }

/-- The commands of R223 that cross a link, with their channels (R242). Queue entries do not: they name
a unit, for which DEST of a link packet has no place (R30). -/
def linkCmd (p : HPkt) : Bool :=
  [(0x10, 0), (0x11, 1), (0x12, 2), (0x08, 3), (0x09, 3), (0x0A, 3), (0x0B, 3), (0x0C, 4), (0x0D, 4),
    (0x0E, 4), (0x0F, 4), (0x18, 4), (0x1F, 3), (0x1F, 4)].contains (p.cmd, p.vc)

/-- The unit of the fabric die that a packet of another device is for: the tier engine for reads and
writes of memory (R242), the register file for register accesses, the host port for fault notices, and
for a response the unit that asked. Packets of groups end at the edge switch (R268). DESIGN CHOICE
(assumption log 91). -/
def edgeUnit (p : HPkt) : Option Nat :=
  if p.vc = 3 then some 5
  else if p.cmd = 0x18 then some 3
  else if p.vc = 4 then some 6
  else none

/-- A packet for this device leaves the edge switch inward: into the package network for a unit, with
the far device's number in SUB of its source; or to the edge switch's own trees and exchanges. DESIGN
CHOICE (assumption log 91). -/
def edgeIn (s : State) (p : HPkt) : State :=
  match edgeUnit p with
  | some u => inject s
      { dest := ⟨8, 0, 0, u, 0⟩, mc := false, src := ⟨8, 0, 0, 0, p.src⟩, cmd := p.cmd, vc := p.vc
        dl := false, crew := p.crew, status := p.status, heat := p.heat, tag := p.tag, addr := p.addr
        arg := p.arg, data := p.data }
  | none => { s with net := { s.net with arrived := s.net.arrived ++ [p] } }

/-- Send a packet on from this device: to its own units, over a link, or nowhere, counted in
NO_ROUTE (R251, R253). -/
def forward (s : State) (p : HPkt) (came : Option (Nat × Bool)) : State :=
  match hop s p.src p.dest (treeOf p) came with
  | .here => edgeIn s p
  | .via l dl => txPut s l p dl
  | .noRoute l => linkCount s l 9

/-- Inject a packet of this device into the links. -/
def sendH (s : State) (p : HPkt) : State := forward s p none

/-- A packet of a unit reaches the edge switch (unit 0 of the fabric die): it goes out to the device that
SUB names. DESIGN CHOICE (assumption log 91). -/
def edgeOut (s : State) (p : Pkt) : State :=
  sendH s { dest := p.dest.sub % 2048, ctx := 0, mc := false, src := ownDev s, cmd := p.cmd, vc := p.vc
            dl := false, crew := p.crew, status := p.status, heat := p.heat, tag := p.tag
            addr := p.addr, arg := p.arg, data := p.data }

/-- An event port. -/
def epGet (s : State) (port : Nat) : EPort := if port = 0 then s.ports.p0 else s.ports.p1

/-- Set an event port. -/
def epSet (s : State) (port : Nat) (e : EPort) : State :=
  if port = 0 then { s with ports := { s.ports with p0 := e } }
  else { s with ports := { s.ports with p1 := e } }

/-- Give a port's held frames and tokens their heats: `pick` says from stamp and place in the port's
count which heat and ordinal each takes. -/
def assignHeld (s : State) (port : Nat) (pick : Time → Nat → Nat × Nat) : State :=
  let e := epGet s port
  let frames := e.frames.map fun f =>
    match f.heat with
    | some _ => f
    | none => let r := pick f.stamp f.ordinal; { f with heat := some r.1, ordinal := r.2 }
  let q := s.ports.tokQ.map fun k =>
    match k.heat with
    | some _ => k
    | none => if k.port = port then
        let r := pick k.ingress k.ordinal; { k with heat := some r.1, ordinal := r.2 }
      else k
  let s := epSet s port { e with frames := frames, heldN := 0 }
  { s with ports := { s.ports with tokQ := q } }

/-- Ordinals count modulo 2^32. DEDUCED (assumption log 53). -/
def ordFrom (i base : Nat) : Nat := (i + 2 ^ 32 - base) % 2 ^ 32

/-- Assign a port's held frames by their own stamps about the boundary `b` that began the live heat (R22,
R29, R384). -/
def assignByStamp (s : State) (port : Nat) (b : Time) : State :=
  let e := epGet s port
  let n := s.heat.num
  assignHeld s port fun t i => if t < b then (n - 1, ordFrom i e.prevBase) else (n, ordFrom i e.ordBase)

/-- Assign the held frames of both ports by their own stamps. -/
def assignAll (s : State) (b : Time) : State := assignByStamp (assignByStamp s 0 b) 1 b

/-- The pair loses its twin port (R389, R393): a PAIRED pair becomes DETACHED at once, keeps FENCED, and
assigns what it held for a cut by its own stamps (R22); a reattachment is abandoned, and an ARM that
waited for it with it. DEDUCED (assumption log 58). -/
def portLost (s : State) : State :=
  let t := s.twin
  if t.pair = 1 then
    assignAll { s with twin := { t with
      pair := 2, cutWait := false, cutEarly := none, awaiting := none, digEarly := none, digests := []
      unfOwn := false, unfPeer := false, swapLast := false } } t.cutTime
  else if awaitsPair s || t.returning then
    bumpC { s with twin := { t with
      pair := 2, returning := false, reOwn := false, rePeer := false, resync := 0
      armAtPair := false } }
      .twin 0 11
  else s

/-- A device with no peer is not adrift (R395). -/
def peersGone (s : State) : State :=
  if (List.range 17).any fun l => linkUp (linkGet s l) then s
  else { s with twin := { s.twin with adrift := false, badRow := 0, goodRow := 0 } }

/-- Packets lost with a link's replay buffer and transmit queues. -/
def lostPackets (k : Link) : Nat :=
  k.replay.foldl (fun n f => n + f.tails) 0 + k.txq.foldl (fun n e => n + e.2.length) 0

/-- A link in a state out of traffic: buffers, queues and credits cleared (R251, R363). DEDUCED
(assumption log 82). -/
def Link.idle (k : Link) (state refuse : Nat) : Link :=
  { Link.reset with
    state := state, refuse := refuse, framesOut := k.framesOut, wrr := k.wrr, wrrLeft := k.wrrLeft }

/-- A link moves to a state other than 3 and 4. Where it was up, its packets are lost, LINK_DOWN is
recorded and the page raises its interrupt (R251); the twin port's loss concerns the pair (R389).
DEDUCED (assumption log 82). -/
def linkTo (s : State) (l state refuse : Nat) : State :=
  let k := linkGet s l
  let s := linkSet s l (k.idle state refuse)
  if linkUp k then
    let (pg, n) := linkPage l
    let s := linkCount s l 8 (lostPackets k)
    let s := event (recordErr s pg n 0x42 (regOff pg n 0x044)) pg n
    peersGone (if l = 16 then portLost s else s)
  else s

/-- A link can train: the device has reached stage 7 and, for the twin port, has a twin (R372). -/
def mayTrain (s : State) (l : Nat) : Bool := stageGe s 7 && (l != 16 || twinPresent s)

/-- A link begins to train: EN is 1 (R246, R372). -/
def trainStart (s : State) (l : Nat) : State :=
  if linkEn s l && mayTrain s l then linkTo s l 1 0 else s

/-- EN as written: 1 trains a link that is down, 0 takes it down (R246, R372). -/
def linkEnable (s : State) (l : Nat) (en : Bool) : State :=
  if en then (if (linkGet s l).state = 0 then trainStart s l else s)
  else if (linkGet s l).state = 0 then s else linkTo s l 0 0

/-- RETRAIN (R246, R256): the link trains, whether EN is 1 or 0. DEDUCED (assumption log 67). -/
def linkRetrain (s : State) (l : Nat) : State :=
  if mayTrain s l then linkTo (linkCount s l 5) l 1 0 else s

/-- The join condition (R378). DEDUCED (assumption log 83). -/
def joined (s : State) : Bool :=
  planeCount s = 1 ||
    ((List.range 16).all (fun l => !linkEn s l || 3 ≤ (linkGet s l).state)
      && (List.range (topoD s)).all fun d =>
        (setLinks s d true).any (fun l => linkUp (linkGet s l))
          && (setLinks s d false).any fun l => linkUp (linkGet s l))

/-- Reach stage 9 from stage 8 once the join condition holds (R366). -/
def joinCheck (s : State) : State :=
  if s.power.stage = 8 && joined s then { s with power := { s.power with stage := 9 } } else s

/-- Reach stage 8 (R366, R377). -/
def enterStage8 (s : State) : State := joinCheck { s with power := { s.power with stage := 8 } }

end Sys2Proof.Machine
end

