-- ==== Sys2Proof/Machine/Grid.lean ====
section
/-!
DEFINITION. The oar grid (chapter 04): instructions of the cox (R83 to R88), results of the units,
steering blocks (R89 to R91), seats (R93 to R96), watchdog (R100), drains (R103 to R105), programs
(R286) and loaded tables (R167).
-/
namespace Sys2Proof.Machine
open Sys2Proof

/-- The unit an instruction class runs on. -/
def unitOf (cls : Nat) : Option Nat := if 1 ≤ cls && cls ≤ 4 then some (cls - 1) else none

/-- The innermost active loop level. -/
def innermost (o : Oar) : Option Nat := (List.range 4).find? fun k => o.active.getD k false

/-- The PRED condition of an instruction (R87); outside every loop only "always" holds. DEDUCED
(assumption log 78). -/
def predOk (o : Oar) (w : Nat) : Bool :=
  match iPred w, innermost o with
  | 0, _ => true
  | 1, some k => o.idx.getD k 0 = 0
  | 2, some k => o.trips.getD k 0 = 1
  | _, some k => o.trips.getD k 0 != 1
  | _, none => false

/-- The position of the LOOP of level k whose body holds pc. -/
def loopStart (o : Oar) (k pc : Nat) : Option Nat :=
  ((loopsOf o.image).filter fun l => l.2.1 = k && l.1 < pc && pc ≤ l.2.2).getLast?.map (·.1)

/-- The program counter passes an instruction: loops whose END it is, lowest level first (R85). -/
def passEnds (o : Oar) (pc : Nat) : List Nat → Oar
  | [] => { o with pc := pc + 1 }
  | k :: r =>
    let ends := (loopsOf o.image).any fun l => l.2.1 = k && l.1 < pc && l.2.2 = pc
    if o.active.getD k false && ends then
      if 1 < o.trips.getD k 0 then
        { o with
          trips := o.trips.modify k (· - 1), idx := o.idx.modify k (· + 1)
          pc := ((loopStart o k pc).map (· + 1)).getD (pc + 1) }
      else
        passEnds { o with trips := o.trips.set k 0, idx := o.idx.set k 0, active := o.active.set k false }
          pc r
    else passEnds o pc r

/-- Go on behind the instruction at pc. -/
def advance (o : Oar) (pc : Nat) : Oar := passEnds o pc [0, 1, 2, 3]

/-- Entries that operations have still to send to an output. -/
def reservedOut (o : Oar) (out : Nat) : Nat :=
  o.ops.foldl (fun n op =>
    if op.done then n + (if out = 0 then op.out0 else op.out1).length
    else if sends op.word && bit (iOutq op.word) out then n + iNout op.word else n) 0

/-- Credits that OQ0 of an oar may still use: those of its route's queues, the slowest of a set
(R118), less the entries waiting in OQ0; a route to the store engine needs none (R115). -/
def credit0 (s : State) (k : Nat) (o : Oar) : Nat :=
  match oarRoute o, routeQueues s (k / 2048) (oarRoute o) with
  | .unused, _ => 64 + reservedOut o 0
  | _, some qs => qs.foldl (fun n q => min n (credsFor s q)) 1000000 - o.oq0.length
  | _, none => 0

/-- The steering entries of a shell that take from an oar's OQ1. -/
def steersFrom (s : State) (k : Nat) : List Nat :=
  (List.range 16).filterMap fun i =>
    let e := steerEntry s (k / 8) i
    let mode := bits e 2 0
    if mode != 0 && (bits e 6 3 = k % 8 || (mode = 2 && bits e 10 7 = k % 8)) then some e else none

/-- Credits that OQ1 of an oar may still use: those of the destinations of the steering entry it
feeds, less the entries waiting in OQ1 (R90). -/
def credit1 (s : State) (k : Nat) (o : Oar) : Nat :=
  let es := steersFrom s k
  if es.isEmpty then 0
  else
    let c := (es.flatMap steerDsts).foldl
      (fun n d => if d < 32 then min n (credsFor s (32 * (k / 8) + d)) else n) 1000000
    c - o.oq1.length

/-- The first condition of R84 that fails: the stall counter (R101), and the input queues waited
on: for SEAT those without an END marker at their head (R95). -/
def stall (s : State) (k : Nat) (o : Oar) (w : Nat) : Option (Nat × List Nat) :=
  let waits := (List.range 4).filter fun q =>
    bit (iInq w) q &&
      ((o.iq.getD q []).length < iNin w || ((o.iq.getD q []).take (iNin w)).any (·.isNone))
  let lacks := (bit (iOutq w) 0 && credit0 s k o < iNout w + reservedOut o 0)
    || (bit (iOutq w) 1 && credit1 s k o < iNout w + reservedOut o 1)
    || (iClass w = 6 && bits w 39 36 = 2 && 16 ≤ o.condq.length)
  let busy := match unitOf (iClass w) with
    | some u => o.ops.any (·.unit = u)
    | none => iClass w = 6 && bits w 39 36 = 0 && o.ops.any fun op => bit (bits w 35 32) op.unit
  let seat := iClass w = 6 && bits w 39 36 = 3
  let noEnd := (List.range 4).filter fun q =>
    imgDepth o.image q != 0 && (o.iq.getD q []).head? != some none
  if !waits.isEmpty then some (1, waits)
  else if lacks then some (2, []) else if busy then some (3, [])
  else if seat && (!o.ops.isEmpty || !noEnd.isEmpty) then some (4, noEnd) else none

/-- Count a stall cycle. DESIGN CHOICE (assumption log 20). -/
def countStall (s : State) (k : Nat) (x : Nat × List Nat) : State :=
  oarMod s k fun o => { o with
    ctr := x.2.foldl (fun c q => c.modify (7 + 3 * q) (satAdd 32 1)) (o.ctr.modify x.1 (satAdd 32 1)) }

/-- The first unit of an operand outside scratch (R123, R198). -/
def scratchFault (s : State) (addr : Nat → Int) (w : Nat) : Option Nat :=
  let lim := scratchUnits s
  let bad := fun (n u : Nat) =>
    if addr n < 0 then some (unsigned 32 (addr n))
    else if (lim : Int) < addr n + u then some (max lim (addr n).toNat) else none
  let rs := ((reads w).filter (!·.isQ)).map fun o => bad o.idx o.units
  let ws := match writesTo w with
    | some (n, u) => [bad n u]
    | none => []
  (rs ++ ws).findSome? id

/-- Take entries from the head of an input queue. -/
def takeIq (s : State) (k q n : Nat) : State :=
  creditBack (oarMod s k fun o => { o with iq := o.iq.modify q (·.drop n) }) (4 * k + q) n

/-- The trip count of a LOOP (R88). -/
def tripCount (o : Oar) (w : Nat) : Nat :=
  if bit w 29 then (o.cr.getD (bits w 3 0) 0).toNat else bits w 15 0 + 1

/-- The bit of a COND (R88). -/
def condBit (o : Oar) (w : Nat) : Bool :=
  match bits w 35 34 with
  | 0 => bit w 33
  | 1 => o.active.getD (bits w 32 31) false && o.trips.getD (bits w 32 31) 0 = 1
  | _ => (o.cr.getD (bits w 30 27) 0) != 0

/-- SEAT fires (R95): the END markers are taken, END goes out on OQ1 and on a valid OQ0 route. -/
def fireSeat (s : State) (k : Nat) (o : Oar) : State :=
  let s := (List.range 4).foldl (fun s q => if imgDepth o.image q != 0 then takeIq s k q 1 else s) s
  let ends : UnitOp := ⟨4, 0, [], [], [], [], true, if oarRoute o = .unused then [] else [none], [none]⟩
  pumpOar (oarMod s k fun o => handOver { o with inSeat := true, ops := o.ops ++ [ends] }) k

/-- Bytes of scratch units of an oar. -/
def rdScratch (s : State) (k : Nat) (a : Int) (units : Nat) : List Byte :=
  rdBytes s.grid.scratch (k * 131072 + 32 * a.toNat) (32 * units)

/-- An instruction fires (R84): it takes its entries, counts FIRE, and has its class's effect. The mask
record of an MMA is read here, at the address in AR15 (R116). -/
def fire (s : State) (k : Nat) (o : Oar) (w : Nat) (addrs : List Int) : State :=
  let entry := (o.iq.getD ((onesOf (iInq w) 4).headD 0) []).headD none
  let s := oarMod s k fun o => { o with ctr := o.ctr.modify 0 (satAdd 32 1) }
  match unitOf (iClass w) with
  | some u =>
    let mask := if u = 0 && bit w 5 then rdScratch s k (addrs.getD 15 0) 3 else []
    let op : UnitOp := ⟨u, w, addrs, (List.range 4).map (needOf w), [[], [], [], []], mask, false, [], []⟩
    absorb (oarMod s k fun o => advance { o with ops := o.ops ++ [op] } o.pc) k
  | none =>
    let s := (onesOf (iInq w) 4).foldl (fun s q => takeIq s k q (iNin w)) s
    match iClass w, bits w 39 36 with
    | 5, _ =>
      let lv := loopLevel w
      oarMod s k fun o =>
        if tripCount o w = 0 then advance o (loopEnd w)
        else { o with
          trips := o.trips.set lv (tripCount o w), idx := o.idx.set lv 0
          active := o.active.set lv true, pc := o.pc + 1 }
    | 6, 1 =>
      oarMod s k fun o =>
        advance { o with cr := o.cr.set (bits w 35 32) (BitVec.ofNat 16 (fld (entry.getD []) 0 2)) } o.pc
    | 6, 2 => oarMod s k fun o => advance { o with condq := o.condq ++ [condBit o w] } o.pc
    | 6, 3 => fireSeat s k o
    | 6, 4 =>
      let s := oarMod s k fun o => { o with halted := true }
      if (shellOars s (k / 8)).all (·.2.halted) then shellEnd s (k / 8) 0 0 else s
    | _, _ => oarMod s k fun o => advance o o.pc

/-- The cox of a shell issues: its program runs, it is not frozen, its die runs, and its crew is not
in a reset (R83, R103, R124, R298). -/
def issues (s : State) (sh : Nat) : Bool :=
  let x := shellGet s sh
  x.running && !x.frozen && !dieStopped s (sh / 256) && !resetting s (x.owner.getD noCrew)

/-- The instruction at an oar's program counter. -/
def instrAt (o : Oar) : Option Nat :=
  if o.halted || o.image.isEmpty || imgCount o.image ≤ o.pc then none else some (imgInstr o.image o.pc)

/-- The word's multicast route names an entry that is not valid (R123). -/
def mcastBad (s : State) (k : Nat) (o : Oar) (w : Nat) : Bool :=
  (sends w || (iClass w = 6 && bits w 39 36 = 3)) && (iClass w = 6 || bit (iOutq w) 0)
    && (routeQueues s (k / 2048) (oarRoute o)).isNone

/-- One issue cycle of an oar for an instruction that `is` accepts (R83 to R86): passed over where
its PRED is false, a stall where a condition fails, a stop where an operand lies outside scratch. -/
def issue (die oar : Nat) (is : Nat → Bool) (s : State) : Out :=
  fab s fun s =>
    let k := oarKey die oar
    match mget s.grid.oars k with
    | none => s
    | some o =>
      match instrAt o with
      | none => s
      | some w =>
        if !(issues s (k / 8) && is w) then s
        else if o.inSeat then countStall s k (4, [])
        else if !predOk o w then oarMod s k fun o => advance o o.pc
        else
          let round := (shellGet s (k / 8)).round
          let addr := fun n => arAddr o.image n o.idx round
          match stall s k o w with
          | some x => countStall s k x
          | none =>
            match scratchFault s addr w with
            | some u => stopTile s (k / 8) 0x30 (oar % 2048) o.pc 0 u
            | none =>
              if mcastBad s k o w then
                stopTile s (k / 8) 0x34 (oar % 2048) o.pc 0 (fld o.image 0x138 4 % 65536)
              else fire s k o w ((List.range 16).map addr)

/-- Class 6 with an operation. -/
def isCtrl (op w : Nat) : Bool := iClass w = 6 && bits w 39 36 = op

/-- NOP: takes its input entries and discards them (R88). -/
def execOarNop (die oar : Nat) (s : State) : Out := issue die oar (fun w => iClass w = 0) s

/-- MMA: one tile product on the array (R79, R88, R109, R116). -/
def execOarMma (die oar : Nat) (s : State) : Out := issue die oar (fun w => iClass w = 1) s

/-- VEC: an operation of the vector unit (R80, R135). -/
def execOarVec (die oar : Nat) (s : State) : Out := issue die oar (fun w => iClass w = 2) s

/-- SFN: a special function (R160). -/
def execOarSfn (die oar : Nat) (s : State) : Out := issue die oar (fun w => iClass w = 3) s

/-- MOVE: the mover copies entries between a queue and scratch (R88). -/
def execOarMove (die oar : Nat) (s : State) : Out := issue die oar (fun w => iClass w = 4) s

/-- LOOP (R85). -/
def execOarLoop (die oar : Nat) (s : State) : Out := issue die oar (fun w => iClass w = 5) s

/-- SYNC: fires once every unit named has finished (R84, R88). -/
def execOarSync (die oar : Nat) (s : State) : Out := issue die oar (isCtrl 0) s

/-- SETCR: a count register takes the first two bytes of an entry (R88). -/
def execOarSetcr (die oar : Nat) (s : State) : Out := issue die oar (isCtrl 1) s

/-- COND: a bit goes to the condition queue (R88). -/
def execOarCond (die oar : Nat) (s : State) : Out := issue die oar (isCtrl 2) s

/-- SEAT (R95). -/
def execOarSeat (die oar : Nat) (s : State) : Out := issue die oar (isCtrl 3) s

/-- HALT (R96). -/
def execOarHalt (die oar : Nat) (s : State) : Out := issue die oar (isCtrl 4) s

/-- Write bytes to scratch from a unit on. -/
def wrScratch (s : State) (k : Nat) (a : Int) (b : List Byte) : State :=
  { s with grid := { s.grid with scratch := wrBytes s.grid.scratch (k * 131072 + 32 * a.toNat) b } }

/-- The bytes of the operands of an operation, in order: from scratch, or from the entries taken. -/
def operandBytes (s : State) (k : Nat) (op : UnitOp) : List Opnd → List (List (List Byte)) → List (List Byte)
  | [], _ => []
  | o :: r, got =>
    if o.isQ then
      let es := got.getD o.idx []
      (es.take o.units).flatten :: operandBytes s k op r (got.modify o.idx fun l => l.drop o.units)
    else rdScratch s k (op.addrs.getD o.idx 0) o.units :: operandBytes s k op r got

/-- The result of an operation: its bytes and flags. -/
def opValue (s : State) (k : Nat) (op : UnitOp) : List Byte × Flags :=
  let w := op.word
  let tabs := fun n => match mget s.grid.oars k with
    | some o => mget o.tables n
    | none => none
  let ops := operandBytes s k op (reads w) op.got
  match op.unit with
  | 0 => mmaEval w (ops.take 3 ++ [op.mask])
  | 1 => vecEval w ops
  | 2 => sfnOp w tabs ops
  | _ =>
    if bit w 39 then (ops.headD [], 0)
    else ((op.got.getD ((onesOf (iInq w) 4).headD 0) []).flatten, 0)

/-- The entries of a result: NOUT + 1 units; bytes the result does not reach are free values.
DESIGN CHOICE (assumption log 6). DEDUCED (assumption log 78). -/
def outEntries (s : State) (w : Nat) (b : List Byte) : List QEntry × State :=
  let need := 32 * iNout w
  let rest := need - b.length
  let free := (List.range rest).map fun i => Config.freeByte (s.free + i)
  ((chunks 32 ((b ++ free).take need)).map some, { s with free := s.free + rest })

/-- An operation delivers its last result (R83, R88): scratch written, flags kept, and its entries handed
to the output queues, the operation holding those for which there is no room. -/
def finishOp (s : State) (k : Nat) (op : UnitOp) : State :=
  let (b, f) := opValue s k op
  let w := op.word
  let s := match writesTo w with
    | some (n, _) => wrScratch s k (op.addrs.getD n 0) b
    | none => s
  let (es, s) := if sends w then outEntries s w b else ([], s)
  let op' := { op with
    done := true, out0 := if bit (iOutq w) 0 then es else [], out1 := if bit (iOutq w) 1 then es else [] }
  pumpOar (oarMod s k fun o => handOver { o with
    flags := o.flags ||| f, ops := o.ops.erase op ++ [op'] }) k

/-- OAR_UNIT_DONE (R83): the operation of a unit ends, once it has every entry it takes; while it waits
for one, the wait is counted (R109). An uncorrectable word among what it read stops the shell with SCRATCH_ECC (R434). -/
def execOarUnitDone (die oar unit : Nat) (ecc : Bool) (s : State) : Out :=
  fab s fun s =>
    let k := oarKey die oar
    match mget s.grid.oars k with
    | none => s
    | some o =>
      match o.ops.find? fun op => op.unit = unit && !op.done with
      | none => s
      | some op =>
        let lacking := (List.range 4).filter fun q => op.need.getD q 0 != 0
        if dieStopped s die then s
        else if !lacking.isEmpty then countStall s k (1, lacking)
        else if ecc then stopTile s (k / 8) 0x38 (k % 2048) o.pc 0 0
        else finishOp s k op

/-- The head of a steering source: an oar's OQ1, or packets addressed to the entry (R89). -/
def steerHead (s : State) (sh i src : Nat) : Option QEntry :=
  if src < 8 then ((mget s.grid.oars (8 * sh + src)).map (·.oq1)).bind (·.head?)
  else ((mget (shellGet s sh).steer i).map (·.inq)).bind (·.head?)

/-- A steering entry's state. -/
def steerGet (s : State) (sh i : Nat) : SteerSt :=
  mgetD (shellGet s sh).steer i ⟨false, 0, false, false, []⟩

/-- Change a steering entry's state. -/
def steerMod (s : State) (sh i : Nat) (f : SteerSt → SteerSt) : State :=
  let x := shellGet s sh
  shellSet s sh { x with steer := mset x.steer i (f (steerGet s sh i)) }

/-- Take the head of a steering source. -/
def steerPop (s : State) (sh i src : Nat) : State :=
  if src < 8 then oarMod s (8 * sh + src) fun o => handOver { o with oq1 := o.oq1.drop 1 }
  else steerMod s sh i fun x => { x with inq := x.inq.drop 1 }

/-- A destination can take an entry: a queue with a credit, or discard and none. -/
def dstReady (s : State) (sh d : Nat) : Bool := 32 ≤ d || 0 < credsFor s (32 * sh + d)

/-- Deliver an entry to a destination; codes 32 and 63 take nothing. -/
def dstPut (s : State) (sh : Nat) (e : QEntry) (d : Nat) : State :=
  if d < 32 then arrive (useCredits s [32 * sh + d]) (32 * sh + d) e else s

/-- Move an entry from a source to destinations, where each can take it. -/
def steerTo (s : State) (sh i src : Nat) (e : QEntry) (ds : List Nat) : State :=
  if ds.all (dstReady s sh) then ds.foldl (fun s d => dstPut s sh e d) (steerPop s sh i src) else s

/-- The condition bit for the next data entry: that of the open group, or the next of the condition
queue, which opens a group (R90). -/
def steerBit (s : State) (sh i e : Nat) : Option Bool :=
  let x := steerGet s sh i
  if x.left != 0 then some x.bit
  else ((mget s.grid.oars (8 * sh + bits e 25 23)).map (·.condq)).bind (·.head?)

/-- One entry of a group has moved. -/
def steerCount (s : State) (sh i e : Nat) (b : Bool) : State :=
  let gran := [1, 8, 64].getD (bits e 27 26) 1
  if (steerGet s sh i).left != 0 then steerMod s sh i fun x => { x with left := x.left - 1 }
  else
    oarMod (steerMod s sh i fun x => { x with bit := b, left := gran - 1 }) (8 * sh + bits e 25 23)
      fun o => { o with condq := o.condq.drop 1 }

/-- MERGE takes a source's END marker; it leaves once both have delivered one (R91). -/
def mergeEnd (s : State) (sh i e : Nat) (first : Bool) : State :=
  let x := steerGet s sh i
  let src := if first then bits e 6 3 else bits e 10 7
  if (if first then x.endB else x.endA) then
    if dstReady s sh (bits e 16 11) then
      dstPut (steerMod (steerPop s sh i src) sh i fun x => { x with endA := false, endB := false }) sh
        none (bits e 16 11)
    else s
  else
    steerMod (steerPop s sh i src) sh i fun x =>
      if first then { x with endA := true } else { x with endB := true }

/-- A steering entry moves one entry under its mode (R90, R91). -/
def steer (s : State) (sh i : Nat) : State :=
  let e := steerEntry s sh i
  let a := bits e 6 3
  let dstA := bits e 16 11
  let dstB := bits e 22 17
  let x := steerGet s sh i
  let ha := steerHead s sh i a
  let routed := fun (src : Nat) (h : Option QEntry) (b : Bool) (ds : List Nat) =>
    match h with
    | some (some d) =>
      if ds.all (dstReady s sh) then steerCount (steerTo s sh i src (some d) ds) sh i e b else s
    | _ => s
  match bits e 2 0 with
  | 1 =>
    if ha = some none then steerTo s sh i a none [dstA, dstB]
    else match steerBit s sh i e with
      | some b => routed a ha b [if b then dstB else dstA]
      | none => s
  | 2 =>
    let hb := steerHead s sh i (bits e 10 7)
    if ha = some none && !x.endA then mergeEnd s sh i e true
    else if hb = some none && !x.endB then mergeEnd s sh i e false
    else match steerBit s sh i e with
      | some b => if b then routed (bits e 10 7) hb b [dstA] else routed a ha b [dstA]
      | none => s
  | 3 =>
    if ha = some none then steerTo s sh i a none [dstA]
    else match steerBit s sh i e with
      | some b => routed a ha b (if b then [dstA] else [])
      | none => s
  | 4 =>
    match ha with
    | some h => steerTo s sh i a h (steerDsts e)
    | none => s
  | _ => s

/-- STEERING_MOVE (R90). -/
def execSteeringMove (die shell i : Nat) (s : State) : Out :=
  fab s fun s => if issues s (shellKey die shell) && i < 16 then steer s (shellKey die shell) i else s

/-- The load check of R94 with the features of this device (R179, R375). DEDUCED (assumption log
81). -/
def imageGood (s : State) (first : Bool) (img : List Byte) : Bool :=
  imgOk (feature s 1) (!absent s 8) first img

/-- The code of reading near memory: as an access, with NOT_RESIDENT for an object in T3 or T4,
which only tier transfers reach (R203). DEDUCED (assumption log 68). -/
def nearCode (s : State) (crew a len : Nat) : Nat :=
  let c := accessCode s crew a len
  if c != cOK then c
  else match objGet s crew (uObj a) with
    | some o => if 3 ≤ o.tier then cNOTRES else cOK
    | none => cRANGE

/-- A store of a unit that reaches T1 and T2 (R203, R207). -/
def nearStore (s : State) (crew a len : Nat) : Nat :=
  let c := nearCode s crew a len
  if c != cOK then c else storeCode s crew a len

/-- The address that NEXT of a seat image names: bits [39:6] of a unified address, the others 0 (R92).
DEDUCED (assumption log 87). -/
def nextImage (img : List Byte) : Nat := 64 * bits (fld img 8 8) 39 6

/-- The code of reading an object near a die: beyond R203, T1 of another die is not resident.
DEDUCED (assumption log 16 and 68). -/
def dieCode (s : State) (die crew a len : Nat) : Nat :=
  let c := nearCode s crew a len
  if c != cOK then c
  else match objGet s crew (uObj a) with
    | some o => if o.tier = 1 && o.die != die then cNOTRES else cOK
    | none => cRANGE

/-- SEAT_IMAGE_ARRIVAL (R93, R94): the image that NEXT names arrives in the standby buffer and is
checked; one that the die cannot read fails as an image (R203, R204). DEDUCED (assumption log 87). -/
def execSeatImageArrival (die oar : Nat) (s : State) : Out :=
  fab s fun s =>
    let k := oarKey die oar
    match mget s.grid.oars k with
    | none => s
    | some o =>
      if issues s (k / 8) && o.standby.isNone && !o.image.isEmpty then
        let crew := (shellGet s (k / 8)).owner.getD noCrew
        let a := nextImage o.image
        let img := rdU s crew a 2432
        oarMod s k fun o => { o with
          standby := some img
          standbyBad := dieCode s die crew a 2432 != cOK || !imageGood s (k % 8 = 0) img }
      else s

/-- An oar waits in SEAT: it has fired, and its END markers have left for those that take them (R95). -/
def waitsInSeat (s : State) (e : Nat × Oar) : Bool :=
  e.2.inSeat && e.2.ops.isEmpty && (oarRoute e.2 = .unused || e.2.oq0.isEmpty)
    && ((steersFrom s e.1).isEmpty || e.2.oq1.isEmpty)

/-- SEAT_SWITCH (R94 to R96, R181): all oars wait in SEAT and all standby images are present. A standby
image that failed its check stops the shell before its SEAT field is read: no rule says whether the
last round ends by R94 or by R96 then. DESIGN CHOICE (assumption log 87). -/
def execSeatSwitch (die shell : Nat) (s : State) : Out :=
  fab s fun s =>
    let k := shellKey die shell
    let os := shellOars s k
    let x := shellGet s k
    if !(issues s k && !x.draining && os.length = 8 && os.all fun e => waitsInSeat s e && e.2.standby.isSome)
    then s
    else
      let imgs := os.map fun e => e.2.standby.getD []
      let seat := bits (fld (imgs.headD []) 0 8) 17 16
      let round := if seat = 0 then x.round + 1 else x.round
      match os.find? fun e => e.2.standbyBad || (sprintArmed s k && usesCompat (e.2.standby.getD [])) with
      | some e => stopGrid s k 0x35 (e.1 % 2048)
      | none =>
        if seat = 0 && x.rounds != 0 && round = x.rounds then shellEnd s k 0 0
        else enterSeat s k imgs (round % 65536)

/-- An oar has an instruction that waits. -/
def waiting (s : State) (e : Nat × Oar) : Bool :=
  match instrAt e.2 with
  | none => false
  | some w => !e.2.inSeat && predOk e.2 w && (stall s e.1 e.2 w).isSome

/-- An oar has an instruction that can fire. -/
def canFire (s : State) (e : Nat × Oar) : Bool :=
  match instrAt e.2 with
  | none => false
  | some w => !e.2.inSeat && (!predOk e.2 w || (stall s e.1 e.2 w).isNone)

/-- WATCHDOG_EXPIRY (R100). -/
def execWatchdogExpiry (die shell : Nat) (s : State) : Out :=
  fab s fun s =>
    let k := shellKey die shell
    let os := shellOars s k
    if issues s k && !(shellGet s k).draining && rf s .grid die 0x04C 15 0 != 0
        && !os.any (canFire s) then
      match os.find? (waiting s) with
      | some e => stopGrid s k 0x36 (e.1 % 2048)
      | none => s
    else s

/-- The shells that SHELL_SEL of a die selects (R102). -/
def selected (s : State) (die : Nat) : List Nat :=
  (List.range 8).flatMap fun j => (onesOf (rg s .grid die (0x060 + 4 * j)) 32).map fun b =>
    shellKey die (32 * j + b)

/-- DRAIN (R103, R104): refused as a whole where the selection holds a sprint-armed shell. -/
def drainStart (s : State) (die : Nat) : State :=
  let sel := selected s die
  if sel.any (sprintArmed s) then errConfig s .grid die (regOff .grid die 0x040)
  else
    let s := rset s .grid die 0x044 1
    sel.foldl (fun s k =>
      if stopped s k || (shellGet s k).frozen then s
      else shellSet s k { shellGet s k with draining := true }) s

/-- A running transfer list of a die is in the middle of a tile for an input queue. -/
def midTile (s : State) (q : Nat) : Bool :=
  s.tile.lists.any fun e => e.1 / 64 = q / 8192 && e.2.unit != 0 &&
    ((routeQueues s (e.1 / 64) (parseRoute (fld (rdU s e.2.crew (e.2.addr + 64 * e.2.index) 64) 28 4))).getD
      []).contains q

/-- Every credit that an input queue of a draining shell granted has been returned (R103): a producer
inside the selection may hold them; one outside has used all it had, and none goes out again; a
tile fetch stands at a tile boundary. DEDUCED (assumption log 88). -/
def creditsHome (s : State) (q depth : Nat) : Bool :=
  let back := mgetD s.grid.withheld q 0
  let held := credsFor s q + mgetD s.grid.owed q 0
  match producerOf s q with
  | some k => depth ≤ back + if (shellGet s (k / 8)).draining then held else 0
  | none => depth ≤ back + held && !midTile s q

/-- A draining shell is quiet (R103): input queues, units and output queues empty, every credit it
granted returned. -/
def quiet (s : State) (k : Nat) : Bool :=
  (shellOars s k).all fun e =>
    e.2.iq.all (·.isEmpty) && e.2.ops.isEmpty && e.2.oq0.isEmpty && e.2.oq1.isEmpty &&
      (List.range 4).all fun q => creditsHome s (4 * e.1 + q) (imgDepth e.2.image q)

/-- The draining shells of a die. -/
def drainingShells (s : State) (die : Nat) : List Nat :=
  (s.grid.shells.filter fun e => e.1 / 256 = die && e.2.draining).map (·.1)

/-- A shell is drained: frozen at its program counters until RESUME (R103). -/
def setDrained (s : State) (k : Nat) : State :=
  shellSet s k { shellGet s k with draining := false, drained := true, frozen := true }

/-- DRAIN_COMPLETE (R103). -/
def execDrainComplete (die : Nat) (s : State) : Out :=
  fab s fun s =>
    let ds := drainingShells s die
    if rf s .grid die 0x044 0 0 = 1 && ds.all (quiet s) then rset (ds.foldl setDrained s) .grid die 0x044 2
    else s

/-- DRAIN_TIMEOUT (R104): the shells not yet quiet stop. -/
def execDrainTimeout (die : Nat) (s : State) : Out :=
  fab s fun s =>
    let ds := drainingShells s die
    if rf s .grid die 0x044 0 0 = 1 && !ds.all (quiet s) then
      let late := ds.filter fun k => !quiet s k
      let s := rset s .grid die 0x044 0
      let s := (ds.filter (quiet s)).foldl setDrained s
      late.foldl (fun s k => stopGrid s k 0x37 (8 * (k % 256))) s
    else s

/-- RESUME (R105): withheld credits go out and each oar goes on; a stopped shell stays (R124). -/
def drainResume (s : State) (die : Nat) : State :=
  (selected s die).foldl (fun s k =>
    let x := shellGet s k
    if x.drained && !stopped s k then
      let s := shellSet s k { x with drained := false, frozen := false }
      (List.range 32).foldl (fun s i =>
        let q := 32 * k + i
        let n := mgetD s.grid.withheld q 0
        if n = 0 then s
        else { s with grid := { s.grid with
          owed := mset s.grid.owed q (mgetD s.grid.owed q 0 + n), withheld := mdel s.grid.withheld q } }) s
    else s) s

/-- SNAP (R102): counters and state of the probed oar into the window. DESIGN CHOICE (assumption
log 20). -/
def gridSnap (s : State) (die : Nat) : State :=
  let k := oarKey die (rf s .grid die 0x050 10 0)
  let o := mgetD s.grid.oars k Oar.idle
  let x := shellGet s (k / 8)
  let s := (List.range 17).foldl (fun s j => rset s .grid die (0x100 + 4 * j) (o.ctr.getD j 0)) s
  let t := fun i => o.trips.getD i 0
  let s := rset s .grid die 0x180 (o.pc % 256 + 2 ^ 8 * x.seat + 2 ^ 10 * b2n o.halted + 2 ^ 16 * (x.round % 65536))
  rset (rset s .grid die 0x184 (t 0 % 65536 + 2 ^ 16 * t 1)) .grid die 0x188 (t 2 % 65536 + 2 ^ 16 * t 3)

/-- CTRL.CLR of a GRID page (R102): every counter of the die's oars. -/
def gridClear (s : State) (die : Nat) : State :=
  let zero := fun (k : Nat) (o : Oar) => if k / 2048 = die then { o with ctr := List.replicate 17 0 } else o
  { s with grid := { s.grid with oars := mmapv s.grid.oars zero } }

/-- CREDIT_RETURN (R97, R98, R123): a credit for an input queue reaches its producer, whose OQ0 goes on;
above the depth of the queue it stops the producer's shell, and where a tile fetch produces there is
none to stop. DEDUCED (assumption log 79). -/
def execCreditReturn (die oar iq : Nat) (s : State) : Out :=
  fab s fun s =>
    let q := qKey die oar (iq % 4)
    let n := mgetD s.grid.owed q 0
    if n = 0 then s
    else
      let s := { s with grid := { s.grid with owed := mset s.grid.owed q (n - 1) } }
      let d := imgDepth (mgetD s.grid.oars (q / 4) Oar.idle).image (q % 4)
      if d ≤ credsFor s q then
        match producerOf s q with
        | some k => stopTile s (k / 8) 0x32 (k % 2048) (mgetD s.grid.oars k Oar.idle).pc 0 (q % 4)
        | none => tileFault s die 0x32 0 0 0 (q % 4) ((shellGet s (q / 32)).owner.getD noCrew)
      else
        let s := { s with grid := { s.grid with creds := mset s.grid.creds q (credsFor s q + 1) } }
        match producerOf s q with
        | some k => pumpOar s k
        | none => s

/-- A shell passes to a crew: where it last belonged to another, its scratch outside the sprint
reservation reads zero and its table slots were never loaded (R295, R296). -/
def takeShell (s : State) (k crew : Nat) : State :=
  let x := shellGet s k
  let s := if x.owner = some crew then s
    else (List.range 8).foldl (fun s j =>
      let o := 8 * k + j
      let s := oarMod s o fun o => { o with tables := [], standbyTables := [] }
      { s with grid := { s.grid with
          scratch := zeroRange s.grid.scratch (o * 131072) (o * 131072 + 32 * scratchUnits s) } }) s
  shellSet s k { shellGet s k with owner := some crew, power := if x.power = .off then .off else .run }

/-- Start a program on one shell: its eight images are loaded and checked (R92, R94, R181). -/
def startShell (s : State) (k slot crew image : Nat) : State :=
  let s := takeShell s k crew
  let imgs := (List.range 8).map fun j => rdU s crew (image + 2432 * (8 * (k % 256) + j)) 2432
  let s := shellSet s k { shellGet s k with
    slot := some slot, running := true, draining := false, drained := false, frozen := false, rounds := 0 }
  let s := (List.range 8).foldl (fun s j => oarMod s (8 * k + j) fun o => { o with flags := 0, oq0 := [] }) s
  let bad := (List.range 8).find? fun j =>
    !imageGood s (j = 0) (imgs.getD j []) || (sprintArmed s k && usesCompat (imgs.getD j []))
  match bad with
  | some j => stopGrid s k 0x35 (8 * (k % 256) + j)
  | none => enterSeat s k imgs 0

/-- PROG_START (R285, R286). DEDUCED (assumption log 69). -/
def execProgStart (i : Nat) (s : State) : Out :=
  let held := fun (c : Slot) => quietHeld s c.crew (bits (fld c.cmd 16 1) 2 0)
  if ((slotGet s i).map held).getD false then .next s
  else opcode i 0x01 s fun c s =>
    let die := bits (fld c.cmd 16 1) 2 0
    let image := fld c.cmd 24 8
    let sel := (onesOf (fld c.cmd 32 32) 256).map (shellKey die)
    let code := sel.foldl (fun n k =>
      if n != cOK then n else nearCode s c.crew (image + 19456 * (k % 256)) 19456) cOK
    if dieStopped s die then endCmd s i 0x25
    else if sel.any (fun k => (shellGet s k).running || stopped s k)
        || quota s c.crew 0 < shellsUsed s c.crew + sel.length then endCmd s i cSHELL
    else if code != cOK then endAt s i code image
    else progEnd (sel.foldl (fun s k => startShell s k i c.crew image) s) i

/-- Write a table image to the standby slot of a shell's oars; live at once where no program runs
(R167). -/
def loadTable (s : State) (k crew slot : Nat) (img : List Byte) : State :=
  let s := takeShell s k crew
  let put := fun (o : Oar) => { o with standbyTables := mset o.standbyTables slot img }
  let oars := (List.range 8).foldl (fun m j =>
    let o := put (mgetD m (8 * k + j) Oar.idle)
    mset m (8 * k + j) (if (shellGet s k).running then o else tablesLive o)) s.grid.oars
  { s with grid := { s.grid with oars := oars } }

/-- TABLE_LOAD (R166, R167, R285). While a shell runs another crew's program the load waits.
DEDUCED (assumption log 69). -/
def execTableLoad (i : Nat) (s : State) : Out :=
  let waits := fun (c : Slot) => (onesOf (fld c.cmd 32 32) 256).any fun sh =>
    let x := shellGet s (shellKey (bits (fld c.cmd 16 1) 6 4) sh)
    x.running && x.owner != some c.crew
  if ((slotGet s i).map waits).getD false then .next s
  else opcode i 0x70 s fun c s =>
    let w := fld c.cmd 16 1
    let image := fld c.cmd 24 8
    let code := nearCode s c.crew image 3136
    if dieStopped s (bits w 6 4) then endCmd s i 0x25
    else if code != cOK then endAt s i code image
    else
      let img := rdU s c.crew image 3136
      match tableCheck img with
      | some seg => endCmd s i cCONFIG seg
      | none =>
        endCmd ((onesOf (fld c.cmd 32 32) 256).foldl
          (fun s sh => loadTable s (shellKey (bits w 6 4) sh) c.crew (bits w 1 0) img) s) i cOK

end Sys2Proof.Machine
end

