-- ==== Sys2Proof/Machine/Tier.lean ====
section
/-!
DEFINITION. Memory tiers (chapter 10): allocation, freeing and migration (R206, R207), tier copies
and host copies (R285, R286), late and failed lower tiers (R219, R426), and the loom (R211 to R213).
-/
namespace Sys2Proof.Machine
open Sys2Proof

/-- A plain idle object. -/
def newObj (tier die size loc : Nat) (pin : Bool) : Obj :=
  { state := 0, tier := tier, pin := pin, die := die, size := size, loc := loc, dest := 0
    destTier := 0, destDie := 0, switched := false, oldTier := 0, oldDie := 0, oldLoc := 0
    slot := none, readers := [], waitOn := [] }

/-- Place a new object: its space reads as zero (R296), its location is free (R205). DESIGN CHOICE
(assumption log 6). -/
def allocObj (s : State) (crew obj tier die size : Nat) (pin : Bool) : State :=
  let (n, s) := draw s
  let s := objSet s crew obj (newObj tier die size (Config.freeLocation n) pin)
  let k := uKey crew (obj * 2 ^ 40)
  { s with tier := { s.tier with data := zeroRange s.tier.data k (k + 2 ^ 40) } }

/-- End a command with QUOTA or another code; QUOTA is counted (R220). -/
def endPlace (s : State) (i c : Nat) : State :=
  endCmd (if c = cQUOTA then bump s .tier 0 0x510 else s) i c

/-- ALLOC (R206, R285). DEDUCED (assumption log 66). -/
def execAlloc (i : Nat) (s : State) : Out :=
  opcode i 0x30 s fun c s =>
    let obj := bits (fld c.cmd 16 3) 19 0
    let w := fld c.cmd 20 1
    let tier := bits w 2 0
    let size := 65536 * units (fld c.cmd 24 8)
    if objCount s c.crew ≤ obj then endCmd s i cRANGE
    else if (mget s.tier.objs (objKey c.crew obj)).isSome then endCmd s i cBUSY
    else
      let code := placeCode s c.crew tier (bits w 6 4) (units size)
      if code != cOK then endPlace s i code
      else endCmd (allocObj s c.crew obj tier (bits w 6 4) size (bit w 3)) i cOK

/-- FREE (R207): refused for a migrating or freeing object; the space is released when the readers
have ended. DEDUCED (assumption log 66). -/
def execFree (i : Nat) (s : State) : Out :=
  opcode i 0x31 s fun c s =>
    let obj := bits (fld c.cmd 16 3) 19 0
    match objGet s c.crew obj with
    | none => endCmd s i cRANGE
    | some o =>
      if o.state = 1 || o.state = 3 then endCmd s i cBUSY
      else objSet s c.crew obj { o with state := 3, slot := some i, waitOn := o.readers }

/-- MIGRATE (R207): the refusals of the table, then the copy begins. DEDUCED (assumption log 66). -/
def execMigrate (i : Nat) (s : State) : Out :=
  opcode i 0x32 s fun c s =>
    let obj := bits (fld c.cmd 16 3) 19 0
    let w := fld c.cmd 20 1
    let tier := bits w 2 0
    let die := bits w 6 4
    match objGet s c.crew obj with
    | none => endCmd s i cRANGE
    | some o =>
      let code := placeCode s c.crew tier die (units o.size)
      if o.state = 1 || o.state = 3 then endCmd s i cBUSY
      else if o.pin then endCmd s i cPINNED
      else if o.state = 2 then endCmd s i cPOISON
      else if code != cOK then endPlace s i code
      else if (tier = 4 && rf s .tier 0 0x044 0 0 = 1)
          || onChannels tier (chDown s tier) 0 o.size
          || onChannels o.tier (chDown s o.tier) 0 o.size then endCmd s i cTFAIL
      else
        let (n, s) := draw s
        let s := objSet s c.crew obj { o with
          state := 1, dest := Config.freeLocation n, destTier := tier, destDie := die
          switched := false, slot := some i }
        if 3 ≤ tier || 3 ≤ o.tier then
          { s with tier := { s.tier with reqs := s.tier.reqs ++
              [⟨i, c.crew, .migrate, obj * 2 ^ 40, obj * 2 ^ 40, o.size, 0, 0, none, [], none⟩] } }
        else s

/-- The migrating or freeing object of a slot. -/
def slotObj (s : State) (i : Nat) : Option (Nat × Obj) := s.tier.objs.find? fun e => e.2.slot = some i

/-- A transfer has issued its first request, so that its timer runs (R219, R426): fewer than 64 requests
are ahead of it on one of its channels. -/
def timed (s : State) (r : TierReq) : Bool :=
  r.reads != 0 || r.writes != 0 || !(outstanding s r).isEmpty

/-- MIGRATION_COPY_DONE (R207, R285): LOC switches to DEST in one step and the command ends; the source
waits for the commands that hold reads made before. -/
def execMigrationCopyDone (i : Nat) (s : State) : Out :=
  fab s fun s =>
    match slotObj s i with
    | some (k, o) =>
      if o.state = 1 && !o.switched && s.tier.reqs.all fun r => r.slot != i || r.stray.isSome || reqDone s r then
        let o := { o with loc := o.dest, tier := o.destTier, die := o.destDie, switched := true
                          oldLoc := o.loc, oldTier := o.tier, oldDie := o.die
                          slot := none, waitOn := o.readers }
        endCmd { s with tier := { s.tier with objs := mset s.tier.objs k o } } i cOK
      else s
    | none => s

/-- SOURCE_RELEASE (R207): once every earlier reader has ended, the source of a switched migration or the
freed object is released; with an object its FREE ends. DEDUCED (assumption log 66). -/
def execSourceRelease (crew obj : Nat) (s : State) : Out :=
  fab s fun s =>
    let k := objKey crew obj
    match mget s.tier.objs k with
    | some o =>
      if !o.waitOn.isEmpty then s
      else if o.state = 3 then
        endCmd { s with tier := { s.tier with objs := mdel s.tier.objs k } } (o.slot.getD 4096) cOK
      else if o.switched then
        { s with tier := { s.tier with objs := mset s.tier.objs k { o with
            state := if o.state = 1 then 0 else o.state, switched := false, dest := 0 } } }
      else s
    | none => s

/-- A migration of a slot ends without its switch: the object stays idle at its source (R207). -/
def dropMigration (s : State) (i : Nat) : State :=
  match slotObj s i with
  | some (k, o) =>
    if o.state = 1 && !o.switched then
      { s with tier := { s.tier with objs := mset s.tier.objs k { o with state := 0, slot := none } } }
    else s
  | none => s

/-- TIER_TIMER_EXPIRY (R219, R426): the command whose transfer's timer runs ends with TIER_LATE; a copy has
written nothing yet, a migration's destination is released. -/
def execTierTimerExpiry (i : Nat) (s : State) : Out :=
  fab s fun s =>
    if s.tier.reqs.any fun r => r.slot = i && r.stray.isNone && timed s r && !reqDone s r then
      endCmd (bump (dropMigration s i) .tier 0 0x500) i cTLATE
    else s

/-- One piece of a copy: 256 bytes, or what is left (R286). -/
def copyPiece (s : State) (crew src dst pos len : Nat) : State :=
  wrU s crew (dst + pos) (rdU s crew (src + pos) (min 256 (len - pos)))

/-- Move the pieces of a copy in ascending order (R286). -/
def copyAll (s : State) (crew src dst len : Nat) : State :=
  (List.range ((len + 255) / 256)).foldl (fun s k => copyPiece s crew src dst (256 * k) len) s

/-- A poisoned object written whole by a tier transfer returns to idle, or goes on with the release of its
source (R219). -/
def unpoison (s : State) (crew a len : Nat) : State :=
  match objGet s crew (uObj a) with
  | some o =>
    if o.state = 2 && uOff a = 0 && o.size ≤ len then
      objSet s crew (uObj a) { o with state := if o.switched then 1 else 0 }
    else s
  | none => s

/-- The code that a whole-range destination of a tier transfer meets: a poisoned object may be
written whole (R219). -/
def destCode (s : State) (crew a len : Nat) : Nat :=
  let c := storeCode s crew a 0
  if c = cPOISON then
    match objGet s crew (uObj a) with
    | some o => if uOff a = 0 && o.size ≤ len then cOK else c
    | none => c
  else c

/-- The code that a reply of a transfer meets, or OK: since it began its source may have been poisoned,
and its destination poisoned, freed or taken into a migration (R207, R219). A source that is freed
serves the transfer, which holds a read of it. -/
def pieceCode (s : State) (r : TierReq) : Nat :=
  let spoiled := match objGet s r.crew (uObj r.src) with
    | some o => decide (o.state = 2)
    | none => false
  match r.kind with
  | .migrate => cOK
  | .hostOut => if spoiled then cPOISON else cOK
  | .copy => if spoiled then cPOISON else destCode s r.crew r.dst r.len
  | .hostIn => destCode s r.crew r.dst r.len

/-- A transfer has everything it moves: its bytes are written, cached lines of them are invalidated
(R121), and its command ends; a migration waits for its switch. -/
def finishReq (s : State) (r : TierReq) : State :=
  let stop := fun (s : State) => match r.short with
    | some a => endAt s r.slot cRANGE a
    | none => endCmd (if r.kind = .hostOut then s else unpoison s r.crew r.dst r.len) r.slot cOK
  match r.kind with
  | .migrate => s
  | .copy => stop (invalidate (copyAll s r.crew r.src r.dst r.len) r.crew r.dst r.len)
  | .hostOut => stop (hostWrite s r.dst (rdU s r.crew r.src r.len))
  | .hostIn => stop (invalidate (wrU s r.crew r.dst (slice r.data 0 r.len)) r.crew r.dst r.len)

/-- A transfer begins: at once where no T3 or T4 takes part, else by its requests. -/
def beginReq (s : State) (r : TierReq) : State :=
  if reqDone s r then finishReq s r else { s with tier := { s.tier with reqs := s.tier.reqs ++ [r] } }

/-- Bytes of a transfer that the source's answered requests cover. -/
def bytesRead (s : State) (r : TierReq) : Nat :=
  match reqSide s r false with
  | some (t, a, _) => (a + r.reads) * (stripe t).1 - uOff r.src
  | none => r.len

/-- A reply is the one that a channel gives next (R210): the transfer's next unit on that side, no earlier
transfer's request on its channel, and for a write the data read. -/
def replyDue (s : State) (r : TierReq) (write : Bool) (unit : Nat) : Bool :=
  match reqSide s r write with
  | none => false
  | some (t, a, c) =>
    let (u, n) := stripe t
    unit = a + r.answered write && r.answered write < c && aheadOf s r.slot t (unit % n) = 0
      && (!write || min r.len ((unit + 1) * u - uOff r.dst) ≤ bytesRead s r)

/-- A reply for a request whose command has ended is discarded and counted (R219). -/
def strayReply (s : State) (i unit : Nat) : State :=
  let due := fun (r : TierReq) => (r.stray.getD []).find? fun e =>
    r.slot = i && e.1 % 32 = unit % (stripe (e.1 / 32)).2 &&
      ((s.tier.reqs.takeWhile (· != r)).all fun q => reqsOn s (e.1 / 32) (e.1 % 32) q = 0)
  match s.tier.reqs.find? fun r => (due r).isSome with
  | none => s
  | some r =>
    let m := match due r with
      | some (k, n) => if n = 1 then mdel (r.stray.getD []) k else mset (r.stray.getD []) k (n - 1)
      | none => []
    let reqs := s.tier.reqs.filterMap fun q =>
      if q = r then (if m.isEmpty then none else some { r with stray := some m }) else some q
    bump { s with tier := { s.tier with reqs := reqs } } .tier 0 0x504

/-- TIER_REPLY (R210, R219, R426): the reply for one stripe unit, by its number in its object, that a
command's transfer reads or writes; `bad` says that the loom or a channel could not correct what it read, or
that the write failed. A reply after the command has ended is discarded and counted. DEDUCED
(assumption log 89). -/
def execTierReply (i : Nat) (write : Bool) (unit : Nat) (bad : Bool) (s : State) : Out :=
  fab s fun s =>
    match s.tier.reqs.find? (fun r => r.slot = i && r.stray.isNone) with
    | none => strayReply s i unit
    | some r =>
      if !replyDue s r write unit then strayReply s i unit
      else if bad && !write then
        let s := poison s r.crew (uObj r.src)
        if r.kind = .migrate then s else endCmd (bump s .tier 0 0x508) i cTFAIL
      else if bad then endCmd (bump (dropMigration s i) .tier 0 0x508) i cTFAIL
      else if pieceCode s r != cOK then endCmd s i (pieceCode s r)
      else
        let r' := if write then { r with writes := r.writes + 1 } else { r with reads := r.reads + 1 }
        let s := { s with tier := { s.tier with
          reqs := s.tier.reqs.map fun q => if q = r then r' else q } }
        if reqDone s r' then finishReq s r' else s

/-- The part of a range of `len` bytes that 256-byte pieces reach before one fails. -/
def reach (s : State) (crew a len : Nat) : Nat :=
  match objGet s crew (uObj a) with
  | some o => if uOff a + len ≤ o.size then len else (o.size - uOff a) / 256 * 256
  | none => 0

/-- Tier of the object at an address. -/
def tierAt (s : State) (crew a : Nat) : Nat :=
  match objGet s crew (uObj a) with
  | some o => o.tier
  | none => 0

/-- TIER_COPY (R285, R286). -/
def execTierCopy (i : Nat) (s : State) : Out :=
  opcode i 0x33 s fun c s =>
    let src := fld c.cmd 24 8
    let dst := fld c.cmd 32 8
    let len := fld c.cmd 40 8
    let a := accessCode s c.crew src 0
    let b := destCode s c.crew dst len
    let n := min (reach s c.crew src len) (reach s c.crew dst len)
    let short := if n < len then some (if reach s c.crew src len = n then src + n else dst + n) else none
    if a != cOK then endAt s i a src
    else if b != cOK then endAt s i b dst
    else if accessCode s c.crew src n = cTFAIL || storeCode s c.crew dst n = cTFAIL then
      endCmd s i cTFAIL
    else beginReq (addReader s c.crew src i) ⟨i, c.crew, .copy, src, dst, n, 0, 0, short, [], none⟩

/-- HOST_COPY (R277, R285): DIR 0 stores `data`, the bytes read from host memory at HOST, in the
object; DIR 1 writes the object's bytes to host memory. -/
def execHostCopy (i : Nat) (data : List Byte) (s : State) : Out :=
  opcode i 0x37 s fun c s =>
    let a := fld c.cmd 24 8
    let h := fld c.cmd 32 8
    let len := fld c.cmd 40 8
    let n := reach s c.crew a len
    let short := if n < len then some (a + n) else none
    if bit (fld c.cmd 16 1) 0 then
      let code := accessCode s c.crew a 0
      if code != cOK then endAt s i code a
      else if accessCode s c.crew a n = cTFAIL then endCmd s i cTFAIL
      else beginReq (addReader s c.crew a i) ⟨i, c.crew, .hostOut, a, h, n, 0, 0, short, [], none⟩
    else
      let code := destCode s c.crew a len
      if code != cOK then endAt s i code a
      else if storeCode s c.crew a n = cTFAIL then endCmd s i cTFAIL
      else beginReq s ⟨i, c.crew, .hostIn, h, a, n, 0, 0, short, slice data 0 n, none⟩

/-- A transfer needs a channel of a tier (R219): requests of it on that channel of T3 or T4 are not yet
answered, or it moves bytes of T2 that lie there. -/
def needsChannel (s : State) (tier ch : Nat) (r : TierReq) : Bool :=
  let near := fun (a : Nat) => tier = 2 && tierAt s r.crew a = 2 && onChannels 2 (2 ^ ch) (uOff a) r.len
  reqsOn s tier ch r != 0 || (r.kind != .hostIn && near r.src) || (r.kind = .copy && near r.dst)
    || (r.kind = .hostIn && near r.dst)

/-- The commands whose migration moves an object from or to a channel of a tier (R219). -/
def migratesOver (s : State) (tier ch : Nat) : List Nat :=
  s.tier.objs.filterMap fun e =>
    let o := e.2
    if o.state = 1 && !o.switched && ((o.tier = tier && tier < 3) || (o.destTier = tier && tier < 3))
        && onChannels tier (2 ^ ch) 0 o.size then o.slot else none

/-- A channel goes out of service (R219, R351, R371): CH_DOWN set and counted, and every command
that needs it ends with TIER_FAIL; what it still owed is answered no more. -/
def chanOut (s : State) (tier ch : Nat) : State :=
  if tier < 2 || 4 < tier || (stripe tier).2 ≤ ch || bit (chDown s tier) ch then s
  else
    let hit := (s.tier.reqs.filter fun r => r.stray.isNone && needsChannel s tier ch r).map (·.slot)
      ++ migratesOver s tier ch
    let s := rset s .tier 0 (0x060 + 4 * (tier - 2)) (chDown s tier ||| 2 ^ ch)
    let s := bump s .tier 0 0x50C
    let s := hit.foldl (fun s i => endCmd (dropMigration s i) i cTFAIL) s
    let lost := fun (r : TierReq) => { r with stray := r.stray.map fun m => mdel m (tier * 32 + ch) }
    { s with tier := { s.tier with reqs := (s.tier.reqs.map lost).filter fun r => r.stray != some [] } }

/-- CHANNEL_OUT_OF_SERVICE (R219). -/
def execChannelOutOfService (tier ch : Nat) (s : State) : Out := fab s fun s => chanOut s tier ch

/-- T4 becomes read-only (R212): every transfer that still writes into it ends with TIER_FAIL. -/
def t4ReadOnly (s : State) : State :=
  let hit := s.tier.reqs.filter fun r => r.stray.isNone && match reqSide s r true with
    | some (t, _, c) => t = 4 && r.writes < c
    | none => false
  hit.foldl (fun s r => endCmd (dropMigration s r.slot) r.slot cTFAIL) (rput s .tier 0 0x044 0 0 1)

/-- A block of the loom. -/
def blockGet (s : State) (b : Nat) : Block := mgetD s.tier.blocks b ⟨0, false, none⟩

/-- Set a block. -/
def blockSet (s : State) (b : Nat) (x : Block) : State :=
  { s with tier := { s.tier with blocks := mset s.tier.blocks b x } }

/-- A block that can take data: of the flash fitted, good and holding none. -/
def blockFree (s : State) (b : Nat) : Bool :=
  b < s.tier.rawBlocks && !(blockGet s b).bad && (blockGet s b).holds.isNone

/-- Erase counts of the good blocks that the loom has seen. -/
def goodErases (s : State) : List Nat := (s.tier.blocks.filter fun e => !e.2.bad).map (·.2.erases)

/-- The lowest erase count of the good blocks; a block never seen has count 0. -/
def lowestErases (s : State) : Nat :=
  if s.tier.blocks.length < s.tier.rawBlocks then 0
  else (goodErases s).foldl min ((goodErases s).headD 0)

/-- LOOM_WEAR.SPREAD: highest minus lowest erase count (R220). -/
def wearSpread (s : State) : Nat := (goodErases s).foldl max 0 - lowestErases s

/-- The spread after a change, in its register. -/
def putSpread (s : State) : State := rset s .tier 0 0x05C (min 65535 (wearSpread s))

/-- Relocate what a block holds into another in one step; the block left is erased (R212). DEDUCED
(assumption log 77). -/
def relocate (s : State) (src dst : Nat) : State :=
  let a := blockGet s src
  let s := blockSet s dst { blockGet s dst with holds := a.holds }
  putSpread (blockSet s src { a with holds := none, erases := a.erases + 1 })

/-- LOOM_PROGRAM_FAIL (R212): the data moves to a good spare, where one is left, and the block is
retired; below 1 % of raw blocks left the TIER interrupt is raised, with none left T4 becomes
read-only. DEDUCED (assumption log 77). -/
def execLoomProgramFail (block spare : Nat) (s : State) : Out :=
  fab s fun s =>
    let left := rg s .tier 0 0x058
    if (blockGet s block).bad || (left != 0 && (!blockFree s spare || spare = block)) then s
    else
      let a := blockGet s block
      let s := bump s .tier 0 0x528
      let s := if left = 0 then s
        else blockSet s spare { blockGet s spare with holds := a.holds }
      let s := putSpread (blockSet s block { a with bad := true, holds := none })
      let s := rset s .tier 0 0x058 (left - 1)
      let s := if (left - 1) * 100 < s.tier.rawBlocks then event s .tier 0 else s
      if left ≤ 1 then t4ReadOnly s else s

end Sys2Proof.Machine
end

