-- ==== Sys2Proof/Machine/Tile.lean ====
section
/-!
DEFINITION. Tile transfers (chapter 05): transfer descriptors (R110 to R114), stores (R115), the
T1 cache (R119, R121) and the faults of a list (R123).
-/
namespace Sys2Proof.Machine
open Sys2Proof

/-- A transfer descriptor (R111). -/
structure XDesc where
  addr : Nat
  rstride : Nat
  rows : Nat
  cols : Nat
  tr : Nat
  tc : Nat
  fmt : Nat
  layout : Nat
  scaled : Bool
  store : Bool
  endm : Bool
  pad : Nat
  pscale : Nat
  dest : Nat
  saddr : Nat
  sstride : Nat
  pcount : Nat
  plist : Nat
deriving DecidableEq, Repr

/-- Read a descriptor (R111). -/
def parseXDesc (b : List Byte) : XDesc :=
  let f := fld b 18 1
  { addr := fld b 0 8, rstride := fld b 8 4, rows := fld b 12 2, cols := fld b 14 2
    tr := 8 * (bits (fld b 16 1) 4 0 + 1), tc := 8 * (bits (fld b 17 1) 4 0 + 1)
    fmt := bits f 3 0, layout := bits f 5 4, scaled := bit f 6
    store := bit (fld b 19 1) 0, endm := bit (fld b 19 1) 1, pad := fld b 20 4
    pscale := fld b 24 1, dest := fld b 28 4, saddr := fld b 32 8, sstride := fld b 40 4
    pcount := fld b 44 2, plist := fld b 48 8 }

/-- A tile of a descriptor with its pointer-list entry applied (R114). -/
def tileOf (s : State) (crew : Nat) (d : XDesc) (i : Nat) : XDesc :=
  if d.pcount = 0 then d
  else
    let e := rdU s crew (d.plist + 16 * i) 16
    let keep := fun (v old : Nat) => if v = 0xFFFF then old else v
    { d with
      addr := (d.addr + fld e 0 8) % 2 ^ 64, rows := keep (fld e 8 2) d.rows
      cols := keep (fld e 10 2) d.cols
      saddr := unsigned 64 ((d.saddr : Int) + signed 32 (fld e 12 4)) }

/-- Tiles of a descriptor. -/
def XDesc.tiles (d : XDesc) : Nat := max 1 d.pcount

/-- Element width, data units and scale units of a tile (R107, R108). -/
def XDesc.w (d : XDesc) : Nat := fmtWidth d.fmt
def XDesc.units (d : XDesc) : Nat := d.tr * d.tc * d.w / 256
def XDesc.scales (d : XDesc) : Nat := d.tr * d.tc / 32
def XDesc.allUnits (d : XDesc) : Nat := d.units + (if d.scaled then (d.scales + 31) / 32 else 0)

/-- The elements of data unit u, as (row, column) in bit order (R107, R111). -/
def XDesc.cells (d : XDesc) (u : Nat) : List (Nat × Nat) :=
  let e := 32 / d.w
  let panel := fun (L : Nat) =>
    let per := L * d.w / 32
    (List.range 8).flatMap fun i => (List.range e).map fun j => (8 * (u / per) + i, u % per * e + j)
  match d.layout with
  | 0 => panel d.tc
  | 1 => (panel d.tr).map fun x => (x.2, x.1)
  | _ => (List.range (256 / d.w)).map fun j =>
      let n := u * (256 / d.w) + j
      (n / d.tc, n % d.tc)

/-- Address and first bit of element (r, c) (R112). -/
def XDesc.elemAddr (d : XDesc) (r c : Nat) : Nat × Nat :=
  ((d.addr + r * d.rstride + c * d.w / 8) % 2 ^ 64, c * d.w % 8)

/-- Scale t of a tile: its address, and whether its block lies wholly outside the extent (R112,
R113). -/
def XDesc.scaleAddr (d : XDesc) (t : Nat) : Nat × Bool :=
  if d.layout = 1 then
    let nb := d.tr / 32
    ((d.saddr + t % nb * d.sstride + t / nb) % 2 ^ 64,
      decide (d.cols ≤ t / nb) || decide (d.rows ≤ 32 * (t % nb)))
  else
    let nb := d.tc / 32
    ((d.saddr + t / nb * d.sstride + t % nb) % 2 ^ 64,
      decide (d.rows ≤ t / nb) || decide (d.cols ≤ 32 * (t % nb)))

/-- An element lies inside the extents. -/
def XDesc.inside (d : XDesc) (x : Nat × Nat) : Bool := x.1 < d.rows && x.2 < d.cols

/-- The scales of scale unit v. -/
def XDesc.scaleIdx (d : XDesc) (v : Nat) : List Nat := (span (32 * v) (min d.scales (32 * v + 32)))

/-- A field value of a descriptor that no rule defines, or a scaled tile whose block dimension is
not a multiple of 32 (R112). DEDUCED (assumption log 79). -/
def XDesc.bad (d : XDesc) : Bool :=
  9 < d.fmt || d.layout = 3 || (d.scaled && (if d.layout = 1 then d.tr else d.tc) % 32 != 0)

/-- Bytes of unit u of a tile as a fetch delivers them (R112, R113). -/
def fetchUnit (s : State) (crew : Nat) (d : XDesc) (u : Nat) : List Byte :=
  if u < d.units then
    packElems d.w ((d.cells u).map fun x =>
      if d.inside x then
        let (a, i) := d.elemAddr x.1 x.2
        bits (leNat (rdU s crew a 4)) (i + d.w - 1) i
      else d.pad % 2 ^ d.w)
  else
    slice ((d.scaleIdx (u - d.units)).map fun t =>
      let (a, out) := d.scaleAddr t
      if out then BitVec.ofNat 8 d.pscale else (rdU s crew a 1).headD 0) 0 32

/-- Write one element of `w` bits. -/
def putElem (s : State) (crew w a i v : Nat) : State :=
  let n := (w + 7) / 8
  wrU s crew a (toLE (putBits (leNat (rdU s crew a n)) (i + w - 1) i v) n)

/-- Write unit u of a store (R115): elements and scales inside the extents. -/
def storeUnit (s : State) (crew : Nat) (d : XDesc) (u : Nat) (b : List Byte) : State :=
  if u < d.units then
    ((d.cells u).zipIdx).foldl (fun s x =>
      if d.inside x.1 then
        let (a, i) := d.elemAddr x.1.1 x.1.2
        putElem s crew d.w a i (elemAt d.w b x.2)
      else s) s
  else
    ((d.scaleIdx (u - d.units)).zipIdx).foldl (fun s t =>
      let (a, out) := d.scaleAddr t.1
      if out then s else wrU s crew a [b.getD t.2 0]) s

/-- The code of a tile transfer's access: near memory, T1 of its own die only (R120, R123); a poisoned
object, a store into a migrating one and a channel out of service have their own codes (R207, R219).
DEDUCED (assumption log 68). -/
def tileAccess (s : State) (crew die a len : Nat) (store : Bool) : Nat :=
  let c := if store then storeCode s crew a len else accessCode s crew a len
  if c = cPOISON || c = cBUSY || c = cTFAIL then c
  else if c != cOK then 0x33
  else match objGet s crew (uObj a) with
    | some o => if 3 ≤ o.tier || (o.tier = 1 && o.die != die) then 0x33 else cOK
    | none => 0x33

/-- The code that reading the pointer-list entry of a tile meets (R114, R120, R204). -/
def plistCode (s : State) (crew die : Nat) (d : XDesc) (i : Nat) : Nat :=
  if d.pcount = 0 then cOK else tileAccess s crew die (d.plist + 16 * i) 16 false

/-- The first code that a tile's rows and scales meet, with its address. -/
def tileCode (s : State) (crew die : Nat) (d : XDesc) : Nat × Nat :=
  let rows := (List.range (min d.rows d.tr)).map fun r =>
    let n := min d.cols d.tc
    if n = 0 then (cOK, 0)
    else
      let a := (d.elemAddr r 0).1
      (tileAccess s crew die a ((n * d.w + 7) / 8) d.store, a)
  let scales := if d.scaled then (List.range d.scales).map fun t =>
      let (a, out) := d.scaleAddr t
      if out then (cOK, 0) else (tileAccess s crew die a 1 d.store, a)
    else []
  ((rows ++ scales).find? fun x => x.1 != cOK).getD (cOK, 0)

/-- The lines of T2 that a fetch of unit u reads. -/
def unitLines (s : State) (crew : Nat) (d : XDesc) (u : Nat) : List Nat :=
  let addrs := if u < d.units then
      ((d.cells u).filter d.inside).map fun x => (d.elemAddr x.1 x.2).1
    else ((d.scaleIdx (u - d.units)).filter fun t => !(d.scaleAddr t).2).map fun t => (d.scaleAddr t).1
  ((addrs.filter fun a => tierAt s crew a = 2).map (lineKey crew)).eraseDups

/-- The lines of T2 that a read of a range touches. -/
def rangeLines (s : State) (crew a len : Nat) : List Nat :=
  ((span (a / 256) ((a + len + 255) / 256)).filter fun i => tierAt s crew (256 * i) = 2).map fun i =>
    lineKey crew (256 * i)

/-- Sets of a T1 cache (R119): from one to as many as a die's T1 has lines of 256 bytes. DESIGN CHOICE
(assumption log 6). -/
def cacheSets : Nat := Config.t1Sets % (256 * 1536) + 1

/-- The set of a line (R119). -/
def lineSet (l : Nat) : Nat := Config.t1Set l % cacheSets

/-- Lines that each set of a die's cache holds: the T1 that no object is pinned in (R119). DESIGN CHOICE
(assumption log 6). -/
def cacheWays (s : State) (die : Nat) : Nat :=
  256 * (tierSpace s 1 die - tierTaken s 1 die) / cacheSets

/-- The cached lines of a line's set, most recently used first, as far as the set has room for. -/
def setLines (s : State) (die l : Nat) : List Nat :=
  ((mgetD s.tile.cache die []).filter fun x => lineSet x = lineSet l).take (cacheWays s die)

/-- Put lines of one set in place of those cached. -/
def putSet (s : State) (die l : Nat) (ls : List Nat) : State :=
  let c := (mgetD s.tile.cache die []).filter fun x => lineSet x != lineSet l
  { s with tile := { s.tile with cache := mset s.tile.cache die (ls ++ c) } }

/-- Look lines up in a die's cache: hits become most recently used, missed lines await their fill, hits
and misses are counted (R119, R125). DEDUCED (assumption log 79). -/
def cacheLook (s : State) (die : Nat) (lines : List Nat) : State :=
  lines.foldl (fun s l =>
    let c := setLines s die l
    if c.contains l then bumpC (putSet s die l (l :: c.erase l)) .tile die 4
    else
      let m := mgetD s.tile.missed die []
      let s := if m.contains l then s
        else { s with tile := { s.tile with missed := mset s.tile.missed die (l :: m) } }
      bumpC s .tile die 5) s

/-- The invalidation of a whole unit of a store. -/
def invalidateUnit (s : State) (crew : Nat) (d : XDesc) (u : Nat) : State :=
  let addrs := if u < d.units then
      ((d.cells u).filter d.inside).map fun x => (d.elemAddr x.1 x.2).1
    else (d.scaleIdx (u - d.units)).map fun t => (d.scaleAddr t).1
  addrs.foldl (fun s a => invalidate s crew a 1) s

/-- Set or remove a running list. -/
def listSet (s : State) (k : Nat) (l : XList) : State :=
  { s with tile := { s.tile with lists := mset s.tile.lists k l } }
def listDel (s : State) (k : Nat) : State :=
  { s with tile := { s.tile with lists := mdel s.tile.lists k } }

/-- The source oar of a store (R111, R115): one of the die, named without multicast. DEDUCED (assumption
log 79). -/
def storeSrc (die : Nat) (d : XDesc) : Option Nat :=
  if bit d.dest 31 || bits d.dest 19 16 != die then none
  else some (oarKey die (8 * (16 * bits d.dest 11 8 + bits d.dest 15 12) + bits d.dest 4 2))

/-- The input queues that a fetch of a die's engine leads to; for a store a queue of its source oar. -/
def listQueues (s : State) (die : Nat) (d : XDesc) : List Nat :=
  if d.store then ((storeSrc die d).map (4 * ·)).toList
  else match parseRoute d.dest with
    | .one d' x y o q => if d' = die then [qKey die (8 * (16 * y + x) + o) q] else []
    | .many i => (mcastQueues s die i).getD []
    | .unused => []

/-- A list stops (R123): the shells of its destination stop, or the source oar's shell for a store,
and its command ends with the code. -/
def listStop (s : State) (k code addr : Nat) : State :=
  match mget s.tile.lists k with
  | none => s
  | some l =>
    let die := k / 64
    let d := parseXDesc (rdU s l.crew (l.addr + 64 * l.index) 64)
    let s := endCmd (listDel s k) l.slot code addr
    let qs := listQueues s die d
    let stopCode := if code = 0x34 then 0x34 else 0x33
    let oar := qs.headD 0 / 4 % 2048
    let s := tileFault s die stopCode oar (mgetD s.grid.oars (oarKey die oar) Oar.idle).pc (k % 64) addr l.crew
    ((qs.map (· / 32)).eraseDups).foldl (fun s sh => haltShell s sh stopCode oar) s

/-- The list running for a command. -/
def listOf (s : State) (slot : Nat) : Option Nat :=
  (s.tile.lists.find? fun e => e.2.slot = slot).map (·.1)

/-- A request of a command failed in the network: a transfer list stops as for FETCH_RANGE, any other
command ends with the code (R232). DEDUCED (assumption log 79). -/
def netFail (s : State) (slot code : Nat) : State :=
  match listOf s slot with
  | some k => listStop s k code 0
  | none => endCmd s slot code

/-- XFER (R110, R285): a list of descriptors starts on a die's engine, which runs 64 at once;
not on a die that a tree operation of its crew holds quiet (R271). -/
def execXfer (i : Nat) (s : State) : Out :=
  let die := fun (c : Slot) => bits (fld c.cmd 16 1) 2 0
  let full := fun (c : Slot) => quietHeld s c.crew (die c) ||
    decide ((s.tile.lists.filter fun e => e.1 / 64 = die c).length = 64)
  if ((slotGet s i).map full).getD false then .next s
  else opcode i 0x10 s fun c s =>
    let a := fld c.cmd 24 8
    let n := fld c.cmd 32 4
    let code := dieCode s (die c) c.crew a (64 * n)
    if dieStopped s (die c) then endCmd s i 0x25
    else if code != cOK then endAt s i code a
    else if n = 0 then endCmd s i cOK
    else
      match (List.range 64).find? fun j => (mget s.tile.lists (64 * die c + j)).isNone with
      | some j => listSet s (64 * die c + j) ⟨c.crew, i, a, n, 0, 0, 0⟩
      | none => s

/-- A list goes on behind a tile: the next tile, the next descriptor, or its end. -/
def listNext (s : State) (k : Nat) (l : XList) (d : XDesc) : State :=
  if l.tile + 1 < d.tiles then listSet s k { l with tile := l.tile + 1, unit := 0 }
  else if l.index + 1 < l.count then listSet s k { l with index := l.index + 1, tile := 0, unit := 0 }
  else endCmd (listDel s k) l.slot cOK

/-- The descriptor of a list and its current tile. -/
def listDesc (s : State) (l : XList) : XDesc :=
  parseXDesc (rdU s l.crew (l.addr + 64 * l.index) 64)

/-- Code of a fetch's destination: another die or none is out of range, an invalid set is
MCAST_INVALID (R110, R123). -/
def destFault (s : State) (die : Nat) (d : XDesc) : Nat :=
  match parseRoute d.dest with
  | .unused => 0x33
  | .one d' _ _ _ _ => if d' = die then cOK else 0x33
  | .many i => if (mcastQueues s die i).isNone then 0x34 else cOK

/-- Send one entry of a list: packets for its destination, one credit of each queue (R97, R118). -/
def listSend (s : State) (die crew : Nat) (d : XDesc) (e : QEntry) : State :=
  sendRoute s ⟨die, 0, 0, 10, 0⟩ crew (parseRoute d.dest) e

/-- Count a finished tile (R125). -/
def countTile (s : State) (die : Nat) (d : XDesc) : State :=
  let s := bumpC s .tile die (if d.store then 1 else 0)
  if !d.store && (d.rows = 0 || d.cols = 0) then bumpC s .tile die 2 else s

/-- The code, with its address, that a list's next unit meets, or OK (R110, R112, R120, R123): at a tile
boundary for a fetch, at every unit for a store. -/
def unitCode (s : State) (die : Nat) (l : XList) : Nat × Nat :=
  let d0 := listDesc s l
  let d := tileOf s l.crew d0 l.tile
  let dest := if d.store then (if (storeSrc die d).isNone then 0x33 else cOK) else destFault s die d
  let plist := plistCode s l.crew die d0 l.tile
  if d0.bad then (0x33, d0.addr)
  else if dest != cOK then (dest, d.dest)
  else if plist != cOK then (plist, d0.plist + 16 * l.tile)
  else if l.unit = 0 || d.store then tileCode s l.crew die d
  else (cOK, 0)

/-- A list whose next unit can go (R110): it stops on a fault; a fetch needs a credit of every destination
queue and room in the station's queue, and at a tile boundary no draining destination (R103); a store
needs an entry in its source oar's OQ0, whose route is unused (R115). -/
def listReady (s : State) (k : Nat) (l : XList) : Bool :=
  let die := k / 64
  let d := tileOf s l.crew (listDesc s l) l.tile
  let src : Place := ⟨die, 0, 0, 10, 0⟩
  let p := qPacket s src src false 0 (some [])
  let qs := listQueues s die d
  let faulty := (unitCode s die l).1 != cOK
  let drains := fun q => (shellGet s (q / 32)).draining || (shellGet s (q / 32)).drained
  !resetting s l.crew && !dieStopped s die &&
    if d.store then
      faulty || match (storeSrc die d).bind (mget s.grid.oars) with
        | some o => oarRoute o = .unused && (o.oq0.head?.join).isSome
        | none => false
    else !(l.unit = 0 && qs.any drains)
      && (faulty || (qs.all (fun q => credsFor s q != 0)
        && (mgetD s.net.outbox (entryQ p) []).isEmpty
        && mgetD s.net.used (entryQ p) 0 + 2 ≤ netDepth (entryQ p)))

/-- It is a list's turn (R110): the first that can go, from the one due next on. -/
def listTurn (s : State) (k : Nat) : Bool :=
  let t := mgetD s.tile.turn (k / 64) 0
  let dist := fun j => (j % 64 + 64 - t) % 64
  s.tile.lists.all fun e =>
    e.1 / 64 != k / 64 || dist k ≤ dist e.1 || !listReady s e.1 e.2

/-- A unit of a list goes: the engine's turn passes to the list behind it (R110). -/
def passTurn (s : State) (k : Nat) : State :=
  { s with tile := { s.tile with turn := mset s.tile.turn (k / 64) ((k % 64 + 1) % 64) } }

/-- XFER_UNIT (R110 to R114): one unit of a fetch list, in its turn. An uncorrectable word in the
object poisons it and stops the list (R435). -/
def execXferUnit (die list : Nat) (ecc : Bool) (s : State) : Out :=
  fab s fun s =>
    let k := 64 * die + list % 64
    match mget s.tile.lists k with
    | none => s
    | some l =>
      let d0 := listDesc s l
      let d := tileOf s l.crew d0 l.tile
      let code := unitCode s die l
      if d.store || !listReady s k l || !listTurn s k then s
      else
        let s := passTurn s k
        if code.1 != cOK then listStop s k code.1 code.2
        else if ecc then listStop (poison s l.crew (uObj d.addr)) k cTFAIL d.addr
        else if l.unit = d.allUnits then listNext (listSend s die l.crew d none) k l d0
        else
          let s := addReader (addReader (addReader s l.crew l.addr l.slot) l.crew d.addr l.slot)
            l.crew (if d.scaled then d.saddr else d.addr) l.slot
          let s := if d0.pcount = 0 then s else addReader s l.crew d0.plist l.slot
          let s := cacheLook s die (unitLines s l.crew d l.unit)
          let s := if bit d.dest 31 then bumpC s .tile die 3 else s
          let s := listSend s die l.crew d (some (fetchUnit s l.crew d l.unit))
          let last := l.unit + 1 = d.allUnits
          let s := if last then countTile s die d else s
          if last && !(d.endm && l.tile + 1 = d0.tiles) then listNext s k l d0
          else listSet s k { l with unit := l.unit + 1 }

/-- STORE_UNIT (R115): one unit from the source oar's OQ0, whose route is unused, in the list's turn. -/
def execStoreUnit (die list : Nat) (s : State) : Out :=
  fab s fun s =>
    let k := 64 * die + list % 64
    match mget s.tile.lists k with
    | none => s
    | some l =>
      let d0 := listDesc s l
      let d := tileOf s l.crew d0 l.tile
      let code := unitCode s die l
      if !d.store || !listReady s k l || !listTurn s k then s
      else
        let s := passTurn s k
        if code.1 != cOK then listStop s k code.1 code.2
        else
          let src := (storeSrc die d).getD 0
          let b := (((mget s.grid.oars src).bind (·.oq0.head?)).join).getD []
          let s := oarMod s src fun o => handOver { o with oq0 := o.oq0.drop 1 }
          let s := invalidateUnit (storeUnit s l.crew d l.unit b) l.crew d l.unit
          if l.unit + 1 = d.allUnits then listNext (countTile s die d) k l d0
          else listSet s k { l with unit := l.unit + 1 }

/-- CACHE_LINE_FILL (R119): a missed line of T2 arrives and is allocated; the line it replaces is the
least recently used of its set. DEDUCED (assumption log 79). -/
def execCacheLineFill (die crew addr : Nat) (s : State) : Out :=
  fab s fun s =>
    let l := lineKey crew addr
    let m := mgetD s.tile.missed die []
    if !m.contains l || dieStopped s die then s
    else
      let s := { s with tile := { s.tile with missed := mset s.tile.missed die (m.erase l) } }
      if tierAt s crew addr != 2 || cacheWays s die = 0 then s
      else putSet s die l (l :: (setLines s die l).take (cacheWays s die - 1))

end Sys2Proof.Machine
end

