-- ==== Sys2Proof/Machine/Groups.lean ====
section
/-!
DEFINITION. Groups and trees, shared by collectives and the sprint (chapter 13): members, positions,
parents and children (R257, R261), depths, the group digest (R260), the entry as 64 bytes (R259),
packets of groups and the epoch check (R267, R268), halves of vectors (R262), and the nodes that
fold the tree sums (R263).
-/
namespace Sys2Proof.Machine
open Sys2Proof

/-- A live group-table entry. -/
def groupGet (s : State) (g : Nat) : Option Group := mget s.coll.live g

/-- Position and member index on a tree (R261): on the weft tree position i ≥ 1 is member n − i. -/
def treePos (n : Nat) (weft : Bool) (i : Nat) : Nat := if weft && i != 0 then n - i else i

/-- This device's member index. -/
def selfIdx (s : State) (gr : Group) : Nat := gr.members.idxOf (ownDev s)

/-- Device number of a member. -/
def member (gr : Group) (i : Nat) : Nat := gr.members.getD i 0

/-- This device is the root, member 0 (R257). -/
def isRoot (s : State) (gr : Group) : Bool := selfIdx s gr = 0

/-- Parent device on a tree (R261). -/
def parentDev (s : State) (gr : Group) (weft : Bool) : Option Nat :=
  let n := gr.members.length
  let p := treePos n weft (selfIdx s gr)
  if p = 0 || n ≤ p then none else some (member gr (treePos n weft ((p - 1) / 4)))

/-- Children on a tree in ascending position (R261). -/
def kidDevs (s : State) (gr : Group) (weft : Bool) : List Nat :=
  let n := gr.members.length
  let p := treePos n weft (selfIdx s gr)
  ((span (4 * p + 1) (4 * p + 5)).filter (· < n)).map fun c => member gr (treePos n weft c)

/-- Henac hops on the route between two devices (R253). -/
def hopCount (s : State) (a b : Nat) : Nat :=
  (List.range (topoD s)).foldl (fun n k =>
    let size := topoSize s k
    let d := (coordOf s b k + size - coordOf s a k) % size
    n + min d (size - d)) 0

/-- The depth of a tree in hops, in full (R261). -/
def treeDepth (s : State) (members : List Nat) (weft : Bool) : Nat :=
  let n := members.length
  let dev := fun i => members.getD (treePos n weft i) 0
  let depths := (List.range n).foldl (fun ds i =>
    ds ++ [if i = 0 then 0 else ds.getD ((i - 1) / 4) 0 + hopCount s (dev ((i - 1) / 4)) (dev i)]) []
  depths.foldl max 0

/-- DIGEST of a group (R260). -/
def groupDigest (gr : Group) : Nat :=
  (crc32c (toLE gr.epoch 2 ++ toLE gr.members.length 2 ++ gr.members.flatMap (toLE · 2))).toNat

/-- Four child fields of 2 bytes, in ascending member index (R259). -/
def downField (l : List Nat) : List Byte :=
  (List.range 4).flatMap fun i =>
    match l[i]? with
    | some d => toLE (d % 2048 + 2 ^ 15) 2
    | none => [0, 0]

/-- The parent field of 2 bytes (R259): the root's own number with bit 15. -/
def upField (s : State) (gr : Group) (weft : Bool) : List Byte :=
  match parentDev s gr weft with
  | some d => toLE (d % 2048) 2
  | none => toLE (ownDev s + 2 ^ 15) 2

/-- A live entry as the 64 bytes of R259. -/
def groupBytes (s : State) (gr : Group) : List Byte :=
  toLE (1 + 2 * b2n gr.fast + 4 * gr.crew + 2 ^ 6 * (gr.members.length - 1)
      + 2 ^ 17 * (selfIdx s gr % 2048)) 4
    ++ toLE gr.epoch 2
    ++ toLE (min 7 (treeDepth s gr.members false) + 8 * min 7 (treeDepth s gr.members true)) 1 ++ [0]
    ++ toLE (groupDigest gr) 4 ++ upField s gr false ++ upField s gr true
    ++ downField (kidDevs s gr false)
    ++ downField (sortBy (fun a b => gr.members.idxOf a ≤ gr.members.idxOf b) (kidDevs s gr true))
    ++ toLE gr.seq 1 ++ List.replicate 31 0

/-- The virtual channel of a packet command (R223). -/
def groupVc (cmd : Nat) : Nat := if cmd = 0x10 then 0 else if cmd = 0x11 then 1 else 2

/-- The ADDR field of a group's packet (R267): EPOCH, DIGEST, TREE, FAST, PHASE, LAST, OP and FMT. -/
def groupAddr (gr : Group) (weft fast : Bool) (phase : Nat) (last : Bool) (op fmt : Nat) : Nat :=
  gr.epoch % 65536 + 2 ^ 16 * groupDigest gr + 2 ^ 48 * b2n weft + 2 ^ 49 * b2n fast
    + 2 ^ 50 * phase + 2 ^ 52 * b2n last + 2 ^ 56 * (op % 16) + 2 ^ 60 * (fmt % 16)

/-- A packet of a group (R267). Flags of tree adds travel in STATUS: the manual names no field for
them. DEDUCED (assumption log 14). -/
def groupPkt (s : State) (g : Nat) (gr : Group) (cmd dest heat addr arg : Nat) (flags : Flags)
    (data : List Byte) : HPkt :=
  { dest := dest, ctx := g, mc := false, src := ownDev s, cmd := cmd, vc := groupVc cmd, dl := false
    crew := gr.crew, status := flags.toNat, heat := heat % 65536, tag := 0, addr := addr, arg := arg
    data := data }

/-- The phase and LAST of a packet (R267). -/
def pktPhase (p : HPkt) : Nat := bits p.addr 51 50
def pktLast (p : HPkt) : Bool := bit p.addr 52
def pktWeft (p : HPkt) : Bool := bit p.addr 48

/-- The flags a packet carries. DEDUCED (assumption log 14). -/
def pktFlags (p : HPkt) : Flags := BitVec.ofNat 7 p.status

/-- The epoch check (R268): the live entry, if EPOCH and DIGEST are its own. -/
def epochOk (s : State) (p : HPkt) : Option Group :=
  match groupGet s p.ctx with
  | some gr =>
    if bits p.addr 15 0 = gr.epoch && bits p.addr 47 16 = groupDigest gr then some gr else none
  | none => none

/-- Send a packet to each of several devices. -/
def sendAll (s : State) (ds : List Nat) (p : Nat → HPkt) : State :=
  ds.foldl (fun s d => sendH s (p d)) s

/-- Two packets of one flow keep their order where their TREE is equal (R226, R253). -/
def sameHFlow (a b : HPkt) : Bool :=
  a.src = b.src && a.dest = b.dest && a.vc = b.vc && treeOf a = treeOf b

/-- Where a packet to a unit of this device comes from: taken from the links' deliveries, which have
judged its stamp, in the order of its flow; or judged here (R25). A packet on VC2 is accepted whatever
its stamp. -/
def takeH (s : State) (p : HPkt) (f : State → State) : State :=
  if s.net.arrived.contains p then
    if s.net.arrived.find? (fun x => x = p || sameHFlow x p) = some p then
      f { s with net := { s.net with arrived := s.net.arrived.erase p } }
    else s
  else if p.vc = 2 || p.vc = 3 then f s
  else match stampCase s p.heat with
    | .accept => f s
    | .hold =>
      bump { s with net := { s.net with held := s.net.held ++ [⟨none, 0, p⟩] } }
        .heat 0 0x104
    | .early => bump s .heat 0 0x108
    | .stale => bump s .heat 0 0x10C

/-- Bytes that the warp tree carries of a vector of L bytes (R262). -/
def warpLen (l : Nat) : Nat := min l (32 * ((l + 63) / 64))

/-- Bytes of one element in a tree format (R263). -/
def treeBytes (fmt : Nat) : Nat := if fmt = 1 then 2 else 4

/-- The formats in which trees add: FP32, BF16, INT32 and Twill-32 (R263). -/
def treeFmt (fmt : Nat) : Bool := fmt = 0 || fmt = 1 || fmt = 8 || fmt = 9

/-- Elements of a byte vector, and back. -/
def wordsOf (k : Nat) (b : List Byte) : List Word := (chunks k b).map fun c => BitVec.ofNat 32 (leNat c)
def bytesOf (k : Nat) (w : List Word) : List Byte := w.flatMap fun x => toLE x.toNat k

/-- Add one input to a vector, element by element (R263). -/
def addVec (fmt : Nat) (a b : List Word) : List Word × Flags :=
  let r := (List.zip a b).map fun p => treeAdd fmt p.1 p.2
  (r.map (·.1), r.foldl (fun f x => f ||| x.2) 0)

/-- A complete node's sum: own value, then the children in ascending position (R263). -/
def nodeSum (n : TreeNode) : Option (List Word × Flags) :=
  match n.own with
  | none => none
  | some own =>
    n.kids.foldl (fun acc k =>
      match acc, k.2 with
      | some (v, f), some x => let r := addVec n.fmt v x; some (r.1, f ||| r.2)
      | _, _ => none) (some (own, n.flags))

/-- A node with no inputs yet. -/
def newNode (s : State) (sprint : Bool) (g : Nat) (gr : Group) (tag layer : Nat) (weft : Bool)
    (fmt heat : Nat) : TreeNode :=
  { sprint := sprint, group := g, tag := tag, layer := layer, weft := weft, fmt := fmt, heat := heat
    own := none, kids := (kidDevs s gr weft).map fun d => (d, none), flags := 0 }

/-- Change the nodes of a vector. -/
def nodeMod (s : State) (sprint : Bool) (g tag : Nat) (weft : Bool) (f : TreeNode → TreeNode) : State :=
  { s with sprint := { s.sprint with nodes := s.sprint.nodes.map fun n =>
      if n.sprint = sprint && n.group = g && n.tag = tag && n.weft = weft then f n else n } }

/-- A child's whole vector reaches a node, with its flags. -/
def kidInput (dev : Nat) (v : List Word) (fl : Flags) (n : TreeNode) : TreeNode :=
  { n with
    kids := n.kids.map fun k => if k.1 = dev then (k.1, some v) else k, flags := n.flags ||| fl }

/-- Key under which a sender's vector is assembled. -/
def asmKey (sprint : Bool) (g tag : Nat) (weft : Bool) (dev : Nat) : Nat :=
  (((tag * 4096 + g) * 2 + b2n sprint) * 2 + b2n weft) * 2048 + dev

/-- Append a packet's data to the vector being assembled; with LAST the whole vector. -/
def assemble (s : State) (key : Nat) (p : HPkt) : State × Option (List Byte) :=
  let v := mgetD s.coll.asm key [] ++ p.data
  if pktLast p then ({ s with coll := { s.coll with asm := mdel s.coll.asm key } }, some v)
  else ({ s with coll := { s.coll with asm := mset s.coll.asm key v } }, none)

/-- Send a vector as packets of 256 bytes with their offsets in units of 32 bytes; the last carries
LAST. `arg` is the rest of ARG. -/
def sendVec (s : State) (dests : List Nat) (b : List Byte) (p : Nat → Bool → Nat → List Byte → HPkt) :
    State :=
  let cs := if b.isEmpty then [[]] else chunks 256 b
  let items := cs.mapIdx fun i c => (decide (i + 1 = cs.length), 8 * i, c)
  items.foldl (fun s x => sendAll s dests fun d => p d x.1 x.2.1 x.2.2) s

/-- A register as it will be live, as far as the device holds it: a committed transaction's write
over a standalone shadow over the live value (R258). -/
def futureReg (s : State) (off : Nat) : Nat :=
  let x := match s.reg.xact.phase with
    | .committed => (s.reg.xact.coll.find? fun e => e.1 = off).map (·.2.toNat)
    | _ => none
  match x, mget s.reg.shadows off with
  | some v, _ => v
  | none, some w => w.toNat
  | none, none => regGet s.regs off

/-- Fields of sprint descriptor n as a register word gives them (R41). -/
def dEn (c : Nat) : Bool := bit c 0
def dLayers (c : Nat) : Nat := bits c 2 1 + 1
def dGroup (c : Nat) : Nat := bits c 14 3
def dDepth (c : Nat) : Nat := bits c 17 15
def dQpk (c : Nat) : Nat := bits c 21 18

/-- The live configuration word of descriptor n, and as it will be. -/
def dCfg (s : State) (n : Nat) : Nat := rg s .sprint 0 (0x100 + 16 * n)
def dFuture (s : State) (n : Nat) : Nat := futureReg s (regOff .sprint 0 (0x100 + 16 * n))

/-- The hops of a route in one dimension (R253): the device each leaves and whether it goes plus. -/
def dimHops (s : State) (dev dst d : Nat) : List (Nat × Nat × Bool) :=
  let n := topoSize s d
  let below := stride s d
  let a := coordOf s dev d
  let b := coordOf s dst d
  let up := (b + n - a) % n
  let down := (a + n - b) % n
  let plus := up ≤ down
  (List.range (min up down)).map fun i =>
    (dev - a * below + (if plus then (a + i) % n else (a + n - i) % n) * below, d, decide plus)

/-- The device that a hop leads to. -/
def nextDev (s : State) (h : Nat × Nat × Bool) : Nat :=
  let n := topoSize s h.2.1
  let below := stride s h.2.1
  let a := coordOf s h.1 h.2.1
  h.1 - a * below + (if h.2.2 then (a + 1) % n else (a + n - 1) % n) * below

/-- The hops of the route between two devices (R253): device, dimension, direction. -/
def routeHops (s : State) (src dst : Nat) : List (Nat × Nat × Bool) :=
  ((List.range (topoD s)).foldl (fun (r : Nat × List (Nat × Nat × Bool)) d =>
    let below := stride s d
    (r.1 - coordOf s r.1 d * below + coordOf s dst d * below, r.2 ++ dimHops s r.1 dst d))
    (src, [])).2

/-- A route uses a link of this device: to leave it, or to come to it over the far end of the link
(R252, R253). -/
def routeUses (s : State) (l src dst tree : Nat) : Bool :=
  let pick := fun (set : List Nat) =>
    let live := set.filter fun k => linkUp (linkGet s k)
    live[(src + dst + tree) % live.length]? = some l
  (routeHops s src dst).any fun h =>
    (h.1 = ownDev s && pick (setLinks s h.2.1 h.2.2))
      || (nextDev s h = ownDev s && pick (setLinks s h.2.1 !h.2.2))

/-- The sprint groups of which this device is a position (R12, R38): those of its sets and of its
enabled descriptors. -/
def sprintGroups (s : State) : List Group :=
  let gs := s.sprint.sets.map (·.1)
    ++ ((List.range 64).filter fun n => dEn (dCfg s n)).map fun n => dGroup (dCfg s n)
  (gs.filterMap (groupGet s)).filter fun gr => gr.members.contains (ownDev s)

/-- The tree edges of a group, as parent, child and tree (R261). -/
def treeEdges (gr : Group) : List (Nat × Nat × Bool) :=
  let n := gr.members.length
  [false, true].flatMap fun weft => (span 1 n).map fun i =>
    (member gr (treePos n weft ((i - 1) / 4)), member gr (treePos n weft i), weft)

/-- A link is sprint-armed (R50): VC0 of a group of which the device is a position leaves, comes or
passes through by it. -/
def linkArmed (s : State) (l : Nat) : Bool :=
  s.sprint.armedUnits && l < 16 && (sprintGroups s).any fun gr =>
    (treeEdges gr).any fun e => routeUses s l e.1 e.2.1 (b2n e.2.2) || routeUses s l e.2.1 e.1 (b2n e.2.2)

end Sys2Proof.Machine
end

