-- ==== Sys2Proof/Machine/Pair.lean ====
section
/-!
DEFINITION. The pair, shared operations: messages to the twin port (R382), the twin alarm (R386)
and reattachment (R391, R393).
-/
namespace Sys2Proof.Machine
open Sys2Proof

/-- A packet of the twin port. The manual gives its header no command code: a free value. DESIGN CHOICE
(assumption log 13). -/
def twinPacket (vc cmd arg : Nat) (b : List Byte) : HPkt :=
  { dest := 0, ctx := 0, mc := false, src := 0, cmd := cmd, vc := vc, dl := false, crew := 31
    status := 0, heat := 0, tag := 0, addr := 0, arg := arg, data := b }

/-- Packets of a message (R382): its first bytes, then for a RESYNC_UNIT the pieces of the slice, 256
bytes each, their places in ARG. -/
def twinPackets (vc cmd : Nat) (b piece : List Byte) : List HPkt :=
  twinPacket vc cmd 0 b :: (chunks 256 piece).mapIdx fun i c => twinPacket vc cmd i c

/-- Send a message to the partner: urgent on VC0, RESYNC_UNIT with its slice in bulk on VC2 (R254,
R382), with TX_TIME in front. DESIGN CHOICE (assumption log 13). -/
def twinSend (s : State) (kind : Nat) (body : List Byte) (piece : List Byte := []) : State :=
  let (n, s) := draw s
  let vc := if kind = 7 then 2 else 0
  let m : TwinMsg := ⟨kind, body ++ piece⟩
  let s := if kind = 7 then { s with twin := { s.twin with bulk := s.twin.bulk ++ [m] } }
    else { s with twin := { s.twin with urgent := s.twin.urgent ++ [m] } }
  (twinPackets vc (Config.freeByte n).toNat (toLE s.now 8 ++ body) piece).foldl
    (fun s p => txPut s 16 p false) s

/-- The twin alarm: ALARM set, EVENT raised on the TWIN page (R386). -/
def twinAlarm (s : State) : State := event (rput s .twin 0 0x044 6 6 1) .twin 0

/-- The number of a CONTROL command and the sender's role, as message bytes. -/
def controlBody (s : State) (c : Control) : List Byte :=
  let n := match c with
    | .detach => 0
    | .unfence => 1
    | .reattach => 2
  toLE n 1 ++ toLE (b2n (isStern s)) 1

/-- Units of both sprint areas: 2,048 shells times SLICES (R198, R392). -/
def resyncTotal (s : State) : Nat := 2048 * rf s .attn 0 0x044 4 0

/-- Send a sprint unit to the partner: area, unit, tag, then the slice in 136 pieces (R382, R391). -/
def sendUnit (s : State) (area u : Nat) : State :=
  let tag := mget s.sprint.units (area * 16384 + u)
  let g := fun (f : SUnit → Nat) => match tag with | some x => f x | none => 0
  let body := toLE area 1 ++ toLE u 2 ++ toLE (b2n tag.isSome) 1 ++ toLE (g (·.group)) 2
    ++ toLE (g (·.layer)) 1 ++ toLE (g (·.kvhead)) 1 ++ toLE (g (·.bolt)) 2
  twinSend s 7 body (sliceGet s (area = 1) u)

/-- Reattachment begins when both twins have asked and the port is up (R391): the twin that left
by DETACH returns, the stern where neither or both did. It enters RESYNC, the other copies.
DEDUCED (assumption log 58). -/
def tryReattach (s : State) : State :=
  let t := s.twin
  if t.pair = 2 && t.reOwn && t.rePeer && !t.returning && linkUp (linkGet s 16) then
    let returns := if t.left = t.peerLeft then isStern s else t.left
    if returns then
      { s with twin := { t with pair := if resyncTotal s = 0 then 4 else 3
                                resync := resyncTotal s, copied := [], reOwn := false, rePeer := false } }
    else
      { s with twin := { t with returning := true, resync := resyncTotal s
                                reOwn := false, rePeer := false } }
  else s

/-- The twin stage ends paired when the twin port reaches state 3 (R377). -/
def twinPortUp (s : State) : State :=
  if s.power.stage = 7 then
    enterStage8 { s with twin := { s.twin with pair := 1 } }
  else tryReattach s

/-- The twin stage ends detached: the port is refused, or late (R377). -/
def twinStageDetached (s : State) : State :=
  if s.power.stage = 7 && twinPresent s then
    enterStage8 { s with twin := { s.twin with pair := 2 } }
  else s

end Sys2Proof.Machine
end

