-- ==== Sys2Proof/Machine/Link.lean ====
section
/-!
DEFINITION. Henac links and the twin port (chapter 12): sending and receiving frames (R238 to R244,
R249, R250, R254), training (R246, R247) and recalibration (R248).
-/
namespace Sys2Proof.Machine
open Sys2Proof

/-- Payload slots, message length without check code, and lanes of a link's frames (R239, R254). -/
def frameShape (l : Nat) : Nat × Nat × Nat := if l < 16 then (25, 832, 4) else (12, 416, 2)

/-- The lanes of a frame (R240, R254): byte i of the message is byte i div n of lane i mod n, and each
lane is one codeword, its message bytes and 14 of parity. -/
def laneBytes (l : Nat) (msg : List Byte) : List (List Byte) :=
  let n := (frameShape l).2.2
  (List.range n).map fun j =>
    let b := (List.range 210).map fun i => msg.getD (n * i + j) 0
    b ++ slice (Config.rsParity b) 0 14

/-- The message that the lanes spell, each decoded to its 210 bytes (R240). -/
def laneMessage (l : Nat) (lanes : List (List Byte)) : List Byte :=
  let n := (frameShape l).2.2
  (List.range (n * 210)).map fun i => (lanes.getD (i % n) []).getD (i / n) 0

/-- The check code of a frame: CRC-64, or CRC-32C on the twin port (R239, R240, R254). -/
def frameCheckCode (l : Nat) (b : List Byte) : List Byte :=
  if l < 16 then toLE (crc64 b).toNat 8 else toLE (crc32c b).toNat 4

/-- One flit taken for a slot: virtual channel, DL, its bytes, and whether it ends its packet. -/
structure Pick where
  vc : Nat
  dl : Bool
  flit : List Byte
  tail : Bool

/-- The first flit of a channel's queue, if there is a link credit for it (R229, R249). -/
def takeFlit (k : Link) (vc : Nat) (dl : Bool) : Option (Pick × Link) :=
  let c := 2 * vc + b2n dl
  if rxDepth vc ≤ mgetD k.creditUsed c 0 then none
  else match mgetD k.txq c [] with
    | ⟨tk, f, _, x :: y :: r⟩ :: q =>
      some (⟨vc, dl, x, false⟩, { k with
        txq := mset k.txq c (⟨tk, f, true, y :: r⟩ :: q)
        creditUsed := mset k.creditUsed c (mgetD k.creditUsed c 0 + 1) })
    | ⟨_, _, _, [x]⟩ :: q =>
      some (⟨vc, dl, x, true⟩, { k with
        txq := mset k.txq c q, creditUsed := mset k.creditUsed c (mgetD k.creditUsed c 0 + 1) })
    | _ => none

/-- A fast-path packet stands at the head of a channel's queue. -/
def fastHead (k : Link) (c : Nat) : Bool :=
  match mgetD k.txq c [] with
  | x :: _ => x.fast
  | [] => false

/-- A flit of a virtual channel: of a sub-channel whose head is a sprint packet before one whose head is
of the fast path (R273), else sub-channel 0 before 1. -/
def takeVc (k : Link) (vc : Nat) : Option (Pick × Link) :=
  let first := fastHead k (2 * vc) && !fastHead k (2 * vc + 1)
  match takeFlit k vc first with
  | some x => some x
  | none => takeFlit k vc !first

/-- Weighted round robin over VC1 to VC4: in a round a channel sends up to 16 × its weight, one with
nothing to send is passed over (R250). -/
def takeBulk (weight : Nat → Nat) : Nat → Link → Option (Pick × Link)
  | 0, _ => none
  | fuel + 1, k =>
    let next := takeBulk weight fuel
      (let w := k.wrr % 4 + 1; { k with wrr := w, wrrLeft := 16 * weight w })
    if k.wrrLeft = 0 then next
    else match takeVc k k.wrr with
      | some (p, k) => some (p, { k with wrrLeft := k.wrrLeft - 1 })
      | none => next

/-- The next flit: VC0 first, at most 312 in a window, then the others (R250). -/
def nextFlit (weight : Nat → Nat) (k : Link) : Option (Pick × Link) :=
  let vc0 := if k.vc0Used < 312 then takeVc k 0 else none
  match vc0 with
  | some (p, k) => some (p, { k with vc0Used := k.vc0Used + 1 })
  | none => takeBulk weight 5 k

/-- Fill slots in order. -/
def fillSlots (weight : Nat → Nat) : Nat → Link → List Pick × Link
  | 0, k => ([], k)
  | n + 1, k =>
    match nextFlit weight k with
    | none => ([], k)
    | some (p, k) => let r := fillSlots weight n k; (p :: r.1, r.2)

/-- The control flit of R241. -/
def controlFlit (seq type ack : Nat) (nak : Bool) (ps : List Pick) (credit : Nat → Nat) : List Byte :=
  let vcs := (List.range 25).foldl (fun n i =>
    n + (match ps[i]? with | some p => p.vc | none => 7) * 2 ^ (3 * i)) 0
  let dls := (List.range 25).foldl (fun n i =>
    n + (match ps[i]? with | some p => b2n p.dl | none => 0) * 2 ^ i) 0
  toLE (seq + 4096 * type) 2 ++ toLE (ack + 4096 * b2n nak) 2 ++ toLE vcs 10 ++ toLE dls 4
    ++ (List.range 10).map (fun c => BitVec.ofNat 8 (credit c)) ++ List.replicate 4 0

/-- A frame's message bytes: control flit, slots, check code (R239, R254). -/
def frameBytes (l : Nat) (ctl : List Byte) (ps : List Pick) : List Byte :=
  let b := slice (ctl ++ (ps.map (·.flit)).flatten) 0 (frameShape l).2.1
  b ++ frameCheckCode l b

/-- On the twin port the survivor hands over the next unit of a resynchronisation when the bulk
queue is empty (R391): tag, then 136 pieces of the slice. -/
def feedResync (s : State) (l : Nat) : State :=
  let t := s.twin
  if l = 16 && t.returning && 0 < t.resync && (mgetD (linkGet s 16).txq 4 []).isEmpty then
    let i := resyncTotal s - t.resync
    let half := resyncTotal s / 2
    let s := sendUnit s (i / half) (i % half)
    { s with twin := { s.twin with resync := t.resync - 1 } }
  else s

/-- A frame in the replay buffer carries VC0. -/
def carriesVc0 (l : Nat) (f : SentFrame) : Bool :=
  (List.range (frameShape l).1).any fun i => bits (fld f.bytes 4 10) (3 * i + 2) (3 * i) = 0

/-- VC0, or on the twin port an urgent message, waits for the next frame (R250, R254). -/
def vc0Eligible (l : Nat) (k : Link) : Bool :=
  k.resend.any (carriesVc0 l)
    || (k.resend.isEmpty && k.replay.length < 256 && (l = 16 || k.vc0Used < 312) && (takeVc k 0).isSome)

/-- Recalibration of a link goes in separate frames of training pattern, each in a slot for which no VC0
waits: on a sprint-armed link, and always on the twin port (R254, R428). -/
def inGrains (s : State) (l : Nat) : Bool := l = 16 || linkArmed s l

/-- HENAC_FRAME_SEND (R238, R241, R243, R248, R250): training pattern goes out where the far receiver
recalibrates; a frame asked for again goes before new ones; with a full replay buffer an empty frame
goes out under the last number; otherwise a new frame is filled and kept. The twin port has no VC0
window (R254). DEDUCED (assumption log 67). -/
def execHenacFrameSend (l : Nat) (s : State) : Out :=
  fab s fun s =>
    let s := feedResync s l
    let k := linkGet s l
    if !linkUp k then s
    else if k.training != 0 && !(inGrains s l && vc0Eligible l k) then
      linkSet s l { k with training := k.training - 1 }
    else
      let out := fun (k : Link) (b : List Byte) =>
        linkCount (linkSet s l { k with
          framesOut := k.framesOut ++ [laneBytes l b], nakOut := false }) l 0
      match k.resend with
      | f :: r =>
        let body := toLE (k.rxLast + 4096 * b2n k.nakOut) 2
        let b := slice (putSlice f.bytes 2 body) 0 (frameShape l).2.1
        out { k with resend := r } (b ++ frameCheckCode l b)
      | [] =>
        if 256 ≤ k.replay.length then
          out k (frameBytes l (controlFlit ((k.txSeq + 4095) % 4096) 0 k.rxLast k.nakOut []
            (fun _ => 0)) [])
        else
          let (ps, k') := fillSlots (weightOf s) (frameShape l).1 (if l = 16 then { k with vc0Used := 0 } else k)
          let credit := fun c => min 255 (mgetD k.creditBack c 0)
          let ctl := controlFlit k.txSeq (b2n k.noticeOut) k.rxLast k.nakOut ps credit
          let b := frameBytes l ctl ps
          let tails := (ps.filter (·.tail)).length
          out { k' with
            txSeq := (k.txSeq + 1) % 4096, noticeOut := false
            creditBack := mmapv k.creditBack fun c v => v - credit c
            replay := k.replay ++ [⟨k.txSeq, b, tails⟩] } b

/-- VC0_WINDOW_START (R250): at a whole microsecond every link's VC0 window opens anew; a link whose
window was used up while VC0 flits wait counts VC0_CAPPED. -/
def vc0Window (s : State) : State :=
  (List.range 16).foldl (fun s l =>
    let k := linkGet s l
    let waits := 312 ≤ k.vc0Used && !((mgetD k.txq 0 []).isEmpty && (mgetD k.txq 1 []).isEmpty)
    let s := if waits then linkCount s l 7 else s
    if k.vc0Used = 0 then s else linkSet s l { linkGet s l with vc0Used := 0 }) s

/-- The flits of a packet, header included, from its header. -/
def pktFlits (h : List Byte) : Nat := 1 + bits (fld h 9 1) 7 4

/-- Complete packets at the front of a channel's received flits. -/
def takePackets : Nat → List (List Byte) → List (HPkt × Nat) × List (List Byte)
  | 0, q => ([], q)
  | _, [] => ([], [])
  | fuel + 1, h :: r =>
    let n := pktFlits h
    if (h :: r).length < n then ([], h :: r)
    else
      let (ps, q) := takePackets fuel ((h :: r).drop n)
      ((parseHpkt h (r.take (n - 1)), n) :: ps, q)

/-- The edge switch gets a packet of a link: a command that does not cross links is handled as
ROUTE_ERR (R223, R242); else R25 on VC0, VC1 and VC4, then onward (R250). No rule says whether packets
behind a held one in the same input queue wait for it: here they pass it. DESIGN CHOICE (assumption
log 92). -/
def edgeSwitch (s : State) (l c : Nat) (p : HPkt) (n : Nat) : State :=
  let back := returnCredits s (some (l, c)) n
  let came := some (l / (2 * setLen s), p.dl)
  if !linkCmd p then bump back .net 8 0x418
  else if p.vc = 2 || p.vc = 3 then forward back p came
  else match stampCase s p.heat with
    | .accept => forward back p came
    | .hold =>
      bump { s with net := { s.net with
        held := s.net.held ++ [⟨some (l, c), n, p⟩] } } .heat 0 0x104
    | .early => bump back .heat 0 0x108
    | .stale => bump back .heat 0 0x10C

/-- Hand the received flits of a channel on; the twin port's flits end at the pair's control. -/
def deliverChannel (s : State) (l c : Nat) : State :=
  let k := linkGet s l
  let (ps, rest) := takePackets (mgetD k.rxq c []).length (mgetD k.rxq c [])
  let s := linkSet s l { k with rxq := mset k.rxq c rest }
  ps.foldl (fun s p =>
    if l = 16 then returnCredits s (some (l, c)) p.2
    else edgeSwitch s l c p.1 p.2) s

/-- Frames up to `ack` leave the replay buffer. -/
def ackFrames (k : Link) (ack : Nat) : Link :=
  if k.replay.any (fun f => f.seq = ack) then
    { k with replay := (k.replay.dropWhile (fun f => f.seq != ack)).tail }
  else k

/-- What a good frame's control flit says of the frames sent: ACK, and NAK, which asks for a replay
(R243). -/
def takeAck (s : State) (l : Nat) (k : Link) (bytes : List Byte) : State × Link :=
  let k := ackFrames k (bits (fld bytes 2 2) 11 0)
  if bit (fld bytes 2 2) 12 then
    ((if k.replay.isEmpty then s else linkCount s l 4), { k with resend := k.replay })
  else (s, k)

/-- Corrected symbols of a frame, counted in the millisecond of seal time; above 2^20 they trigger a
recalibration (R248). DESIGN CHOICE (assumption log 91). -/
def addCorrected (now : Time) (k : Link) (n : Nat) : Link :=
  let c := (if now / 4000000 = k.corrSince then k.corrected else 0) + n
  { k with corrected := c, corrSince := now / 4000000, recalNow := k.recalNow || 2 ^ 20 < c }

/-- HENAC_FRAME_RECEIVE (R240, R243, R244): `lanes` are the bytes of each lane as they decode, `errs` the
corrected symbols of each, more than 7 meaning that the lane does not decode. A frame that repeats the
last number is an empty one of a full buffer, of which ACK and NAK count; a frame that fails is known
by the number it was to have. DEDUCED (assumption log 67). -/
def execHenacFrameReceive (l : Nat) (lanes : List (List Byte)) (errs : List Nat) (s : State) : Out :=
  fab s fun s =>
    let k := linkGet s l
    let bytes := laneMessage l lanes
    if !linkUp k then s
    else
      let (slots, len, _) := frameShape l
      let ok := errs.all (· ≤ 7) &&
        slice bytes len (if l < 16 then 8 else 4) = frameCheckCode l (slice bytes 0 len)
      let s := linkCount s l 1
      let good := (errs.filter (· ≤ 7)).foldl (· + ·) 0
      let s := linkCount s l 2 good
      let k := addCorrected s.now k good
      let seq := bits (fld bytes 0 2) 11 0
      if !ok then
        let s := linkCount s l 3
        let k : Link := { k with
          fails := if seq = (k.rxLast + 1) % 4096 then k.fails + 1 else k.fails
          nakOut := k.nakOut || !k.nakSent, nakSent := true }
        if 8 ≤ k.fails then linkRetrain s l else linkSet s l k
      else if seq = k.rxLast then
        let r := takeAck s l k bytes
        linkSet r.1 l r.2
      else if seq != (k.rxLast + 1) % 4096 then
        linkSet s l { k with nakOut := k.nakOut || !k.nakSent, nakSent := true }
      else
        let (s, k) := takeAck s l { k with rxLast := seq, nakSent := false, fails := 0 } bytes
        let k := { k with
          training := if bits (fld bytes 0 2) 15 12 = 1 then 50 else k.training
          creditUsed := mmapv k.creditUsed fun c v => v - fld bytes (18 + c) 1 }
        let vcs := fld bytes 4 10
        let dls := fld bytes 14 4
        let k := (List.range slots).foldl (fun k i =>
          let vc := bits vcs (3 * i + 2) (3 * i)
          let c := 2 * vc + b2n (bit dls i)
          if vc ≤ 4 then
            { k with rxq := mset k.rxq c (mgetD k.rxq c [] ++ [slice bytes (32 + 32 * i) 32]) }
          else k) k
        (List.range 10).foldl (fun s c => deliverChannel s l c) (linkSet s l k)

/-- RECEIVER_ADAPTATION_DONE (R246 step 1): a lane without margin refuses with LANE; a far end that
refuses, before or after the own step is done, is followed with its code. DEDUCED (assumption log
82). -/
def execReceiverAdaptationDone (l : Nat) (laneBad : Bool) (farRefuse : Nat) (s : State) : Out :=
  fab s fun s =>
    let k := linkGet s l
    let bad := laneBad && !k.adapted
    if k.state != 1 then s
    else if bad || farRefuse != 0 then
      let s := joinCheck (linkTo s l 5 (if bad then 5 else farRefuse))
      if l = 16 then twinStageDetached s else s
    else linkSet s l { k with adapted := true }

/-- FRAME_LOCK (R246 step 2): deskew and frame lock on sequence 0. -/
def execFrameLock (l : Nat) (s : State) : Out :=
  fab s fun s =>
    let k := linkGet s l
    if k.state = 1 && k.adapted then linkSet s l { k with state := 2, txSeq := 0, rxLast := 4095 }
    else s

/-- The locked 128-bit feature word (R376). -/
def lockedWord (s : State) : Nat :=
  (List.range 4).foldl (fun n k => n + rg s .feature 0 (0x070 + 4 * k) * 2 ^ (32 * k)) 0

/-- The heat settings of the far end differ (R246, R247). -/
def heatDiffers (s : State) (f : Identity) : Bool :=
  f.heatLength != rf s .heat 0 0x048 29 0 || f.heatOrigin != s.heat.origin || f.heatBase != s.heat.base

/-- The first check of training step 3 that fails, or 0 (R246, R254). DEDUCED (assumption log 82). -/
def identityRefuse (s : State) (l : Nat) (f : Identity) : Nat :=
  let heat := if heatDiffers s f && stageGe s 9 && 9 ≤ f.stage then 7 else 0
  let feat := if f.features != lockedWord s then 4 else heat
  if l = 16 then (if f.stern = isStern s then 1 else feat)
  else if f.stern != isStern s then 1
  else if f.system != rg s .henac 0 0x04C then 2
  else if !topoOk s then 6
  else if (f.dev, f.link) != expectedPeer s l then 3
  else feat

/-- The heat number that base, origin and length give at a time (R333). -/
def heatAt (s : State) (t : Time) : Nat := s.heat.base + (t - s.heat.origin) / heatLen s

/-- The next boundary after NUM was computed again (R333). -/
def heatNext (s : State) : State :=
  { s with heat := { s.heat with
      next := s.heat.origin + (s.heat.num + 1 - s.heat.base) * heatLen s } }

/-- Adopt the far end's heat settings (R247): at once, without a boundary event. -/
def adoptHeat (s : State) (f : Identity) : State :=
  let s := rset s .heat 0 0x048 f.heatLength
  let s := { s with heat := { s.heat with origin := f.heatOrigin, base := f.heatBase } }
  let s := if s.heat.timeOk then
      heatNext { s with heat := { s.heat with num := max s.heat.num (heatAt s s.now) } }
    else s
  let s := rput s .heat 0 0x04C 3 3 1
  let s := { s with reg := { s.reg with shadows := mdel s.reg.shadows (regOff .heat 0 0x048) } }
  xactLate s

/-- The local device adopts where heat settings differ (R247). -/
def adopts (s : State) (l : Nat) (f : Identity) : Bool :=
  heatDiffers s f &&
    ((9 ≤ f.stage && !stageGe s 9) ||
      (f.stage < 9 && !stageGe s 9 && (if l = 16 then isStern s else f.dev < ownDev s)))

/-- IDENTITY_EXCHANGE (R246 steps 3 and 4): the checks in their order; where both ends refuse, each
keeps its own code. Without a refusal the link comes up with full credits. DEDUCED (assumption
log 82). -/
def execIdentityExchange (l : Nat) (f : Identity) (farRefuse : Nat) (s : State) : Out :=
  fab s fun s =>
    let k := linkGet s l
    if k.state != 2 then s
    else
      let own := identityRefuse s l f
      let code := if own != 0 then own else farRefuse
      if code != 0 then
        let s := joinCheck (linkTo s l 5 code)
        if l = 16 then twinStageDetached s else s
      else
        let s := if adopts s l f then adoptHeat s f else s
        let s := linkSet s l { k with
          state := 3, refuse := 0, peerDev := f.dev, peerLink := f.link, latency := f.latency
          creditUsed := [], creditBack := [] }
        if l = 16 then twinPortUp s else joinCheck s

/-- RECALIBRATION_END (R248): the training pattern of the far sender ends (`far`), and with it the own
recalibration; or the own pattern ends, which in separate frames takes all 50 of them (R254, R428). -/
def execRecalibrationEnd (l : Nat) (far : Bool) (s : State) : Out :=
  fab s fun s =>
    let k := linkGet s l
    if !linkUp k then s
    else if far then linkSet s l { k with state := 3 }
    else if inGrains s l then s
    else linkSet s l { k with training := 0 }

end Sys2Proof.Machine
end

