-- ==== Sys2Proof/Machine/SprintOps.lean ====
section
/-!
DEFINITION. The sprint, shared operations: descriptors (R41), a group's sets and areas (R23, R24,
R197, R198), readout slots (R37), and the position's sum over its units (R199, R200).
-/
namespace Sys2Proof.Machine
open Sys2Proof

/-- The budget of descriptor n. -/
def dBudget (s : State) (n : Nat) : Time := ns (rf s .sprint 0 (0x108 + 16 * n) 29 0)

/-- A group's sets on this device. -/
def setGet (s : State) (g : Nat) : GroupSet := mgetD s.sprint.sets g ⟨false, false, false, false, 0, 0⟩

/-- Change a group's sets. -/
def setMod (s : State) (g : Nat) (f : GroupSet → GroupSet) : State :=
  { s with sprint := { s.sprint with sets := mset s.sprint.sets g (f (setGet s g)) } }

/-- Units of one area: 2,048 shells times SLICES ÷ 2 (R198). DESIGN CHOICE (assumption log 34). -/
def areaUnits (s : State) : Nat := 1024 * rf s .attn 0 0x044 4 0

/-- Key of unit u in an area. -/
def unitKey (area : Bool) (u : Nat) : Nat := b2n area * 16384 + u

/-- The group lies in a crew's slice (R292). -/
def inSlice (s : State) (crew g : Nat) : Bool :=
  let base := rf s .crew 0 (0x104 + 16 * crew) 11 0
  base ≤ g && g < base + rf s .crew 0 (0x104 + 16 * crew) 28 16

/-- A write into a group's shadow set is refused (R23, R198, R375, R391): it is retiring or frozen,
the unit lies outside the areas or belongs to another group, or this twin returns. -/
def unitRefused (s : State) (g u : Nat) : Bool :=
  let x := setGet s g
  let other := fun a => match mget s.sprint.units (unitKey a u) with
    | some t => t.group != g
    | none => false
  absent s 9 || x.retiring || x.frozen || areaUnits s ≤ u || other false || other true || awaitsPair s

/-- SPRINT_WRITE (R197, R198, R286): the slice becomes a unit of the shadow set; a survivor forwards
it to its returning twin (R391). DEDUCED (assumption log 55). -/
def execSprintWrite (i : Nat) (s : State) : Out :=
  opcode i 0x34 s fun c s =>
    let u := bits (fld c.cmd 16 2) 13 0
    let g := bits (fld c.cmd 18 2) 11 0
    let w := fld c.cmd 20 1
    let src := fld c.cmd 24 8
    let code := nearCode s c.crew src unitSize
    if !inSlice s c.crew g then endCmd s i cRANGE
    else if code != cOK then endAt s i code src
    else if unitRefused s g u then endCmd s i cSPRINT
    else
      let area := !(setGet s g).area
      let k := unitKey area u
      let b := rdU s c.crew src unitSize
      let s := setMod s g id
      let s := slicePut s area u b
      let s := { s with sprint := { s.sprint with
        units := mset s.sprint.units k ⟨g, bits w 1 0, bits (fld c.cmd 21 2) 9 0, bits w 4 2, false⟩ } }
      let s := if s.twin.returning then sendUnit s (b2n area) u else s
      endCmd s i cOK

/-- SPRINT_READY (R24, R286): the group's shadow set is marked ready. DEDUCED (assumption log 55). -/
def execSprintReady (i : Nat) (s : State) : Out :=
  opcode i 0x35 s fun c s =>
    let g := bits (fld c.cmd 16 2) 11 0
    if !inSlice s c.crew g then endCmd s i cRANGE
    else endCmd (setMod s g fun x => { x with ready := true }) i cOK

/-- Size of a readout record (R37). -/
def readoutSize (g : Nat) : Nat := 320 + 2048 * (143 + 8 * g)

/-- Base of readout slot pair n's half. -/
def readoutBase (n : Nat) (half : Bool) : Nat := (2 * n + b2n half) * 557056

/-- The descriptor that names a group: an enabled live one first, then any live or shadow (R37).
DEDUCED (assumption log 55). -/
def namedBy (s : State) (g : Nat) : Option Nat :=
  match (List.range 64).find? fun n => dEn (dCfg s n) && dGroup (dCfg s n) = g with
  | some n => some n
  | none => (List.range 64).find? fun n => dGroup (dCfg s n) = g || dGroup (dFuture s n) = g

/-- QPK that a record for a group is held against: the word of the descriptor that names it, the live one
where both the live and a pending word name the group. DESIGN CHOICE (assumption log 94): R37 does not
say which of the two. -/
def qpkFor (s : State) (n g : Nat) : Nat :=
  if dGroup (dCfg s n) = g then dQpk (dCfg s n) else dQpk (dFuture s n)

/-- READOUT_LOAD (R37, R286): the record goes into the shadow slot, or the command is refused.
DEDUCED (assumption log 55). -/
def execReadoutLoad (i : Nat) (s : State) : Out :=
  opcode i 0x38 s fun c s =>
    let g := bits (fld c.cmd 16 2) 11 0
    let src := fld c.cmd 24 8
    let len := fld c.cmd 32 4
    let code := nearCode s c.crew src len
    let x := setGet s g
    if !inSlice s c.crew g then endCmd s i cRANGE
    else if !((span 1 17).any fun k => readoutSize k = len) then endCmd s i cSPRINT
    else if code != cOK then endAt s i code src
    else match namedBy s g with
      | none => endCmd s i cSPRINT
      | some n =>
        let b := rdU s c.crew src len
        let gq := qpkFor s n g
        let foreign := match groupGet s g with
          | some gr => gr.crew != c.crew
          | none => false
        if foreign || x.frozen || x.retiring || rf s .sprint 0 0x060 6 0 ≤ n
            || readoutSize (gq + 1) != len || fld b 0 1 != 1 || bits (fld b 0 4) 21 18 != gq then
          endCmd s i cSPRINT
        else
          let half := !(mgetD s.sprint.roLive n false)
          let s := setMod s g id
          endCmd { s with sprint := { s.sprint with
            readout := wrBytes s.sprint.readout (readoutBase n half) b } } i cOK

/-- A register of descriptor n as live in a heat: the words as they stood before the last boundary serve
the heat before (R45); one not kept had its reset value. -/
def descWord (s : State) (n off heat : Nat) : Nat :=
  let o := regOff .sprint 0 (0x100 + 16 * n + off)
  if heat < s.heat.num then
    match mget s.sprint.oldDesc o with
    | some w => w.toNat
    | none => regReset .sprint (0x100 + 16 * n + off)
  else regGet s.regs o

/-- The deadline of the last token of a heat of `len` ns that ends at `b`, as far as the device knows it
(R23, R45): by the budgets of its own descriptors for the group as live in that heat, or, for a group
rooted elsewhere, by the limit that R20 sets to every budget. DEDUCED (assumption log 55). -/
def lastDeadline (s : State) (g heat : Nat) (b : Time) (len : Nat) : Time :=
  let own := (List.range 64).filter fun n =>
    dEn (descWord s n 0 heat) && dGroup (descWord s n 0 heat) = g
  if own.isEmpty then b + ns len
  else b + own.foldl (fun m n => max m (ns (bits (descWord s n 8 heat) 29 0))) 0

/-- A group's sets exchange at a boundary (R24): the area bit inverts, the old live set retires, and
the readout slots of the descriptors that name the group change roles. A set not sampled ready is
counted. `last` is the deadline of the last token of the ended heat. DEDUCED (assumption log 48). -/
def exchangeSet (s : State) (g : Nat) (heat : Nat) (last : Time) : State :=
  let x := setGet s g
  if x.frozen then
    let s := setMod s g fun x => { x with
      area := !x.area, frozen := false, retiring := true, liveFrom := heat + 1, lastAt := last }
    (List.range 64).foldl (fun s n =>
      if dGroup (dCfg s n) = g && dEn (dCfg s n) then
        { s with sprint := { s.sprint with
          roLive := mset s.sprint.roLive n (!(mgetD s.sprint.roLive n false))
          roFrom := mset s.sprint.roFrom n (heat + 1) } }
      else s) s
  else bump s .heat 0 0x100

/-- The area in which a heat's set of a group lies (R22, R23): the live one, the retiring one for a
heat before, or none once that is released. DEDUCED (assumption log 55). -/
def areaFor (s : State) (g heat : Nat) : Option Bool :=
  let x := setGet s g
  if x.liveFrom ≤ heat then some x.area else if x.retiring then some (!x.area) else none

/-- The units of a group and layer in an area, for four heads of a tree, by ascending bolt (R199,
R200). -/
def unitsFor (s : State) (g layer : Nat) (area weft : Bool) : List (Nat × SUnit) :=
  let us := s.sprint.units.filter fun e => decide (e.1 / 16384 = b2n area) && e.2.group = g
    && e.2.layer = layer && (e.2.kvhead / 4 = 1) == weft
  sortBy (fun a b => a.2.bolt ≤ b.2.bolt) us

end Sys2Proof.Machine
end

