-- ==== Sys2Proof/Machine/Back.lean ====
section
/-!
DEFINITION. Background activities (chapter 22): the slack window (R427), overdue activities (R428),
the slots of R429 and what they find (R435), those of the loom (R212), and recalibration of links
(R248).
-/
namespace Sys2Proof.Machine
open Sys2Proof

/-- The slack window is open: from its opening to the opening of the hold window, with TIME_OK 1
(R427, R428). -/
def slackOn (s : State) : Bool := s.back.slack && s.heat.timeOk && !s.heat.hold

/-- Length of the slack window (R427): a sixteenth of the heat in multiples of 8 ns, at most 64 µs. -/
def slackLen (s : State) : Time := min (heatLen s / 16 / 32 * 32) 256000

/-- SLACK_WINDOW_OPEN (R427): it ends at the opening of the hold window, 200 ns before the boundary. -/
def execSlackWindowOpen (t : Time) (s : State) : Out :=
  fab s fun s =>
    if s.heat.timeOk && !s.heat.hold && s.heat.next ≤ t + 800 + slackLen s && t + 800 < s.heat.next then
      { seen s t with back := { s.back with slack := true } }
    else s

/-- A die holds a sprint-armed shell. -/
def dieArmed (s : State) (d : Nat) : Bool := (span (256 * d) (256 * d + 256)).any fun k => sprintArmed s k

/-- The unit of an activity is sprint-armed (R50). -/
def activityArmed (s : State) (a u : Nat) : Bool :=
  match a with
  | 1 => linkArmed s u
  | 2 => dieArmed s u
  | 4 => dieArmed s u
  | _ => false

/-- Maximum deferral of an activity, in seal time (R429). -/
def deferral (a : Nat) : Time :=
  4000 * ([500, 10000, 100000, 100000, 1000000, 100000, 10000000].getD a 0)

/-- Key of an activity on a unit. -/
def actKey (a u : Nat) : Nat := 4096 * a + u

/-- ACTIVITY_OVERDUE (R428): when its deferral has passed since its previous slot, an activity takes one
slot at once on a unit that is not sprint-armed, and its deferral restarts. DEDUCED (assumption
log 73). -/
def execActivityOverdue (a u : Nat) (t : Time) (s : State) : Out :=
  fab s fun s =>
    let k := actKey a u
    if a < 7 && mgetD s.back.last k 0 + deferral a ≤ t && !activityArmed s a u then
      { seen s t with back := { s.back with
        last := mset s.back.last k t, granted := k :: s.back.granted.filter (· != k) } }
    else s

/-- A slot of an activity may start (R428): inside the slack window; on a unit that is not sprint-armed
also where it was granted as overdue, or while TIME_OK is 0. DEDUCED (assumption log 73). -/
def slotMay (s : State) (a u : Nat) : Bool :=
  slackOn s || (!activityArmed s a u && (s.back.granted.contains (actKey a u) || !s.heat.timeOk))

/-- A slot has been taken at a time. -/
def slotTaken (s : State) (a u : Nat) (t : Time) : State :=
  { seen s t with back := { s.back with
    last := mset s.back.last (actKey a u) t, granted := s.back.granted.filter (· != actKey a u) } }

/-- A scrub finds an uncorrectable word of an object (R435): the object becomes poisoned; with no reader
TIER_FAIL is recorded in the TIER page. `a` is the word's key: crew and unified address.
DEDUCED (assumption log 66). -/
def scrubFinds (s : State) (a : Nat) : State :=
  let crew := a / 2 ^ 60
  let addr := a % 2 ^ 60
  match objGet s crew (uObj addr) with
  | none => s
  | some o =>
    if o.state = 3 then s
    else
      let s := poison s crew (uObj addr)
      if o.readers.isEmpty then recordErr s .tier 0 cTFAIL addr else s

/-- T1_ECC_SCRUB (R429, R435): `bad` is the key of a word found uncorrectable in the die's T1, of an
object placed there or of a cached line, which is invalidated. DESIGN CHOICE (assumption log
30). -/
def execT1EccScrub (die : Nat) (bad : Option Nat) (t : Time) (s : State) : Out :=
  fab s fun s =>
    if die < 8 && !dieStopped s die && slotMay s 2 die then
      let s := slotTaken s 2 die t
      match bad with
      | none => s
      | some a =>
        let home := match objGet s (a / 2 ^ 60) (uObj a) with
          | some o => decide (o.tier = 1) && o.die = die
          | none => false
        let cache := mmod s.tile.cache die fun l => l.filter fun line => !(line ≤ a && a < line + 256)
        if home then scrubFinds s a else { s with tile := { s.tile with cache := cache } }
    else s

/-- T2_ECC_SCRUB (R429, R434, R435): a word of an object on the site's channel, or one of a reserved
area (a key beyond every crew's), which is INTERNAL_ECC. DESIGN CHOICE (assumption log 30). -/
def execT2EccScrub (site : Nat) (bad : Option Nat) (t : Time) (s : State) : Out :=
  fab s fun s =>
    if site < 8 && slotMay s 3 site then
      let s := slotTaken s 3 site t
      match bad with
      | none => s
      | some a =>
        if 16 * 2 ^ 60 ≤ a then recordErr s .tier 0 0x40 0
        else match objGet s (a / 2 ^ 60) (uObj a) with
          | some o => if o.tier = 2 && onChannels 2 (2 ^ site) (uOff a) 1 then scrubFinds s a else s
          | none => s
    else s

/-- THERMAL_CALIBRATION (R429): a slot of 2 µs on one die; bulk issue is held, values do not change. -/
def execThermalCalibration (die : Nat) (t : Time) (s : State) : Out :=
  fab s fun s => if die < 8 && slotMay s 4 die then slotTaken s 4 die t else s

/-- LOOM_WEAR_LEVELLING (R212, R428): in a slot of flash channel `ch`, a block worn by more than 256 erases
above the lowest count takes the cold data of a least-worn block, which is freed. DEDUCED (assumption
log 73 and 77). -/
def execLoomWearLevelling (worn least ch : Nat) (t : Time) (s : State) : Out :=
  fab s fun s =>
    if slotMay s 6 ch && lowestErases s + 256 < (blockGet s worn).erases
        && (blockGet s least).erases = lowestErases s
        && !(blockGet s least).bad && least < s.tier.rawBlocks && blockFree s worn then
      slotTaken (relocate s least worn) 6 ch t
    else s

/-- LOOM_READ_DISTURB_REFRESH (R212, R428): in a slot of flash channel `ch`, a block whose `reads` since its
last program reached READ_LIMIT, or a codeword of which needed three quarters of the correction limit
of 120 bits, is refreshed into a fresh one. DEDUCED (assumption log 73 and 77). -/
def execLoomReadDisturbRefresh (block fresh reads corrected ch : Nat) (t : Time) (s : State) : Out :=
  fab s fun s =>
    if slotMay s 5 ch && (rf s .tier 0 0x050 23 0 ≤ reads || 90 ≤ corrected) && !(blockGet s block).bad
        && blockFree s fresh && block != fresh then
      slotTaken (bump (relocate s block fresh) .tier 0 0x524) 5 ch t
    else s

/-- The recalibration of a link is due (R248): its interval has passed since the last, or the error
trigger stands. -/
def recalDue (s : State) (l : Nat) (t : Time) : Bool :=
  (linkGet s l).recalNow || mgetD s.back.last (actKey 1 l) 0 + 4000000 * rf s .henac 0 0x054 15 0 ≤ t

/-- RECALIBRATION (R248, R254, R428): once due, the receiver announces it by a frame of TYPE 1; a link
recalibrates in the slack window or as overdue, the twin port at any time. DEDUCED (assumption
log 73). -/
def execRecalibration (l : Nat) (t : Time) (s : State) : Out :=
  fab s fun s =>
    let k := linkGet s l
    if k.state = 3 && recalDue s l t && (l = 16 || slotMay s 1 l) then
      slotTaken (linkCount (linkSet s l
        { k with state := 4, noticeOut := true, corrected := 0, recalNow := false }) l 6) 1 l t
    else s

end Sys2Proof.Machine
end

