-- ==== Sys2Proof/Machine/Net.lean ====
section
/-!
DEFINITION. The package network (chapter 11): mesh and ring hops (R225 to R230), lost packets
(R232), packets at their destinations (R223, R226), sleeping and powered-off domains (R234), tags
and timeouts, and probes (R236).
-/
namespace Sys2Proof.Machine
open Sys2Proof

/-- A place as the 4 bytes of DEST or SRC (R221). -/
def placeWord (p : Place) (mc : Bool) : Nat :=
  p.die % 16 + 2 ^ 4 * (p.sx % 16) + 2 ^ 8 * (p.sy % 16) + 2 ^ 12 * (p.unit % 16)
    + 2 ^ 16 * (p.sub % 4096) + 2 ^ 31 * b2n mc

/-- The header flit of a packet (R221). -/
def pktHeader (p : Pkt) : List Byte :=
  toLE (placeWord p.dest p.mc) 4 ++ toLE (placeWord p.src false) 4 ++ toLE p.cmd 1
    ++ toLE (p.vc % 8 + 8 * b2n p.dl + 16 * (flitsOf p - 1)) 1 ++ toLE p.crew 1 ++ toLE p.status 1
    ++ toLE p.heat 2 ++ toLE p.tag 2 ++ toLE p.addr 8 ++ toLE p.arg 8

/-- A matching packet in trace mode writes an entry (R236). -/
def probeTrace (s : State) (die p : Nat) (h : List Byte) : State :=
  let b := 0x100 + 0x20 * p
  let pos := rg s .net die (b + 0x1C)
  if !bit (rg s .net die b) 1 || (bit pos 16 && !bit (rg s .net die b) 2) then s
  else
    let i := pos % 1024
    let e := h.take 16 ++ slice h 16 8 ++ toLE s.now 8
    let s := { s with net := { s.net with traces := mset s.net.traces ((die * 4 + p) * 1024 + i) e } }
    let wrapped := bit pos 16 || i = 1023
    rset s .net die (b + 0x1C) ((i + 1) % 1024 + 2 ^ 16 * b2n wrapped)

/-- The probes of a die see a packet pass an output port (R236). -/
def probes (s : State) (die port : Nat) (p : Pkt) : State :=
  let h := pktHeader p
  let key := fld h 0 2 + 2 ^ 16 * fld h 4 2 + 2 ^ 32 * fld h 8 4
  (List.range 4).foldl (fun s i =>
    let b := 0x100 + 0x20 * i
    let wide := fun o => rg s .net die (b + o) + 2 ^ 32 * rg s .net die (b + o + 4)
    if bit (rg s .net die b) 0 && rf s .net die b 14 4 = port && key &&& wide 0x0C = wide 0x04 then
      probeTrace (bumpBy (bump s .net die (b + 0x14)) .net die (b + 0x18) (flitsOf p)) die i h
    else s) s

/-- Command codes of R223. -/
def cmdKnown (c : Nat) : Bool :=
  [0x00, 0x01, 0x08, 0x09, 0x0A, 0x0B, 0x0C, 0x0D, 0x0E, 0x0F, 0x10, 0x11, 0x12, 0x18, 0x1F].contains c

/-- Non-posted requests (R223). -/
def nonPosted (c : Nat) : Bool := c = 0x08 || c = 0x0A || c = 0x0C || c = 0x0E

/-- Commands that keep order (R223); ERR_RESP follows its request's channel. -/
def ordered (p : Pkt) : Bool := !(p.cmd = 0x08 || p.cmd = 0x09 || p.cmd = 0x0A || p.cmd = 0x0B
  || (p.cmd = 0x1F && p.vc = 3))

/-- A destination or command that no rule defines (R222, R223). -/
def badRoute (p : Pkt) : Bool :=
  8 < p.dest.die || (p.dest.die = 8 && (p.mc || 8 ≤ p.dest.unit)) || 15 < p.dest.unit || !cmdKnown p.cmd

/-- An error response from the place a request was sent to (R232). -/
def errResp (s : State) (p : Pkt) (status : Nat) : Pkt :=
  { p with
    dest := p.src, src := p.dest, mc := false, cmd := 0x1F, status := status, data := []
    heat := s.heat.num % 65536, dl := false }

/-- A FAULT notice to the host port for the owning crew (R223, R232). -/
def faultNotice (s : State) (src : Place) (crew status : Nat) : Pkt :=
  { dest := ⟨8, 0, 0, 3, 0⟩, mc := false, src := src, cmd := 0x18, vc := 4, dl := false, crew := crew
    status := status, heat := s.heat.num % 65536, tag := 0, addr := 0, arg := 0, data := [] }

/-- Shells of a packet's destination. -/
def destShells (s : State) (p : Pkt) : List Nat :=
  if 8 ≤ p.dest.die then []
  else if p.mc then (((mcastQueues s p.dest.die p.dest.sub).getD []).map (· / 32)).eraseDups
  else [shellKey p.dest.die (16 * p.dest.sy + p.dest.sx)]

/-- A queue entry was lost: the shells stop as under R124 and a FAULT notice goes to the owning crew
(R232). -/
def entryLost (s : State) (shells : List Nat) (status code : Nat) : State :=
  shells.foldl (fun s k =>
    let crew := (shellGet s k).owner.getD noCrew
    let s := haltShell s k code (8 * (k % 256))
    inject s (faultNotice s (placeOf k 13 0) crew status)) s

/-- A packet is discarded for an uncorrectable flit (R232): an entry was lost to the shells that it
would still have reached. -/
def pktLost (s : State) (die : Nat) (p : Pkt) (shells : List Nat) : State :=
  let s := bump s .net die 0x40C
  if p.cmd ≤ 1 then entryLost s shells 4 0x23 else s

/-- A packet with a bad route is discarded at the first router, which answers a request (R222, R232). -/
def routeErr (s : State) (die : Nat) (p : Pkt) : State :=
  let s := bump s .net die 0x418
  if p.cmd ≤ 1 then entryLost s [shellKey p.src.die (16 * p.src.sy + p.src.sx)] 2 0x24
  else if nonPosted p.cmd then
    inject s { errResp s p 2 with src := p.src }
  else s

/-- The head packet of a queue. -/
def headQ (s : State) (q : Nat) : Option Pkt := (mgetD s.net.queues q []).head?

/-- Take the head of a queue; its credits return by LINK_CREDIT_RETURN (R229). -/
def popQ (s : State) (q : Nat) : State :=
  { s with net := { s.net with
    queues := mset s.net.queues q ((mgetD s.net.queues q []).drop 1)
    wakeHeld := s.net.wakeHeld.filter (· != q) } }

/-- The first packet of a queue that R25 does not hold: at a ring station a packet held stays in its
place, and those behind it go on. DESIGN CHOICE (assumption log 92). -/
def freeHead (s : State) (q : Nat) : Option Pkt :=
  (mgetD s.net.queues q []).find? fun p => !(fromRing q && heldPkt s p)

/-- Take that packet; its credits return by LINK_CREDIT_RETURN (R229). -/
def takeFree (s : State) (q : Nat) (p : Pkt) : State :=
  { s with net := { s.net with queues := mset s.net.queues q ((mgetD s.net.queues q []).erase p) } }

/-- A packet reaches the unit it is addressed to. -/
def deliver (s : State) (p : Pkt) : State :=
  { s with net := { s.net with delivered := s.net.delivered ++ [p] } }

/-- Output ports of a router: 0 north, 1 south, 2 east, 3 west, 4 local. -/
def opposite (d : Nat) : Nat := [1, 0, 3, 2].getD d 4

/-- The router behind an output port. -/
def neighbour (r d : Nat) : Nat :=
  match d with
  | 0 => r - 16
  | 1 => r + 16
  | 2 => r + 1
  | _ => r - 1

/-- The fixed path: west, then north or south, then east (R225); 4 at the end. -/
def fixedDir (x y tx ty : Nat) : Nat :=
  if tx < x then 3 else if ty < y then 0 else if y < ty then 1 else if x < tx then 2 else 4

/-- A packet leaves the mesh through the station (R227). -/
def toStation (die : Nat) (p : Pkt) : Bool := p.dest.die != die || (!p.mc && atStation p.dest.unit)

/-- The output a packet takes at router r (R225, R227): for an unordered packet the productive output
with fewer flits, north or south on a tie. DEDUCED (assumption log 70). -/
def meshDir (s : State) (die r : Nat) (p : Pkt) : Nat :=
  let x := r % 16
  let y := r / 16
  if toStation die p then 1
  else
    let d := fixedDir x y p.dest.sx p.dest.sy
    if !ordered p && d < 2 && x < p.dest.sx then
      let load := fun d => mgetD s.net.used (meshQ die (neighbour r d) (opposite d) p.vc) 0
      if load 2 < load d then 2 else d
    else d

/-- The fixed path from (x, y) to a target passes router r. -/
def onPath (r tx ty : Nat) : Nat → Nat → Nat → Bool
  | 0, _, _ => false
  | fuel + 1, x, y =>
    if 16 * y + x = r then true
    else match fixedDir x y tx ty with
      | 0 => onPath r tx ty fuel x (y - 1)
      | 1 => onPath r tx ty fuel x (y + 1)
      | 2 => onPath r tx ty fuel (x + 1) y
      | 3 => onPath r tx ty fuel (x - 1) y
      | _ => false

/-- The columns by which a packet enters the mesh of its die from the station: its destination's (R227);
a multicast enters once, at the lowest column of its set (R118). DEDUCED (assumption log 70). -/
def stationCols (s : State) (p : Pkt) : List Nat :=
  if p.mc then (((destShells s p).map (· % 16)).min?).toList else [p.dest.sx]

/-- The shells of a multicast packet that lie behind router r on its tree (R118): its copies follow the
fixed paths from where it entered the mesh. -/
def mcastBehind (s : State) (r : Nat) (p : Pkt) : List Nat :=
  let c := if atStation p.src.unit then (stationCols s p).headD 0 else p.src.sx
  let y := if atStation p.src.unit then 15 else p.src.sy
  ((destShells s p).map (· % 256)).filter fun t => onPath r (t % 16) (t / 16) 32 c y

/-- Outputs of a packet at a router. -/
def outputs (s : State) (die r : Nat) (p : Pkt) : List Nat :=
  if p.mc && p.dest.die = die then
    ((mcastBehind s r p).map fun t => fixedDir (r % 16) (r / 16) (t % 16) (t / 16)).eraseDups
  else [meshDir s die r p]

/-- The queue behind an output of a router: the next router, or the station in row 15. -/
def behind (die r d : Nat) (vc : Nat) : Nat :=
  if d = 1 && r / 16 = 15 then outQ die vc else meshQ die (neighbour r d) (opposite d) vc

/-- A shell's domain can take a packet (R234). -/
def domainReady (s : State) (k : Nat) : Bool :=
  (shellGet s k).power = .run

/-- An output of a router can take a packet. -/
def outReady (s : State) (die r : Nat) (p : Pkt) (d : Nat) : Bool :=
  if d = 4 then domainReady s (shellKey die r)
  else roomQ s (behind die r d p.vc) p

/-- Forward a packet to one output. -/
def meshPut (s : State) (die r : Nat) (p : Pkt) (d : Nat) : State :=
  let s := probes s die (5 * r + d) p
  if d = 4 then
    deliver s (if p.mc then { p with dest := { p.dest with sx := r % 16, sy := r / 16 } } else p)
  else pushQ s (behind die r d p.vc) p

/-- The flits of the packets of a virtual channel that could take one of the outputs of a router. DEDUCED
(assumption log 70). -/
def meshCands (s : State) (die r : Nat) (ds : List Nat) (vc : Nat) : List Nat :=
  (List.range 5).filterMap fun i =>
    match headQ s (meshQ die r i vc) with
    | some p =>
      if (outputs s die r p).any fun d => ds.contains d && outReady s die r p d then some (flitsOf p)
      else none
    | none => none

/-- Keys of the outputs that virtual channels share: of a router, of a ring stop, and of a station into
a column of its mesh (R230). -/
def meshOut (die r d : Nat) : Nat := (die * 256 + r) * 5 + d
def ringOut (stop : Nat) (down : Bool) : Nat := 2 ^ 14 + 2 * stop + b2n down
def stationOut (die c : Nat) : Nat := 2 ^ 15 + 16 * die + c

/-- A packet of `n` flits may take an output now (R230): VC0 always; no other before a VC0 packet that
could take it; one within its share of the round, or one that finds no candidate within its own.
DESIGN CHOICE (assumption log 70). -/
def shareOk (s : State) (out vc n : Nat) (cands : Nat → List Nat) : Bool :=
  let left := mgetD s.net.shares out []
  vc = 0 || ((cands 0).isEmpty && (n ≤ left.getD (vc - 1) 0 ||
    !((List.range 4).any fun m => (cands (m + 1)).any fun f => f ≤ left.getD m 0)))

/-- A packet of `n` flits takes an output: its share of the round shrinks, of a new round where the old
one left it too little; each round gives VCm 16 flits for each unit of its weight. -/
def takeShare (s : State) (out vc n : Nat) : State :=
  if vc = 0 then s
  else
    let left := mgetD s.net.shares out [0, 0, 0, 0]
    let left := if n ≤ left.getD (vc - 1) 0 then left
      else (List.range 4).map fun m =>
        let r := left.getD m 0
        (if r < 9 then r else 0) + 16 * weightOf s (m + 1)
    { s with net := { s.net with shares := mset s.net.shares out (left.modify (vc - 1) (· - n)) } }

/-- Note a flit error count: `ecc` / 2 corrected, and 1 in its lowest bit for an uncorrectable
flit (R232). DEDUCED (assumption log 70). -/
def countEcc (s : State) (die ecc : Nat) : State :=
  if ecc / 2 = 0 then s else bumpBy s .net die 0x408 (ecc / 2)

/-- The head packet of queue q meets a domain that sleeps or wakes: it is held and counted, once, and
wake is asserted (R234). DEDUCED (assumption log 84). -/
def assertWake (s : State) (k q : Nat) : State :=
  let x := shellGet s k
  let s := if x.power = .sleep then shellSet s k { x with power := .waking } else s
  if x.power = .run || x.power = .off || s.net.wakeHeld.contains q then s
  else bump { s with net := { s.net with wakeHeld := q :: s.net.wakeHeld } } .net (k / 256) 0x410

/-- A packet for a die that is powered off (R234). -/
def unitOff (s : State) (die : Nat) (p : Pkt) : State :=
  if nonPosted p.cmd then inject s { errResp s p 3 with src := { p.dest with die := die, unit := 15 } }
  else
    let s := bump s .net die 0x414
    if p.cmd ≤ 1 then entryLost s (destShells s p) 4 0x23 else s

/-- The flits of the packets of a virtual channel that could enter the mesh from the station by one of
the columns. DEDUCED (assumption log 70). -/
def stationCands (s : State) (die : Nat) (cols : List Nat) (vc : Nat) : List Nat :=
  match freeHead s (inQ die vc) with
  | some p =>
    if !badRoute p && (p.mc || !atStation p.dest.unit)
        && (stationCols s p).any fun c => cols.contains c && roomQ s (meshQ die (240 + c) 1 vc) p
    then [flitsOf p] else []
  | none => []

/-- The station of a die passes a packet on: to a unit at the station, or into the mesh at row 15 (R227).
`fromMesh` names its queue from the mesh, which also holds the packets for other dies. -/
def stationHop (s : State) (die : Nat) (fromMesh : Bool) (vc ecc : Nat) : State :=
  let q := if fromMesh then outQ die vc else inQ die vc
  let idle := s
  match freeHead s q with
  | none => s
  | some p =>
    let s := countEcc s die ecc
    let gone := takeFree s q p
    if fromMesh && p.dest.die != die then idle
    else if ecc % 2 = 1 then pktLost gone die p (destShells s p)
    else if badRoute p then routeErr gone die p
    else if die = 8 then
      if p.dest.unit = 0 then edgeOut (probes gone 8 0 p) p else deliver (probes gone 8 p.dest.unit p) p
    else if !p.mc && atStation p.dest.unit then deliver (probes gone die 1283 p) p
    else if bit s.power.offDies die then unitOff gone die p
    else if dieStopped s die then idle
    else
      let cols := stationCols s p
      let into := fun c => meshQ die (240 + c) 1 vc
      let n := flitsOf p
      let may := fun c => roomQ s (into c) p
        && shareOk s (stationOut die c) vc n (stationCands s die [c])
      if cols.all may then
        cols.foldl (fun s c => pushQ (takeShare (probes s die 1282 p) (stationOut die c) vc n) (into c) p)
          gone
      else idle

/-- A packet leaves a router by its outputs. -/
def meshMove (s : State) (die router q : Nat) (p : Pkt) (ds : List Nat) : State :=
  ds.foldl (fun s d => meshPut (takeShare s (meshOut die router d) p.vc (flitsOf p)) die router p d) (popQ s q)

/-- MESH_HOP (R225): the head packet of a router's input queue goes one hop; `router` 256 names the
station: its queue from the mesh for `inp` 1, else that from the ring. DEDUCED (assumption log 70). -/
def execMeshHop (die router inp vc ecc : Nat) (s : State) : Out :=
  fab s fun s =>
    if 256 ≤ router then stationHop s die (inp = 1) vc ecc
    else if dieStopped s die then s
    else
      let q := meshQ die router inp vc
      let k := shellKey die router
      let idle := s
      match headQ s q with
      | none => s
      | some p =>
        let s := countEcc s die ecc
        let ds := outputs s die router p
        if ecc % 2 = 1 then
          pktLost (popQ s q) die p
            (if p.mc then (mcastBehind s router p).map (shellKey die) else destShells s p)
        else if badRoute p then routeErr (popQ s q) die p
        else if ds.contains 4 && (shellGet s k).power = .off then unitOff (popQ s q) die p
        else if ds.contains 4 && !domainReady s k then assertWake idle k q
        else if ds.all fun d => outReady s die router p d
            && shareOk s (meshOut die router d) vc (flitsOf p) (meshCands s die router [d]) then
          meshMove s die router q p ds
        else idle

/-- Stops on the ascending ring from one die to another. -/
def ringUp (a b : Nat) : Nat := (b + 9 - a) % 9

/-- The descending ring is the shorter way (R228). DEDUCED (assumption log 70). -/
def goesDown (a b : Nat) : Bool := 4 < ringUp a b

/-- Arrival at the station of the destination die: R25, then the station's queue, in which a packet for
the next heat is held (R233). -/
def stationArrive (s : State) (stop : Nat) (p : Pkt) : State :=
  let q := inQ stop p.vc
  let put := pushQ s q { p with dl := false }
  if p.vc = 2 || p.vc = 3 then put
  else match stampCase s p.heat with
    | .accept => put
    | .hold => bump put .heat 0 0x104
    | .early => bump s .heat 0 0x108
    | .stale => bump s .heat 0 0x10C

/-- One stop on from a stop: the packet with its DL, set where it crosses the dateline, and the queue it
comes to (R228, R229). -/
def ringStep (stop : Nat) (down fromRing dl : Bool) (p : Pkt) : Pkt × Nat :=
  let next := if down then (stop + 8) % 9 else (stop + 1) % 9
  let dl' := (fromRing && dl) || decide (stop = if down then 0 else 8)
  ({ p with dl := dl' }, if next = p.dest.die then inQ next p.vc else ringQ next down p.vc dl')

/-- The flits of the packets of a virtual channel that could take the ring output of a stop. DEDUCED
(assumption log 70). -/
def ringCands (s : State) (stop : Nat) (down : Bool) (vc : Nat) : List Nat :=
  let can := fun (x : Bool × Bool × Nat) =>
    match headQ s x.2.2 with
    | some p =>
      let r := ringStep stop down x.1 x.2.1 p
      let goes := p.dest.die != stop && goesDown stop p.dest.die == down && !badRoute p
      if (x.1 || goes) && roomQ s r.2 r.1 then some (flitsOf p) else none
    | none => none
  [(true, false, ringQ stop down vc false), (true, true, ringQ stop down vc true),
    (false, false, outQ stop vc)].filterMap can

/-- RING_HOP (R228, R230): a packet moves one stop, from the ring input or, with none there, from the
station's queue from the mesh; crossing the dateline sets DL. -/
def execRingHop (stop : Nat) (down : Bool) (vc : Nat) (dl : Bool) (ecc : Nat) (s : State) : Out :=
  fab s fun s =>
    let rq := ringQ stop down vc dl
    let fromRing := (headQ s rq).isSome
    let q := if fromRing then rq else outQ stop vc
    match headQ s q with
    | none => s
    | some p =>
      if !fromRing && (dl || p.dest.die = stop || goesDown stop p.dest.die != down) then s
      else if !fromRing && badRoute p then routeErr (popQ s q) stop p
      else
        let idle := s
        let s := countEcc s stop ecc
        if ecc % 2 = 1 then pktLost (popQ s q) stop p (destShells s p)
        else
          let r := ringStep stop down fromRing dl p
          if !roomQ s r.2 r.1
              || !shareOk s (ringOut stop down) vc (flitsOf p) (ringCands s stop down) then idle
          else
            let s := takeShare s (ringOut stop down) vc (flitsOf p)
            let port := if stop = 8 then 9 + b2n down else 1280 + b2n down
            let s := probes (popQ s q) stop port p
            let next := if down then (stop + 8) % 9 else (stop + 1) % 9
            if next = p.dest.die then stationArrive s next r.1 else pushQ s r.2 r.1

/-- Flits that stand in a queue. -/
def flitsIn (s : State) (q : Nat) : Nat := (mgetD s.net.queues q []).foldl (fun n p => n + flitsOf p) 0

/-- The units whose packets enter by a queue go on: those that wait in order, then the OQ0 of the shell's
oars. DESIGN CHOICE (assumption log 70). -/
def pumpEntry (s : State) (q : Nat) : State :=
  let s := pumpOutbox s q
  if q < 2 ^ 20 && q / 5 % 5 = 4 then
    (List.range 8).foldl (fun s j => pumpOar s (8 * (q / 25) + j)) s
  else s

/-- LINK_CREDIT_RETURN (R229): one credit for a flit that a queue has passed on. -/
def execLinkCreditReturn (q : Nat) (s : State) : Out :=
  fab s fun s =>
    let u := mgetD s.net.used q 0
    if flitsIn s q < u then
      pumpEntry { s with net := { s.net with used := mset s.net.used q (u - 1) } } q
    else s

/-- Two ordered packets share source, destination and virtual channel (R226). -/
def sameFlow (a b : Pkt) : Bool :=
  ordered a && ordered b && a.src = b.src && a.dest = b.dest && a.vc = b.vc

/-- A packet has reached its unit, and none of its flow before it that the unit has not taken (R226). -/
def arrives (s : State) (p : Pkt) : Bool :=
  (s.net.delivered.find? fun x => x = p || sameFlow x p) = some p

/-- A unit takes a packet that has reached it. -/
def takePkt (s : State) (p : Pkt) : State :=
  { s with net := { s.net with delivered := s.net.delivered.erase p } }

/-- A shell belongs to another crew than a packet's, or its crew resets (R295, R301). DEDUCED
(assumption log 71). -/
def violates (s : State) (k crew : Nat) : Bool :=
  crew != 31 && (match (shellGet s k).owner with
    | some c => c != crew || resetting s c
    | none => resetting s crew)

/-- Count a violation (R295, R303). -/
def countViolation (s : State) : State := bump s .crew 0 0x050

/-- An entry for a shell: at an input queue, at a steering entry, or at the queues of a multicast set
in this shell (R117, R221). -/
def entryAt (s : State) (p : Pkt) (e : QEntry) : State :=
  let k := shellKey p.dest.die (16 * p.dest.sy + p.dest.sx)
  if 8 ≤ p.dest.die || dieStopped s p.dest.die then s
  else if violates s k p.crew then countViolation s
  else if p.mc then
    (((mcastQueues s p.dest.die p.dest.sub).getD []).filter (· / 32 = k)).foldl (fun s q => arrive s q e) s
  else if p.dest.unit < 8 then arrive s (qKey p.dest.die (8 * (k % 256) + p.dest.unit) (p.dest.sub % 4)) e
  else if p.dest.unit = 8 then steerMod s k (p.dest.sub % 16) fun x => { x with inq := x.inq ++ [e] }
  else s

/-- A packet of a command code reaches its unit: no event where it has not arrived. -/
def onArrival (cmd : Nat) (p : Pkt) (s : State) (f : State → State) : Out :=
  fab s fun s => if p.cmd = cmd && arrives s p then f (takePkt s p) else s

/-- QDATA (R223). -/
def execQdata (p : Pkt) (s : State) : Out :=
  onArrival 0x00 p s fun s => entryAt s p (some (slice p.data 0 32))

/-- QEND (R223). -/
def execQend (p : Pkt) (s : State) : Out := onArrival 0x01 p s fun s => entryAt s p none

/-- Key of an initiator's tag (R232). -/
def tagKey (die tag : Nat) : Nat := die * 65536 + tag

/-- The crew of the command in a slot; 31 for the device's own requests (R221, R294). -/
def reqCrew (s : State) (slot : Option Nat) : Nat :=
  match slot with
  | none => 31
  | some i => match slotGet s i with
    | some c => c.crew
    | none => 31

/-- The data bytes of a request (R223): ARG of WR_REQ, one flit of REG_WR. -/
def reqData (p : Pkt) : Nat := if p.cmd = 0x0A then p.arg else if p.cmd = 0x0E then 32 else 0

/-- A request is issued as R221 and R223 form it, with a tag neither in flight nor quarantined (R232),
by a unit of a die that runs for a running command or for the device: it enters the network. -/
def issueReq (s : State) (p : Pkt) (slot : Option Nat) : State :=
  let arg := 0x0C ≤ p.cmd || (p.arg % 32 = 0 && 32 ≤ p.arg && p.arg ≤ 256)
  let runs := match slot with
    | none => true
    | some i => match slotGet s i with
      | some c => c.phase = .running
      | none => false
  if !runs || !nonPosted p.cmd || !arg || p.mc || p.data.length != reqData p || p.status != 0
      || p.crew != reqCrew s slot || p.vc != (if p.cmd < 0x0C then 3 else 4)
      || (mget s.net.tags (tagKey p.src.die p.tag)).isSome
      || 8 < p.src.die || (p.src.die < 8 && dieStopped s p.src.die) then s
  else
    let tags := mset s.net.tags (tagKey p.src.die p.tag) ⟨slot, p.crew, false⟩
    inject { s with net := { s.net with tags := tags } } { p with heat := s.heat.num % 65536, dl := false }

/-- A request of a row: one that has reached its unit is served there; else a unit issues it. A shell of
another crew answers ROUTE_ERR, and a unit that has stopped since UNIT_OFF (R232, R295). DEDUCED
(assumption log 71). -/
def request (cmd : Nat) (slot : Option Nat) (p : Pkt) (s : State) (f : State → State) : Out :=
  fab s fun s =>
    if p.cmd != cmd then s
    else if !arrives s p then issueReq s p slot
    else
      let s := takePkt s p
      let k := shellKey p.dest.die (16 * p.dest.sy + p.dest.sx)
      if p.dest.die < 8 && dieStopped s p.dest.die && !atStation p.dest.unit then
        inject s { errResp s p 3 with src := { p.dest with unit := 15 } }
      else if p.dest.die < 8 && !atStation p.dest.unit && violates s k p.crew then
        inject (countViolation s) (errResp s p 2)
      else f s

/-- A response to a request (R223). -/
def respond (s : State) (p : Pkt) (cmd : Nat) (data : List Byte) : State :=
  inject s { p with
    dest := p.src, src := p.dest, cmd := cmd, status := 0, heat := s.heat.num % 65536, dl := false
    data := data }

/-- The unit that a request names holds the memory it asks for (R203, R222): the T1 slices of the die
that an object lies on, a stacked-DRAM site, or the tier engine for T3 and T4. DEDUCED (assumption log
71). -/
def holdsTier (s : State) (p : Pkt) : Bool :=
  match objGet s p.crew (uObj p.addr) with
  | some o =>
    if o.tier = 1 then p.dest.die = o.die && p.dest.unit = 12
    else if o.tier = 2 then p.dest.die < 8 && p.dest.unit = 14
    else p.dest.die = 8 && p.dest.unit = 5
  | none => false

/-- RD_REQ (R223): the bytes at a unified address; an access outside the crew's range, or to memory that
the unit does not hold, has no route. DEDUCED (assumption log 71). -/
def execRdReq (slot : Option Nat) (p : Pkt) (s : State) : Out :=
  request 0x08 slot p s fun s =>
    if accessCode s p.crew p.addr p.arg = cOK && holdsTier s p then
      respond s p 0x09 (rdU s p.crew p.addr p.arg)
    else inject s (errResp s p 2)

/-- WR_REQ (R223): bytes written at a unified address; cached lines they touch are invalidated
(R121). DEDUCED (assumption log 71). -/
def execWrReq (slot : Option Nat) (p : Pkt) (s : State) : Out :=
  request 0x0A slot p s fun s =>
    if storeCode s p.crew p.addr p.arg = cOK && holdsTier s p then
      let b := slice p.data 0 p.arg
      respond (invalidate (wrU s p.crew p.addr b) p.crew p.addr b.length) p 0x0B []
    else inject s (errResp s p 2)

/-- A response reaches its initiator and is matched by its tag (R226): the tag becomes free; a response
without a request in flight, or after its timeout, is discarded and counted (R232). -/
def matchTag (cmd : Nat) (p : Pkt) (s : State) (f : State → TagSt → State) : Out :=
  onArrival cmd p s fun s =>
    let k := tagKey p.dest.die p.tag
    match mget s.net.tags k with
    | some t =>
      if t.quarantined then bump s .net (p.dest.die % 9) 0x404
      else f { s with net := { s.net with tags := mdel s.net.tags k } } t
    | none => bump s .net (p.dest.die % 9) 0x404

/-- RD_RESP (R226). -/
def execRdResp (p : Pkt) (s : State) : Out := matchTag 0x09 p s fun s _ => s

/-- WR_ACK (R226). -/
def execWrAck (p : Pkt) (s : State) : Out := matchTag 0x0B p s fun s _ => s

/-- REG_RD_RESP (R223): the register word reaches its initiator. DESIGN CHOICE (assumption log
37). -/
def execRegRdResp (p : Pkt) (s : State) : Out :=
  matchTag 0x0D p s fun s _ =>
    { s with net := { s.net with
      regOut := mset s.net.regOut (tagKey p.dest.die p.tag) (BitVec.ofNat 32 (fld p.data 0 4)) } }

/-- REG_WR_ACK (R223). -/
def execRegWrAck (p : Pkt) (s : State) : Out := matchTag 0x0F p s fun s _ => s

/-- Completion code of a packet STATUS (R433). -/
def statusCode (st : Nat) : Nat := [0x00, 0x22, 0x24, 0x25, 0x23].getD st 0x24

/-- FAULT_NOTICE (R223, R431): recorded in the NET page of the shell's die for its crew. -/
def execFaultNotice (p : Pkt) (s : State) : Out :=
  onArrival 0x18 p s fun s =>
    recordErr s .net (p.src.die % 9) (statusCode p.status)
      (placeWord p.src false) p.crew

/-- ERR_RESP (R232): ends the command that issued the request with its code. -/
def execErrResp (p : Pkt) (s : State) : Out :=
  matchTag 0x1F p s fun s t =>
    match t.slot with
    | some i => netFail s i (statusCode p.status)
    | none => s

/-- NET_TIMEOUT (R232): no response in time: ERR_RESP with NET_TIMEOUT is synthesised and the tag
quarantined. -/
def execNetTimeout (die tag : Nat) (s : State) : Out :=
  fab s fun s =>
    let k := tagKey die tag
    match mget s.net.tags k with
    | some t =>
      if t.quarantined then s
      else
        let s := bump s .net die 0x400
        let s := { s with net := { s.net with tags := mset s.net.tags k { t with quarantined := true } } }
        match t.slot with
        | some i => netFail s i 0x22
        | none => s
    | none => s

/-- TAG_QUARANTINE_END (R232). -/
def execTagQuarantineEnd (die tag : Nat) (s : State) : Out :=
  fab s fun s =>
    match mget s.net.tags (tagKey die tag) with
    | some t =>
      if t.quarantined then { s with net := { s.net with tags := mdel s.net.tags (tagKey die tag) } } else s
    | none => s

/-- DOMAIN_WAKE (R234): the domain runs again and its held packet is delivered. -/
def execDomainWake (die shell : Nat) (s : State) : Out :=
  fab s fun s =>
    let k := shellKey die shell
    let x := shellGet s k
    if x.power != .waking then s
    else
      let s := shellSet s k { x with power := .run }
      let qs := (List.range 25).map fun i => meshQ die shell (i / 5) (i % 5)
      match qs.find? fun q => match headQ s q with
          | some p => (outputs s die shell p).contains 4
          | none => false with
      | some q =>
        match headQ s q with
        | some p =>
          let ds := outputs s die shell p
          if ds.all (outReady s die shell p) then meshMove s die shell q p ds else s
        | none => s
      | none => s

/-- A shell has work: a program, a pass, a table load or queue entries (R360). -/
def domainBusy (s : State) (k : Nat) : Bool :=
  (shellGet s k).running || (mget s.att.lists k).isSome ||
    (shellOars s k).any fun e => e.2.iq.any (!·.isEmpty) || !e.2.oq0.isEmpty || !e.2.oq1.isEmpty

/-- DOMAIN_SLEEP (R360): 10 µs idle on a die whose SLEEP_EN bit is 1, and not sprint-armed (R51). -/
def execDomainSleep (die shell : Nat) (s : State) : Out :=
  fab s fun s =>
    let k := shellKey die shell
    let x := shellGet s k
    if bit (rf s .power 0 0x050 7 0) die && !absent s 6 && x.power = .run && !domainBusy s k
        && !sprintArmed s k && !dieStopped s die then
      shellSet s k { x with power := .sleep }
    else s

/-- CTRL.CLR of a NET page (R237): counters, probe counts and trace buffers. -/
def netClear (s : State) (n : Nat) : State :=
  let s := rzero s .net n (ctrOffs 0x400 7)
  let s := (List.range 4).foldl (fun s p =>
    rzero s .net n [0x114 + 0x20 * p, 0x118 + 0x20 * p, 0x11C + 0x20 * p]) s
  { s with net := { s.net with traces := mfilter s.net.traces fun k _ => k / 4096 != n } }

end Sys2Proof.Machine
end

