-- ==== Sys2Proof/Machine/AttnOps.lean ====
section
/-!
DEFINITION. The attention pipeline, shared operations (chapter 09): head slices (R184, R185), pass
descriptors (R186, R194), visibility (R188, R189), scores and sums (R191, R192), streams (R288) and
the bolt walk (R214 to R216).
-/
namespace Sys2Proof.Machine
open Sys2Proof

/-- An attention pass descriptor (R186). -/
structure Pass where
  mode : Nat
  causal : Bool
  init : Bool
  list : Bool
  dim : Nat
  qfmt : Nat
  kvfmt : Nat
  lines : Nat
  gq : Nat
  oar : Nat
  qunit : Nat
  aunit : Nat
  ounit : Nat
  ofmt : Nat
  kvhead : Nat
  scale : Nat
  qpos : Nat
  kvfirst : Nat
  kvlast : Nat
  listAddr : Nat
  stream : Nat
  lcount : Nat
  lencnt : Nat
  lentab : Nat
deriving DecidableEq, Repr

/-- Read a pass descriptor (R186); LINES and GQ as counts. -/
def parsePass (b : List Byte) : Pass :=
  let m := fld b 0 1
  { mode := bits m 1 0, causal := bit m 2, init := bit m 3, list := bit m 4
    dim := if bit m 5 then 64 else 128, qfmt := bits (fld b 1 1) 3 0, kvfmt := bits (fld b 1 1) 7 4
    lines := bits (fld b 2 1) 5 0 + 1, gq := bits (fld b 3 1) 3 0 + 1, oar := bits (fld b 3 1) 6 4
    qunit := fld b 4 2, aunit := fld b 6 2, ounit := fld b 8 2, ofmt := bits (fld b 10 1) 3 0
    kvhead := bits (fld b 10 1) 6 4, scale := fld b 12 4, qpos := fld b 16 5
    kvfirst := fld b 24 5, kvlast := fld b 32 5, listAddr := fld b 40 8
    stream := bits (fld b 48 2) 13 0, lcount := fld b 50 2, lencnt := bits (fld b 52 1) 5 0
    lentab := fld b 56 8 }

/-- A length-table entry (R189). -/
structure LenEntry where
  line0 : Nat
  n : Nat
  stream : Nat
  qpos : Nat
  kvlen : Nat

/-- Read a length-table entry. -/
def parseLen (b : List Byte) : LenEntry :=
  let v := leNat b
  ⟨bits v 5 0, bits v 14 8, bits v 29 16, bits v 71 32, bits v 111 72⟩

/-- Bytes of the keys, or of the values, of a slice and of their scales (R184). -/
def kvBytes (p : Pass) : Nat := 32 * p.dim * fmtWidth p.kvfmt
def kvScales (p : Pass) : Nat := 8 * p.dim
def sliceBytes (p : Pass) : Nat := 2 * (kvBytes p + kvScales p)

/-- Elements of a row of a slice with their scales applied (R131, R184); the second part raises NV
for a scale without value. -/
def kvRow (p : Pass) (b : List Byte) (values : Bool) (j : Nat) : List Num × Flags :=
  let base := if values then kvBytes p + kvScales p else 0
  let w := fmtWidth p.kvfmt
  let row := b.drop (base + j * p.dim * w / 8)
  let sc := b.drop (base + kvBytes p + j * (p.dim / 32))
  let r := (List.range p.dim).map fun d =>
    scaled (elemN p.kvfmt (elemAt w row d)) (fld sc (d / 32) 1)
  (r.map (·.1), r.foldl (fun f x => f ||| x.2) 0)

/-- Units of a query line, of the query block with its scales, of an accumulator record (R185,
R186). -/
def lineUnits (p : Pass) (fmt : Nat) : Nat := p.dim * fmtWidth fmt / 256
def queryUnits (p : Pass) : Nat :=
  p.lines * lineUnits p p.qfmt + scaleUnits p.qfmt (p.lines * p.dim)
def accUnits (p : Pass) : Nat := (4 * (p.dim + 1) + 31) / 32

/-- Units of one probability tile: lines × 256 as row panels (R107, R193). -/
def tileRowUnits (p : Pass) : Nat := (p.lines + 7) / 8 * (256 * fmtWidth p.ofmt / 32)

/-- Units of the output (R192, R193). -/
def outUnits (p : Pass) : Nat :=
  match p.mode with
  | 1 => p.lines * lineUnits p p.ofmt
  | 2 => 2 * tileRowUnits p
  | _ => 0

/-- A query line's elements from the query bytes (R185). -/
def queryLine (p : Pass) (q : List Byte) (l : Nat) : List Num × Flags :=
  let w := fmtWidth p.qfmt
  let row := q.drop (32 * l * lineUnits p p.qfmt)
  let sc := q.drop (32 * p.lines * lineUnits p p.qfmt + l * (p.dim / 32))
  let r := (List.range p.dim).map fun d =>
    let x := elemN p.qfmt (elemAt w row d)
    if isBlockFmt p.qfmt then scaled x (fld sc (d / 32) 1) else (x, 0)
  (r.map (·.1), r.foldl (fun f x => f ||| x.2) 0)

/-- A field value that R186 leaves undefined, R185 or R187 broken, or entries of the length table that
overlap (R189, R194). DEDUCED (assumption log 63). -/
def passBad (s : State) (crew : Nat) (p : Pass) : Bool :=
  let ls := (List.range p.lencnt).map fun i => parseLen (rdU s crew (p.lentab + 16 * i) 16)
  let covered := ls.flatMap fun e => span e.line0 (e.line0 + e.n)
  p.mode = 3 || !(p.qfmt = 1 || p.qfmt = 3 || p.qfmt = 4)
    || !(p.kvfmt = 3 || p.kvfmt = 4 || p.kvfmt = 5) || !(p.ofmt = 0 || p.ofmt = 1 || p.ofmt = 2)
    || p.lines % p.gq != 0 || 32 < p.lencnt || (p.lencnt != 0 && p.lentab % 16 != 0)
    || (p.list && (p.lcount = 0 || 4096 < p.lcount || p.listAddr % 16 != 0))
    || covered.eraseDups.length != covered.length

/-- A scratch range of a pass lies outside the oar's usable units (R194, R198): its query lines, its records,
or its output where its mode has one. -/
def passOver (s : State) (p : Pass) : Bool :=
  let top := scratchUnits s
  top < p.qunit + queryUnits p || top < p.aunit + p.lines * accUnits p
    || (outUnits p != 0 && top < p.ounit + outUnits p)

/-- What a line sees: row position, stream, and a bound of its entry; none for an uncovered line
(R187 to R189). -/
def lineOf (s : State) (crew : Nat) (p : Pass) (l : Nat) : Option (Nat × Nat × Option Nat) :=
  if p.lencnt = 0 then some (p.qpos + l / p.gq, p.stream, none)
  else
    let ls := (List.range p.lencnt).map fun i => parseLen (rdU s crew (p.lentab + 16 * i) 16)
    match ls.find? fun e => e.line0 ≤ l && l < e.line0 + e.n with
    | some e => some (e.qpos + (l - e.line0) / p.gq, e.stream, some e.kvlen)
    | none => none

/-- A stream of a crew. -/
def streamGet (s : State) (crew n : Nat) : Option StreamE :=
  match mget s.host.streams n with
  | some e => if e.crew = crew then some e else none
  | none => none

/-- Token j of a slice is visible to a line (R188). -/
def visible (s : State) (crew : Nat) (p : Pass) (r : SliceRef) (l j : Nat) : Bool :=
  match lineOf s crew p l with
  | none => false
  | some (pos, stream, kvlen) =>
    let t := r.base + j
    p.kvfirst ≤ t && t ≤ p.kvlast
      && (match r.stream with
        | some n => n = stream && t < ((streamGet s crew n).map (·.pos)).getD 0
        | none => j < r.ntok)
      && (!p.causal || t ≤ pos)
      && (match kvlen with
        | some k => t < k
        | none => true)

/-- Some token of a slice is visible to some line (R190). -/
def sliceSeen (s : State) (crew : Nat) (p : Pass) (r : SliceRef) : Bool :=
  (List.range p.lines).any fun l => (List.range 256).any fun j => visible s crew p r l j

/-- Pairs of a group of tokens and a line with a visible token (R190). -/
def slicePairs (s : State) (crew : Nat) (p : Pass) (r : SliceRef) : Nat :=
  let g := (if p.kvfmt = 5 then 8 else 4) * (if p.dim = 64 then 2 else 1)
  (List.range p.lines).foldl (fun n l =>
    n + ((List.range (256 / g)).filter fun k =>
      (List.range g).any fun i => visible s crew p r l (k * g + i)).length) 0

/-- The score of a line and a key row: SCALE × exact dot, rounded once to FP32 (R191). -/
def scoreOf (scale : Num) (q k : List Num) : Word × Flags :=
  let d := dotN (q.zip k)
  let m := mulN scale d.1
  r32 (m.1, d.2 ||| m.2)

/-- Add one token to a record (S, A): the exponential and the weighted values (R191). -/
def accToken (rec : List Word) (score : Word) (v : List Num) : List Word × Flags :=
  let e := expw (v32 score)
  let x := decodeF twill32 e.1
  match rec with
  | [] => ([], 0)
  | sum :: a =>
    let t := rTwAdd (addN (vtw sum) x)
    let r := (a.zip v).map fun p => rTwAdd (fmaN x p.2 (vtw p.1))
    (t.1 :: r.map (·.1), r.foldl (fun f y => f ||| y.2) (e.2 ||| t.2))

/-- Run one line over a slice (R191). -/
def lineSlice (s : State) (crew : Nat) (p : Pass) (q : List Byte) (r : SliceRef) (b : List Byte)
    (l : Nat) (rec : List Word) : List Word × Flags :=
  let ql := queryLine p q l
  (List.range 256).foldl (fun acc j =>
    if visible s crew p r l j then
      let k := kvRow p b false j
      let v := kvRow p b true j
      let sc := scoreOf (decodeF fp32 p.scale) ql.1 k.1
      let t := accToken acc.1 sc.1 v.1
      (t.1, acc.2 ||| ql.2 ||| k.2 ||| v.2 ||| sc.2 ||| t.2)
    else acc) (rec, 0)

/-- The records of a pass's lines. -/
def recOf (p : Pass) (acc : List Word) (l : Nat) : List Word :=
  (acc.drop (l * (p.dim + 1))).take (p.dim + 1)

/-- A pass is to walk, or runs on, the bolts of a stream. -/
def usesStream (s : State) (x : AttnList) (n : Nat) : Bool :=
  let p := parsePass (rdU s x.crew (x.addr + 64 * x.index) 64)
  x.started && !p.list &&
    ((p.lencnt = 0 && p.stream = n) || (List.range p.lencnt).any fun i =>
      (parseLen (rdU s x.crew (p.lentab + 16 * i) 16)).stream = n)

/-- A pass of a stream runs (R288). -/
def streamBusy (s : State) (crew n : Nat) : Bool :=
  s.att.lists.any fun e => e.2.crew = crew && usesStream s e.2 n

/-- A closed stream's entry becomes invalid when its last pass has ended (R288). DEDUCED
(assumption log 76). -/
def closeStreams (s : State) : State :=
  s.host.streams.foldl (fun s e =>
    match e.2.closing with
    | some i =>
      if streamBusy s e.2.crew e.1 then s
      else endCmd { s with host := { s.host with streams := mdel s.host.streams e.1 } } i cOK
    | none => s) s

/-- The four node reads of a bolt (R214, R216): its address, or a code and an address. -/
def walkFrom (s : State) (die crew bolt : Nat) : List Nat → Nat → Nat ⊕ (Nat × Nat)
  | [], a => .inl a
  | lo :: r, a =>
    let at_ := a + 8 * bits bolt (lo + 7) lo
    let code := dieCode s die crew at_ 8
    let e := leNat (rdU s crew at_ 8)
    if code != cOK then .inr (code, at_)
    else if !bit e 0 then .inr (cMISSING, at_)
    else walkFrom s die crew bolt r (e / 256 * 256)

/-- Walk a bolt of a stream, then check its head slice (R214, R216). -/
def walkBolt (s : State) (die crew stream bolt head size : Nat) : Nat ⊕ (Nat × Nat) :=
  match streamGet s crew stream with
  | none => .inr (cRANGE, 0)
  | some e =>
    match walkFrom s die crew bolt [24, 16, 8, 0] e.root with
    | .inr x => .inr x
    | .inl a =>
      let code := dieCode s die crew (a + head * size) size
      if code != cOK then .inr (code, a + head * size) else .inl a

/-- The streams that the lines of a pass name. -/
def passStreams (s : State) (crew : Nat) (p : Pass) : List Nat :=
  ((List.range p.lines).filterMap fun l => (lineOf s crew p l).map (·.2.1)).eraseDups

/-- The bolts of a stream that overlap the key range of a pass: the first, the end of those that hold
a token below the position counter, and the end of all (R189, R190). -/
def boltRange (s : State) (crew : Nat) (p : Pass) (n : Nat) : Nat × Nat × Nat :=
  let pos := ((streamGet s crew n).map (·.pos)).getD 0
  (p.kvfirst / 256, (min (p.kvlast + 1) pos + 255) / 256, (p.kvlast + 256) / 256)

/-- The bolts of a pass, in order: those of its streams that overlap its key range and hold a token
below the position counter (R189, R190). -/
def passBolts (s : State) (crew : Nat) (p : Pass) : List Nat :=
  (passStreams s crew p).flatMap fun n =>
    let r := boltRange s crew p n
    (span r.1 r.2.1).map fun b => n * 2 ^ 32 + b

/-- The bolts in the key range of a pass that lie wholly beyond their stream's position counter: no
token of them is visible, so they are skipped (R190). -/
def boltsBeyond (s : State) (crew : Nat) (p : Pass) : Nat :=
  (passStreams s crew p).foldl (fun c n =>
    let r := boltRange s crew p n
    c + (r.2.2 - max r.1 r.2.1)) 0

/-- The slice of a walked bolt. -/
def boltSlice (p : Pass) (key a : Nat) : SliceRef :=
  ⟨a + p.kvhead * sliceBytes p, 256 * (key % 2 ^ 32), 256, some (key / 2 ^ 32)⟩

/-- Count skipped slices of a die (R190, R202). -/
def countSkips (s : State) (die n : Nat) : State := bumpBy s .attn 0 (0x108 + 0x10 * die) n

end Sys2Proof.Machine
end

