-- ==== Sys2Proof/Machine/Attn.lean ====
section
/-!
DEFINITION. Attention commands (chapter 09): a command's start (R186, R285), passes (R186 to R194),
walks and the look-aside buffers (R215 to R217).
-/
namespace Sys2Proof.Machine
open Sys2Proof

/-- A command's list on a shell's pipeline. -/
def attnGet (s : State) (k : Nat) : Option AttnList := mget s.att.lists k

/-- Set a list. -/
def attnSet (s : State) (k : Nat) (l : AttnList) : State :=
  { s with att := { s.att with lists := mset s.att.lists k l } }

/-- A list ends, and its command with a code (R194), NOT_RESIDENT counted (R220); closed streams may become invalid (R288). -/
def attnEnd (s : State) (k : Nat) (l : AttnList) (code addr : Nat) : State :=
  let s := { s with att := { s.att with lists := mdel s.att.lists k } }
  closeStreams (endCmd (countNotResident s code) l.slot code addr 0 l.flags)

/-- ATTN (R186, R285): a list of pass descriptors starts on a shell; it waits while the pipeline has
a list, another crew's program runs there, or the die is held quiet (R271, R295, R296). DEDUCED
(assumption log 63 and 69). -/
def execAttn (i : Nat) (s : State) : Out :=
  let key := fun (c : Slot) => shellKey (bits (fld c.cmd 16 1) 2 0) (fld c.cmd 17 1)
  let waits := fun (c : Slot) =>
    let x := shellGet s (key c)
    quietHeld s c.crew (key c / 256) || (attnGet s (key c)).isSome
      || (x.running && x.owner != some c.crew)
  if ((slotGet s i).map waits).getD false then .next s
  else opcode i 0x20 s fun c s =>
    let k := key c
    let a := fld c.cmd 24 8
    let n := fld c.cmd 32 2
    let code := nearCode s c.crew a (64 * n)
    if dieStopped s (k / 256) then endCmd s i 0x25
    else if code != cOK then endAt s i code a
    else if n = 0 then endCmd s i cOK
    else attnSet (takeShell s k c.crew) k
      { crew := c.crew, slot := i, addr := a, count := n, index := 0, started := false, qbuf := []
        acc := [], bolts := [], slices := [], tiles := 0, failed := none, flags := 0, other := none }

/-- The descriptor a list is at. -/
def attnDesc (s : State) (l : AttnList) : Pass := parsePass (rdU s l.crew (l.addr + 64 * l.index) 64)

/-- Look a bolt up in a shell's look-aside buffer; a hit becomes the most recently used (R215). -/
def labHit (s : State) (k crew key : Nat) : Option (Nat × State) :=
  let es := mgetD s.att.lab k []
  let mine := fun (e : LabEntry) => e.crew = crew && e.stream = key / 2 ^ 32 && e.bolt = key % 2 ^ 32
  match es.find? mine with
  | some e =>
    let es := e :: es.filter fun x => !mine x
    some (e.addr, { s with att := { s.att with lab := mset s.att.lab k es } })
  | none => none

/-- A walked bolt enters the look-aside buffer: 32 entries, least recently used replaced (R215). -/
def labFill (s : State) (k crew key a : Nat) : State :=
  let e : LabEntry := ⟨crew, key / 2 ^ 32, key % 2 ^ 32, a⟩
  { s with att := { s.att with lab := mset s.att.lab k ((e :: mgetD s.att.lab k []).take 32) } }

/-- The slice of a pass is fetched (R196): its lines of T2 go through the die's T1 cache, and its object has
a reader. -/
def fetchSlice (s : State) (k : Nat) (p : Pass) (l : AttnList) (r : SliceRef) : State :=
  let s := cacheLook s (k / 256) (rangeLines s l.crew r.addr (sliceBytes p))
  addReader s l.crew r.addr l.slot

/-- Take up the bolt b of a pass at its address a: its slice, or the failure of its object. -/
def takeBolt (k : Nat) (p : Pass) (s : State) (l : AttnList) (b a : Nat) : State × AttnList :=
  let r := boltSlice p b a
  let code := dieCode s (k / 256) l.crew r.addr (sliceBytes p)
  if code != cOK then (s, { l with bolts := [], failed := some (code, r.addr) })
  else (fetchSlice s k p l r, { l with bolts := l.bolts.tail, slices := l.slices ++ [r] })

/-- Take up the next bolts of a pass that the buffer holds, skipping those without a visible token;
stop at the first that needs a walk (R190, R215). A bolt looked up counts in LAB_HIT or LAB_MISS
(R220). DEDUCED (assumption log 84). -/
def takeBolts (k : Nat) (p : Pass) : Nat → State → AttnList → State × AttnList
  | 0, s, l => (s, l)
  | fuel + 1, s, l =>
    match l.bolts with
    | [] => (s, l)
    | b :: r =>
      if !sliceSeen s l.crew p (boltSlice p b 0) then
        takeBolts k p fuel (countSkips s (k / 256) 1) { l with bolts := r }
      else match labHit s k l.crew b with
        | none => (bump s .tier 0 0x51C, l)
        | some (a, s) =>
          let t := takeBolt k p (bump s .tier 0 0x518) l b a
          takeBolts k p fuel t.1 t.2

/-- The slices of a bolt list, in order, up to the first that cannot be read; those without a
visible token are skipped (R189, R190). -/
def listSlices (k : Nat) (p : Pass) (s : State) (l : AttnList) : State × AttnList :=
  (List.range p.lcount).foldl (fun (s, l) i =>
    let v := leNat (rdU s l.crew (p.listAddr + 16 * i) 16)
    let r : SliceRef := ⟨bits v 63 0, bits v 103 64, bits v 112 104, none⟩
    let code := dieCode s (k / 256) l.crew r.addr (sliceBytes p)
    if l.failed.isSome then (s, l)
    else if !sliceSeen s l.crew p r then (countSkips s (k / 256) 1, l)
    else if code != cOK then (s, { l with failed := some (code, r.addr) })
    else (fetchSlice s k p l r, { l with slices := l.slices ++ [r] })) (s, l)

/-- Streams that a pass names and that are invalid or another crew's (R288). -/
def passStreamBad (s : State) (crew : Nat) (p : Pass) : Bool :=
  !p.list && (List.range p.lines).any fun l =>
    match lineOf s crew p l with
    | some (_, n, _) => (streamGet s crew n).isNone
    | none => false

/-- Why a pass cannot start: a code and an address (R194, R204, R288). DEDUCED (assumption log 63). -/
def passFault (s : State) (die : Nat) (crew : Nat) (p : Pass) : Option (Nat × Nat) :=
  let lists := max
    (if p.list then dieCode s die crew p.listAddr (16 * p.lcount) else cOK)
    (if p.lencnt = 0 then cOK else dieCode s die crew p.lentab (16 * p.lencnt))
  if passBad s crew p || passOver s p then some (cCONFIG, 0)
  else if lists != cOK then some (lists, p.listAddr)
  else if passStreamBad s crew p then some (cRANGE, 0)
  else none

/-- Words of bytes. -/
def wordsOf32 (b : List Byte) : List Word := (chunks 4 b).map fun c => BitVec.ofNat 32 (leNat c)

/-- Load a pass buffer from the scratch of the pass's oar (R182, R186): the query lines, and the records of
the lines that have work, or +0 (R189). -/
def passLoad (s : State) (k crew : Nat) (desc : List Byte) (p : Pass) : PassBuf :=
  let o := 8 * k + p.oar
  let recs := (List.range p.lines).flatMap fun i =>
    if (p.init && p.mode != 2) || (lineOf s crew p i).isNone then List.replicate (p.dim + 1) 0
    else (wordsOf32 (rdScratch s o ((p.aunit + i * accUnits p : Nat) : Int) (accUnits p))).take (p.dim + 1)
  ⟨desc, rdScratch s o ((p.qunit : Nat) : Int) (queryUnits p), recs⟩

/-- Two ranges of units meet. -/
def unitsMeet (a n b m : Nat) : Bool := decide (0 < n) && decide (0 < m) && a < b + m && b < a + n

/-- A pass may be loaded while another one runs: it reads no unit that the running pass will store.
DEDUCED (assumption log 95). -/
def loadsAhead (run next : Pass) : Bool :=
  run.oar != next.oar ||
    [(run.aunit, run.lines * accUnits run), (run.ounit, outUnits run)].all fun w =>
      !(unitsMeet w.1 w.2 next.qunit (queryUnits next)
        || unitsMeet w.1 w.2 next.aunit (next.lines * accUnits next))

/-- The bytes of a descriptor of a list. -/
def attnBytes (s : State) (l : AttnList) (i : Nat) : List Byte := rdU s l.crew (l.addr + 64 * i) 64

/-- The other pass buffer is loaded with the next descriptor of a list whose pass runs (R182). -/
def passAhead (s : State) (k : Nat) (l : AttnList) : State :=
  let b := attnBytes s l (l.index + 1)
  let p := parsePass b
  if l.other.isSome || l.count ≤ l.index + 1 || (passFault s (k / 256) l.crew p).isSome
      || !loadsAhead (attnDesc s l) p then s
  else attnSet s k { l with other := some (passLoad s k l.crew b p) }

/-- A pass begins in a pass buffer: the one loaded ahead for its descriptor, or one loaded now (R182), and
the slices are taken up as far as no walk is needed. -/
def passRun (s : State) (k : Nat) (l : AttnList) (p : Pass) : State :=
  let die := k / 256
  let b := attnBytes s l l.index
  let buf := match l.other with
    | some x => if x.desc = b then x else passLoad s k l.crew b p
    | none => passLoad s k l.crew b p
  let l := { l with
    started := true, qbuf := buf.query, acc := buf.recs, other := none
    bolts := if p.list then [] else passBolts s l.crew p, slices := [], tiles := 0, failed := none }
  let s := bump s .attn 0 (0x100 + 0x10 * die)
  let s := if p.list then s else countSkips s die (boltsBeyond s l.crew p)
  let (s, l) := if p.list then listSlices k p s l else takeBolts k p (l.bolts.length + 1) s l
  attnSet s k l

/-- PASS_START (R182, R186 to R190, R194): the descriptor is checked and the pass begins; while one runs,
the next one's buffer is loaded. A scratch range outside the oar's usable units is recorded as
SCRATCH_OVF. DEDUCED (assumption log 63 and 95). -/
def execPassStart (die shell : Nat) (s : State) : Out :=
  fab s fun s =>
    let k := shellKey die shell
    match attnGet s k with
    | none => s
    | some l =>
      let p := attnDesc s l
      if dieStopped s die || resetting s l.crew then s
      else if l.started then passAhead s k l
      else match passFault s die l.crew p with
        | some (code, addr) =>
          let s := if !passBad s l.crew p && passOver s p then recordErr s .attn 0 0x30 k l.crew else s
          attnEnd s k l code addr
        | none => passRun s k l p

/-- WALK_COMPLETE (R214 to R216): the walker has read the nodes of the bolt the pass waits for; the
walk counts in WALKS (R220). -/
def execWalkComplete (die shell bolt : Nat) (s : State) : Out :=
  fab s fun s =>
    let k := shellKey die shell
    match attnGet s k with
    | none => s
    | some l =>
      let p := attnDesc s l
      match l.bolts with
      | [] => s
      | b :: _ =>
        if !l.started || b % 2 ^ 32 != bolt || dieStopped s die || resetting s l.crew then s
        else
          let s := bump s .tier 0 0x514
          match walkBolt s die l.crew (b / 2 ^ 32) bolt p.kvhead (sliceBytes p) with
          | .inr e => attnSet s k { l with bolts := [], failed := some e }
          | .inl a =>
            let t := takeBolt k p (labFill s k l.crew b a) l b a
            let t := takeBolts k p (l.bolts.length + 1) t.1 t.2
            attnSet t.1 k t.2

/-- Run the known slices of a pass over one line's record (R191). -/
def runLine (s : State) (p : Pass) (l : AttnList) (i : Nat) : List Word × Flags :=
  l.slices.foldl (fun acc r =>
    let t := lineSlice s l.crew p l.qbuf r (rdU s l.crew r.addr (sliceBytes p)) i acc.1
    (t.1, acc.2 ||| t.2)) (recOf p l.acc i, 0)

/-- The output of a line and its record with the row statistic (R192). -/
def finalLine (p : Pass) (rec : List Word) : List Byte × List Word × Flags :=
  match rec, ffmt p.ofmt with
  | sum :: a, some f =>
    let q := a.map fun x =>
      let d := divN (vtw x) (vtw sum)
      let r := rne f d.1
      (r.1, d.2 ||| r.2)
    let st := lnwF 19 (vtw sum)
    (packElems (fmtWidth p.ofmt) (q.map (·.1)), BitVec.ofNat 32 st.1 :: a,
      q.foldl (fun g x => g ||| x.2) st.2)
  | _, _ => ([], rec, 0)

/-- Store the results of a line (R186, R192). -/
def storeLine (s : State) (o : Nat) (p : Pass) (i : Nat) (rec : List Word) (out : List Byte) : State :=
  let b := slice (rec.flatMap fun w => toLE w.toNat 4) 0 (32 * accUnits p)
  let s := wrScratch s o ((p.aunit + i * accUnits p : Nat) : Int) b
  if out.isEmpty then s else wrScratch s o ((p.ounit + i * lineUnits p p.ofmt : Nat) : Int) out

/-- PASS_COMPLETE (R190 to R194): sums final; in FINAL mode outputs and row statistics written; the
next descriptor, or the command's end. A failed walk ends the command with the sums before it.
DEDUCED (assumption log 63). -/
def execPassComplete (die shell : Nat) (s : State) : Out :=
  fab s fun s =>
    let k := shellKey die shell
    match attnGet s k with
    | none => s
    | some l =>
      let p := attnDesc s l
      let o := 8 * k + p.oar
      let ok := l.failed.isNone
      if !l.started || !l.bolts.isEmpty || (p.mode = 2 && ok && l.tiles < l.slices.length)
          || dieStopped s die then s
      else
        let lines := (List.range p.lines).filter fun i => (lineOf s l.crew p i).isSome
        let (s, f) := if p.mode = 2 then (s, 0) else lines.foldl (fun (acc : State × Flags) i =>
          let r := runLine s p l i
          if p.mode = 1 && ok then
            let q := finalLine p r.1
            (storeLine acc.1 o p i q.2.1 q.1, acc.2 ||| r.2 ||| q.2.2)
          else (storeLine acc.1 o p i r.1 [], acc.2 ||| r.2)) (s, 0)
        let pairs := mgetD s.att.pairs die 0 + l.slices.foldl (fun n r => n + slicePairs s l.crew p r) 0
        let s := bumpBy s .attn 0 (0x104 + 0x10 * die) (pairs / 1024)
        let s := { s with att := { s.att with pairs := mset s.att.pairs die (pairs % 1024) } }
        let l := { l with flags := l.flags ||| f }
        match l.failed with
        | some (code, a) => attnEnd s k l code a
        | none =>
          if l.index + 1 < l.count then
            closeStreams (attnSet s k { l with index := l.index + 1, started := false, qbuf := [], acc := []
                                               slices := [], tiles := 0 })
          else attnEnd s k l cOK 0

/-- One probability of a backward pass (R193). -/
def probOf (s : State) (p : Pass) (l : AttnList) (r : SliceRef) (b : List Byte) (i j : Nat) :
    Nat × Flags :=
  match ffmt p.ofmt with
  | some f =>
    if visible s l.crew p r i j then
      let q := queryLine p l.qbuf i
      let kk := kvRow p b false j
      let sc := scoreOf (decodeF fp32 p.scale) q.1 kk.1
      let stat := (recOf p l.acc i).headD 0
      let d := r32 (addN (v32 sc.1) (v32 stat).negate)
      let e := expF f (v32 d.1)
      (e.1, q.2 ||| kk.2 ||| sc.2 ||| d.2 ||| e.2)
    else (0, 0)
  | none => (0, 0)

/-- PROBABILITY_TILE_WRITE (R193): once IQ3 of the pass's oar has given up the entry before, the next
tile is written and its base position signalled there. -/
def execProbabilityTileWrite (die shell : Nat) (s : State) : Out :=
  fab s fun s =>
    let k := shellKey die shell
    match attnGet s k with
    | none => s
    | some l =>
      let p := attnDesc s l
      let o := 8 * k + p.oar
      let q := 4 * o + 3
      let taken := ((mget s.grid.oars o).map fun x => decide ((x.iq.getD 3 []).isEmpty)).getD false
      match l.slices[l.tiles]? with
      | none => s
      | some r =>
        if !l.started || p.mode != 2 || !taken || credsFor s q = 0 || dieStopped s die
            || resetting s l.crew then s
        else
          let b := rdU s l.crew r.addr (sliceBytes p)
          let w := fmtWidth p.ofmt
          let base := p.ounit + l.tiles % 2 * tileRowUnits p
          let cells := (List.range p.lines).flatMap fun i => (List.range 256).map fun j => (i, j)
          let (s, f) := cells.foldl (fun (acc : State × Flags) c =>
            let v := probOf s p l r b c.1 c.2
            let (off, sh) := panelAt w 256 c.1 c.2
            let a := o * 131072 + 32 * base + off + sh / 8
            let g := acc.1.grid
            ({ acc.1 with grid := { g with scratch := wrBytes g.scratch a (toLE v.1 (w / 8)) } },
              acc.2 ||| v.2)) (s, 0)
          let s := attnSet s k { l with tiles := l.tiles + 1, flags := l.flags ||| f }
          arrive (useCredits s [q]) q (some (slice (toLE r.base 5) 0 32))

/-- BOLT_INVAL (R217, R288): matching entries leave every look-aside buffer. -/
def execBoltInval (i : Nat) (s : State) : Out :=
  opcode i 0x36 s fun c s =>
    let n := fld c.cmd 16 2
    let first := fld c.cmd 24 8
    let count := fld c.cmd 32 8
    if (streamGet s c.crew n).isNone then endCmd s i cRANGE
    else
      let keep := fun (e : LabEntry) =>
        !(e.crew = c.crew && e.stream = n && first ≤ e.bolt && e.bolt < first + count)
      let cut := fun (_ : Nat) (es : List LabEntry) => es.filter keep
      endCmd { s with att := { s.att with lab := mmapv s.att.lab cut } } i cOK

end Sys2Proof.Machine
end

