-- ==== Sys2Proof/Machine/Coll.lean ====
section
/-!
DEFINITION. Groups and collectives (chapter 13): group writes (R258), the operations and their
waves (R264 to R266, R271, R273), packets (R267, R268), aborts and timeouts (R269, R270).
-/
namespace Sys2Proof.Machine
open Sys2Proof

/-- GROUP_WRITE: the first case of R258 that a command breaks, or 0. DEDUCED (assumption log 83). -/
def groupReason (s : State) (crew idx : Nat) (inval : Bool) (ms : List Nat) : Nat :=
  let base := rf s .crew 0 (0x104 + 16 * crew) 11 0
  let count := rf s .crew 0 (0x104 + 16 * crew) 28 16
  let inUse := (List.range 64).any fun n =>
    let c := futureReg s (regOff .sprint 0 (0x100 + 16 * n))
    bit c 0 && bits c 14 3 = idx && (inval ||
      bits c 17 15 != max (treeDepth s ms false) (treeDepth s ms true))
  if !inval && !(ms.contains (ownDev s)) then 1
  else if !inval && ms.eraseDups.length != ms.length then 2
  else if !inval && ms.any (planeCount s ≤ ·) then 3
  else if idx < base || base + count ≤ idx then 4
  else if inUse then 5
  else 0

/-- GROUP_WRITE (R258, R259): refused with its reason, late, or a shadow entry for its target heat. -/
def execGroupWrite (i : Nat) (s : State) : Out :=
  opcode i 0x41 s fun c s =>
    let idx := bits (fld c.cmd 16 2) 11 0
    let inval := bit (fld c.cmd 20 1) 1
    let n := bits (fld c.cmd 22 2) 10 0 + 1
    let list := fld c.cmd 24 8
    let heat := fld c.cmd 32 8
    let code := if inval then cOK else nearCode s c.crew list (2 * n)
    let ms := if inval then [] else (chunks 2 (rdU s c.crew list (2 * n))).map leNat
    let reason := groupReason s c.crew idx inval ms
    if code != cOK then endAt s i code list
    else if reason != 0 then
      endCmd (rset s .coll 0 0x048 (reason + 16 * idx)) i cCONFIG reason
    else if heat ≤ s.heat.num then endCmd s i cLATE
    else
      let e : Option Group := if inval then none
        else some { fast := bit (fld c.cmd 20 1) 0, crew := c.crew, epoch := fld c.cmd 18 2
                    members := ms, seq := 0 }
      endCmd { s with coll := { s.coll with shadow := mset s.coll.shadow idx ⟨heat, e⟩ } } i cOK

/-- Operands of a collective command (R285). -/
def cGroup (c : Slot) : Nat := bits (fld c.cmd 16 2) 11 0
def cOp (c : Slot) : Nat := bits (fld c.cmd 18 1) 3 0
def cFmt (c : Slot) : Nat := bits (fld c.cmd 18 1) 7 4
def cSrc (c : Slot) : Nat := fld c.cmd 24 8
def cDst (c : Slot) : Nat := fld c.cmd 32 8
def cLen (c : Slot) : Nat := if cOp c = 3 then 0 else fld c.cmd 40 4
def cCap (c : Slot) : Nat := fld c.cmd 44 4
def cScnt (c : Slot) : Nat := fld c.cmd 48 8
def cRcnt (c : Slot) : Nat := fld c.cmd 56 8

/-- A collective's instance by group and SEQ, or by slot. -/
def instOf (s : State) (g seq : Nat) : Option Coll :=
  s.coll.insts.find? fun x => x.group = g && x.seq = seq
def instSlot (s : State) (i : Nat) : Option Coll := s.coll.insts.find? fun x => x.slot = i

/-- Change a collective's instance. -/
def collMod (s : State) (i : Nat) (f : Coll → Coll) : State :=
  { s with coll := { s.coll with insts := s.coll.insts.map fun x => if x.slot = i then f x else x } }

/-- The packet command of an operation (R223, R264, R273). -/
def collCmd (op : Nat) (fast : Bool) : Nat := if fast then 0x10 else if op < 4 then 0x11 else 0x12

/-- A packet of an instance. -/
def instPkt (s : State) (x : Coll) (gr : Group) (fmt : Nat) (dest : Nat) (weft : Bool) (phase : Nat)
    (last : Bool) (off : Nat) (flags : Flags) (data : List Byte) : HPkt :=
  groupPkt s x.group gr (collCmd x.op x.fast) dest s.heat.num
    (groupAddr gr weft x.fast phase last x.op fmt) (x.seq + 2 ^ 16 * off) flags data

/-- What an ABORT carries of its collective (R267, R269): the packet command, OP, FMT and SEQ. -/
structure AbortOf where
  cmd : Nat
  op : Nat
  fmt : Nat
  seq : Nat

/-- An ABORT of a SEQ with its reason (R269). -/
def abortPkt (s : State) (g : Nat) (gr : Group) (a : AbortOf) (reason dest : Nat) (weft : Bool) : HPkt :=
  groupPkt s g gr a.cmd dest s.heat.num (groupAddr gr weft (a.cmd = 0x10) 3 false a.op a.fmt)
    (a.seq + 2 ^ 8 * reason) 0 []

/-- The collective that a packet belongs to. -/
def abortOfPkt (p : HPkt) : AbortOf := ⟨p.cmd, bits p.addr 59 56, bits p.addr 63 60, p.arg % 256⟩

/-- The collective of an instance. -/
def abortOfInst (s : State) (x : Coll) : AbortOf :=
  let fmt := match x.owed, slotGet s x.slot with
    | some o, _ => o.2.2.2
    | none, some c => cFmt c
    | none, none => 0
  ⟨collCmd x.op x.fast, x.op, fmt, x.seq⟩

/-- The instance is gone from this device with its nodes and buffers. -/
def collDrop (s : State) (x : Coll) : State :=
  let nodes := s.sprint.nodes.filter fun n => n.sprint || n.group != x.group || n.tag != x.seq
  let asm := mfilter s.coll.asm fun k _ => k / 8192 != x.seq * 4096 + x.group || bit k 12
  { s with
    sprint := { s.sprint with nodes := nodes }
    coll := { s.coll with insts := s.coll.insts.filter (fun y => y.slot != x.slot), asm := asm } }

/-- Status codes of the abort reasons (R290). -/
def reasonCode (r : Nat) : Nat := [0x28, 0x28, 0x29, 0x2A, 0x2B, 0x21].getD r 0x28

/-- An instance ends with an error: its command, unless it has ended, carries the reason, and later
packets of its SEQ are orphans (R269). -/
def collFail (s : State) (x : Coll) (code reason : Nat) : State :=
  let s := if x.owed.isSome then collDrop s x
    else bumpC (endCmd (collDrop s x) x.slot code reason) .coll 0 2
  { s with coll := { s.coll with aborted := mset s.coll.aborted (x.group * 256 + x.seq) reason } }

/-- ABORT goes down both trees from the root, else to the root (R269). DEDUCED (assumption log
62). -/
def abortSend (s : State) (g : Nat) (gr : Group) (a : AbortOf) (reason : Nat) : State :=
  if isRoot s gr then
    [false, true].foldl (fun s w =>
      sendAll s (kidDevs s gr w) fun d => abortPkt s g gr a reason d w) s
  else sendH s (abortPkt s g gr a reason (member gr 0) false)

/-- A member ends a collective with an error of its own and tells the root (R269). -/
def collError (s : State) (x : Coll) (code reason : Nat) : State :=
  let a := abortOfInst s x
  let s := collFail s x code reason
  match groupGet s x.group with
  | some gr => abortSend s x.group gr a reason
  | none => s

/-- A source or destination access of a collective fails (R269 reason 5). DEDUCED (assumption log
62). -/
def collAccess (s : State) (x : Coll) (code : Nat) : State :=
  collError (countNotResident s code) x code 5

/-- A collective completes on this device. -/
def collDone (s : State) (x : Coll) (detail result : Nat) (code : Nat) : State :=
  bumpC (endCmd (collDrop s x) x.slot code detail result) .coll 0 1

/-- The operations that run READY and GO before their data (R265, R273). -/
def usesReady (x : Coll) : Bool := x.op != 7 && (!x.fast || x.op = 2 || x.op = 3)
def usesGo (x : Coll) : Bool := (x.op < 2 && !x.fast) || (4 ≤ x.op && x.op ≤ 6)

/-- Write into a destination; a failing access aborts (R269). -/
def collStore (s : State) (x : Coll) (c : Slot) (a : Nat) (b : List Byte) : State :=
  if b.isEmpty then s
  else
    let code := nearStore s c.crew a b.length
    if code != cOK then collAccess s x code
    else invalidate (wrU s c.crew a b) c.crew a b.length

/-- A vector's half of a tree (R262): offset and length. -/
def half (c : Slot) (weft : Bool) : Nat × Nat :=
  let h := warpLen (cLen c)
  if weft then (h, cLen c - h) else (0, h)

/-- The down wave of a tree from here: the half's data, or FIN where there is none (R265). -/
def sendDown (s : State) (x : Coll) (c : Slot) (gr : Group) (weft : Bool) (b : List Byte)
    (flags : Flags) : State :=
  let ds := kidDevs s gr weft
  if b.isEmpty then sendAll s ds fun d => instPkt s x gr (cFmt c) d weft 2 false 0 flags []
  else sendVec s ds b fun d last off piece => instPkt s x gr (cFmt c) d weft 0 last off
    (if last then flags else 0) piece

/-- The down wave of a tree has ended here; with both the member completes (R265). -/
def downEnd (s : State) (i : Nat) (weft : Bool) : State :=
  let s := collMod s i fun x => { x with done := (weft :: x.done).eraseDups }
  match instSlot s i with
  | some x => if x.done.length = 2 then collDone s x 0 0 cOK else s
  | none => s

/-- Bytes of a block that a sender's count allows in an exchange: B, C under XCHG_PAD. -/
def blockLen (c : Slot) (count : Nat) : Nat :=
  match cOp c with
  | 5 => count
  | 6 => min count (cCap c)
  | _ => cLen c

/-- The entry of SCNT for a member (R264). -/
def scnt (s : State) (c : Slot) (j : Nat) : Nat := leNat (rdU s c.crew (cScnt c + 8 * j) 8)

/-- Block j of SRC: at j × B. DEDUCED (assumption log 15). -/
def srcBlock (s : State) (c : Slot) (j : Nat) : Nat × Nat :=
  (cSrc c + j * cLen c, blockLen c (if cOp c = 5 || cOp c = 6 then scnt s c j else 0))

/-- Send a block to a member (R266). -/
def sendBlock (s : State) (x : Coll) (gr : Group) (crew fmt j a n : Nat) : State :=
  sendVec s [member gr j] (rdU s crew a n) fun d last off piece =>
    instPkt s x gr fmt d false 0 last off 0 piece

/-- Send blocks to the other members from (self + 1) on (R266). -/
def sendBlocks (s : State) (x : Coll) (c : Slot) (gr : Group) (dests : List Nat) : State :=
  dests.foldl (fun s j =>
    let (a, n) := srcBlock s c j
    sendBlock s x gr c.crew (cFmt c) j a n) s

/-- The other members in sending order (R266). -/
def others (s : State) (gr : Group) : List Nat :=
  let n := gr.members.length
  (span 1 n).map fun k => (selfIdx s gr + k) % n

/-- Where member i's block lies in DST (R266). -/
def dstBlock (x : Coll) (c : Slot) (i : Nat) : Nat :=
  match x.op with
  | 4 => cDst c + i * cLen c
  | 6 => cDst c + i * cCap c
  | _ => cDst c

/-- A block from member i is whole: padded with zeros under XCHG_PAD (R266). -/
def blockWhole (s : State) (x : Coll) (c : Slot) (i : Nat) : State :=
  let n := mgetD x.counts i 0
  let s := if x.op = 6 then
      collStore s x c (dstBlock x c i + n) (List.replicate (cCap c - n) 0) else s
  collMod s x.slot fun y => { y with last := (i :: y.last).eraseDups }

/-- A ROTATE ends once the whole block has arrived in DST (R266, R271); a block that the next member has
not asked for yet is still owed. DEDUCED (assumption log 62). -/
def rotateEnd (s : State) (x : Coll) (c : Slot) : State :=
  if x.last.isEmpty then s
  else
    let rest : Coll := { x with slot := 4096 + x.group, owed := some (c.crew, cSrc c, cLen c, cFmt c) }
    let s := collDone s x 0 0 cOK
    if x.began then s else { s with coll := { s.coll with insts := s.coll.insts ++ [rest] } }

/-- An exchange ends once every member's block has come: XCHG_COUNTS stores the blocks one behind
the other only now, so that no DST is written where a member aborts; RCNT takes the counts of an
XCHG_PAD (R266). DEDUCED (assumption log 62). -/
def xchgEnd (s : State) (i : Nat) : State :=
  match instSlot s i, slotGet s i with
  | some x, some c =>
    match groupGet s x.group with
    | none => s
    | some gr =>
      let n := gr.members.length
      if x.op = 7 then rotateEnd s x c
      else if !x.began || x.last.length < n then s
      else
        let count := fun j => mgetD x.counts j 0
        let s := if x.op = 5 then collStore s x c (cDst c)
            ((List.range n).flatMap fun j => slice (mgetD x.recv j []) 0 (count j)) else s
        let s := if (instSlot s i).isSome && x.op = 6 then
            collStore s x c (cRcnt c) ((List.range n).flatMap fun j => toLE (count j) 8) else s
        let total := if x.op = 5 || x.op = 6 then
            (List.range n).foldl (fun t j => t + count j) 0 else 0
        if (instSlot s i).isSome then
          collDone s x 0 total (if x.dropped then cPAD else cOK)
        else s
  | _, _ => s

/-- Take a block's piece from member j: stored at once, or held under XCHG_COUNTS. -/
def takePiece (s : State) (x : Coll) (c : Slot) (j off : Nat) (b : List Byte) : State :=
  if x.op = 5 then
    collMod s x.slot fun y => { y with recv := mset y.recv j (mgetD y.recv j [] ++ b) }
  else
    let room := (if x.op = 6 then cCap c else cLen c) - 32 * off
    let b := b.take room
    let s := collStore s x c (dstBlock x c j + 32 * off) b
    collMod s x.slot fun y => { y with counts := mset y.counts j (32 * off + b.length) }

/-- The own block is copied locally (R266). -/
def ownBlock (s : State) (x : Coll) (c : Slot) (self : Nat) : State :=
  let (a, n) := srcBlock s c self
  let s := takePiece s x c self 0 (rdU s c.crew a n)
  match instSlot s x.slot with
  | some x => blockWhole s x c self
  | none => s

/-- The data step of an exchange (R266): XCHG_PAD drops what lies beyond C, in 32-byte units. -/
def xchgData (s : State) (x : Coll) (c : Slot) (gr : Group) : State :=
  let n := gr.members.length
  let self := selfIdx s gr
  let bad := (List.range n).foldl (fun code j =>
    let (a, k) := srcBlock s c j
    if code = cOK && k != 0 then nearCode s c.crew a k else code) cOK
  if bad != cOK then collAccess s x bad
  else
    let excess := if x.op != 6 then 0 else (List.range n).foldl (fun t j =>
      t + (scnt s c j - cCap c + 31) / 32) 0
    let s := bumpBy s .coll 0 0x118 excess
    let s := collMod s x.slot fun y => { y with began := true, dropped := 0 < excess }
    let s := sendBlocks s x c gr (others s gr)
    xchgEnd (ownBlock s { x with began := true } c self) x.slot

/-- XCHG_COUNTS: with every member's count here, overflow aborts before any data is sent; else the
counts are written to RCNT, and the data step begins (R266). -/
def countsCheck (s : State) (x : Coll) (c : Slot) (gr : Group) : State :=
  if x.op != 5 || x.began || x.counts.length < gr.members.length then s
  else if cCap c < x.counts.foldl (fun t e => t + e.2) 0 then collError s x 0x2B 4
  else
    let s := collStore s x c (cRcnt c)
      ((List.range gr.members.length).flatMap fun j => toLE (mgetD x.counts j 0) 8)
    if (instSlot s x.slot).isSome then xchgData s x c gr else s

/-- After GO an exchange begins: the counts, or the data at once (R266). -/
def xchgBegin (s : State) (x : Coll) (c : Slot) (gr : Group) : State :=
  let n := gr.members.length
  if x.op = 5 || x.op = 6 then
    let code := nearCode s c.crew (cScnt c) (8 * n)
    if code != cOK then collAccess s x code
    else if x.op = 6 then xchgData s x c gr
    else
      let s := (others s gr).foldl (fun s j =>
        sendH s (instPkt s x gr (cFmt c) (member gr j) false 0 false (scnt s c j) 0 [])) s
      let s := collMod s x.slot fun y =>
        { y with counts := mset y.counts (selfIdx s gr) (scnt s c (selfIdx s gr)) }
      match instSlot s x.slot with
      | some x => countsCheck s x c gr
      | none => s
  else xchgData s x c gr

/-- GO has come on a tree, or starts at the root: it goes on down, and behind both an exchange
begins (R265). -/
def goOn (s : State) (i : Nat) (weft : Bool) : State :=
  match instSlot s i, slotGet s i with
  | some x, some c =>
    match groupGet s x.group with
    | none => s
    | some gr =>
      let s := sendAll s (kidDevs s gr weft) fun d => instPkt s x gr (cFmt c) d weft 2 false 0 0 []
      let s := collMod s i fun y => { y with go := (weft :: y.go).eraseDups }
      match instSlot s i with
      | some x => if x.go.length = 2 && 4 ≤ x.op && !x.began then xchgBegin s x c gr else s
      | none => s
  | _, _ => s

/-- READY runs up: with every child's READY this member's goes up; at the root, GO starts where the
operation has one (R265). -/
def readyUp (s : State) (i : Nat) : State :=
  match instSlot s i, slotGet s i with
  | some x, some c =>
    match groupGet s x.group with
    | none => s
    | some gr =>
      if !usesReady x then s
      else
        let s := [false, true].foldl (fun s w =>
          if x.sentUp.contains w || !(kidDevs s gr w).all (fun d => x.ready.contains (d, w)) then s
          else
            let s := match parentDev s gr w with
              | some d => sendH s (instPkt s x gr (cFmt c) d w 1 false 0 0 [])
              | none => s
            collMod s i fun y => { y with sentUp := y.sentUp ++ [w] }) s
        match instSlot s i with
        | some x =>
          if isRoot s gr && x.sentUp.length = 2 && usesGo x && x.go.isEmpty then
            goOn (goOn s i false) i true
          else s
        | none => s
  | _, _ => s

/-- A phase 2 packet: GO where one is due on that tree, else FIN with the flags of the result (R138,
R265). -/
def phase2 (s : State) (x : Coll) (c : Slot) (gr : Group) (weft : Bool) (flags : Flags) : State :=
  if usesGo x && !x.go.contains weft then goOn s x.slot weft
  else
    let s := sendAll s (kidDevs s gr weft) fun d => instPkt s x gr (cFmt c) d weft 2 false 0 flags []
    downEnd (flagCmd s x.slot flags) x.slot weft

/-- Data from the parent (R265): written, handed down, and with LAST the end of the wave. -/
def downData (s : State) (x : Coll) (c : Slot) (gr : Group) (p : HPkt) : State :=
  let w := pktWeft p
  let off := p.arg / 65536
  let (h, n) := half c w
  let s := sendAll s (kidDevs s gr w) fun d =>
    instPkt s x gr (cFmt c) d w 0 (pktLast p) off (pktFlags p) p.data
  let s := collStore s x c (cDst c + h + 32 * off) (p.data.take (n - 32 * off))
  if (instSlot s x.slot).isSome && pktLast p then downEnd (flagCmd s x.slot (pktFlags p)) x.slot w
  else s

/-- Data from a child: assembled for the fold (R263). -/
def upData (s : State) (x : Coll) (c : Slot) (p : HPkt) : State :=
  let w := pktWeft p
  let k := treeBytes (cFmt c)
  let (s, whole) := assemble s (asmKey false x.group x.seq w p.src) p
  match whole with
  | some b => nodeMod s false x.group x.seq w
      (kidInput p.src (wordsOf k (b.take (half c w).2)) (pktFlags p))
  | none => s

/-- Data of an exchange from member j (R266). -/
def xchgPiece (s : State) (x : Coll) (c : Slot) (gr : Group) (p : HPkt) : State :=
  let j := gr.members.idxOf p.src
  let off := p.arg / 65536
  if x.op = 5 && p.data.isEmpty && !pktLast p then
    let s := collMod s x.slot fun y => { y with counts := mset y.counts j off }
    match instSlot s x.slot with
    | some x => countsCheck s x c gr
    | none => s
  else
    let s := takePiece s x c j off p.data
    match instSlot s x.slot with
    | some x => if pktLast p then xchgEnd (blockWhole s x c j) x.slot else s
    | none => s

/-- READY of a ROTATE comes from the next member: it gets the block (R266). -/
def rotateSend (s : State) (x : Coll) (gr : Group) (crew src len fmt : Nat) : State :=
  let code := if len = 0 then cOK else nearCode s crew src len
  if code != cOK then collAccess s x code
  else sendBlock s x gr crew fmt ((selfIdx s gr + 1) % gr.members.length) src len

/-- A packet of a running instance, or of a ROTATE that still owes its block. -/
def instArrive (s : State) (x : Coll) (gr : Group) (p : HPkt) : State :=
  match x.owed, slotGet s x.slot with
  | some (crew, src, len, fmt), _ =>
    if pktPhase p = 1 then rotateSend (collDrop s x) x gr crew src len fmt else bumpC s .coll 0 7
  | none, none => s
  | none, some c =>
    match pktPhase p with
    | 1 =>
      if x.op = 7 then
        if x.began then s
        else rotateSend (collMod s x.slot fun y => { y with began := true }) x gr c.crew (cSrc c) (cLen c)
          (cFmt c)
      else readyUp (collMod s x.slot fun y =>
        { y with ready := ((p.src, pktWeft p) :: y.ready).eraseDups }) x.slot
    | 2 => phase2 s x c gr (pktWeft p) (pktFlags p)
    | _ =>
      if 4 ≤ x.op then xchgPiece s x c gr p
      else if parentDev s gr (pktWeft p) = some p.src then downData s x c gr p
      else upData s x c p

/-- An ABORT arrives (R269): the root sends it down both trees, with the first reason, unless it has
sent the result or FIN of that SEQ, which an exchange does not have; a member hands it down and ends its
instance, or ends it as soon as it starts. DEDUCED (assumption log 62). -/
def abortArrive (s : State) (g : Nat) (gr : Group) (a : AbortOf) (reason : Nat) (weft : Bool) : State :=
  let known := (mget s.coll.aborted (g * 256 + a.seq)).isSome
  let x := instOf s g a.seq
  let live := !known && (x.isSome || a.seq = gr.seq || 4 ≤ a.op)
  let s := if isRoot s gr then (if live then abortSend s g gr a reason else s)
    else sendAll s (kidDevs s gr weft) fun d => abortPkt s g gr a reason d weft
  if !live then s
  else match x with
    | some x => collFail s x (reasonCode reason) reason
    | none =>
      { s with coll := { s.coll with aborted := mset s.coll.aborted (g * 256 + a.seq) reason } }

/-- A COLL, XCHG or fast-path packet that passed the epoch check: for the running collective, held
for the next one (READY, and fast-path data under R273), or an orphan (R265, R269). DEDUCED
(assumption log 62). -/
def collArrive (s : State) (gr : Group) (p : HPkt) : State :=
  let seq := p.arg % 256
  if pktPhase p = 3 then
    abortArrive s p.ctx gr (abortOfPkt p) (bits p.arg 15 8) (pktWeft p)
  else match instOf s p.ctx seq with
    | some x => instArrive s x gr p
    | none =>
      if (mget s.coll.aborted (p.ctx * 256 + seq)).isNone && seq = gr.seq
          && (pktPhase p = 1 || p.cmd = 0x10) then
        { s with coll := { s.coll with early := s.coll.early ++ [p] } }
      else bumpC s .coll 0 7

/-- A packet whose EPOCH or DIGEST differs: discarded, counted, and its collective aborted with
EPOCH_MISMATCH (R268). -/
def epochMismatch (s : State) (p : HPkt) : State :=
  let s := bumpC s .coll 0 3
  let seq := p.arg % 256
  match instOf s p.ctx seq with
  | some x => collError s x 0x28 1
  | none =>
    match groupGet s p.ctx with
    | some gr =>
      if seq = gr.seq && (mget s.coll.aborted (p.ctx * 256 + seq)).isNone then
        let s := abortSend s p.ctx gr (abortOfPkt p) 1
        { s with coll := { s.coll with aborted := mset s.coll.aborted (p.ctx * 256 + seq) 1 } }
      else s
    | none => s

/-- COLL_PACKET (R265, R268). -/
def execCollPacket (p : HPkt) (s : State) : Out :=
  fab s fun s => takeH s p fun s =>
    match epochOk s p with
    | some gr => collArrive s gr p
    | none => epochMismatch s p

/-- XCHG_PACKET (R266, R268). -/
def execXchgPacket (p : HPkt) (s : State) : Out :=
  fab s fun s => takeH s p fun s =>
    match epochOk s p with
    | some gr => collArrive s gr p
    | none => epochMismatch s p

/-- COLL_ABORT (R268, R269): an ABORT of a SEQ reaches the root, or a member on a tree. -/
def execCollAbort (p : HPkt) (s : State) : Out :=
  fab s fun s =>
    if pktPhase p != 3 then s
    else takeH s p fun s =>
      match epochOk s p with
      | some gr => collArrive s gr p
      | none => epochMismatch s p

/-- A live entry of a group changes: where EPOCH or DIGEST do, its packets no longer agree, and the
collectives in flight end with EPOCH_MISMATCH (R268); what was kept for the old entry goes. DEDUCED
(assumption log 62). -/
def groupLeaves (s : State) (g : Nat) : State :=
  let s := (s.coll.insts.filter (·.group = g)).foldl (fun s x => collError s x 0x28 1) s
  { s with coll := { s.coll with
    early := s.coll.early.filter fun p => p.ctx != g
    aborted := mfilter s.coll.aborted fun k _ => k / 256 != g } }

/-- COLL_TIMER_EXPIRY (R270). -/
def execCollTimerExpiry (i : Nat) (s : State) : Out :=
  fab s fun s =>
    match instSlot s i with
    | some x => collError (bumpC s .coll 0 4) x 0x29 2
    | none => s

/-- The group of a command is valid, the crew's own, and this device one of its members. DEDUCED
(assumption log 15). -/
def collGroup (s : State) (c : Slot) : Option Group :=
  match groupGet s (cGroup c) with
  | some gr => if gr.crew = c.crew && gr.members.contains (ownDev s) then some gr else none
  | none => none

/-- The refusals of a collective command: a format without adder (R263), or the length of a tree
operation that is no multiple of the element size or above 4 MiB (R262). DEDUCED (assumption log
15). -/
def collBad (c : Slot) : Bool :=
  (cOp c < 2 && !treeFmt (cFmt c))
    || (cOp c < 3 && (8 * cLen c % fmtWidth (cFmt c) != 0 || 2 ^ 22 < cLen c))

/-- A collective starts (R265, R269, R273): it takes the group's next SEQ; an ABORT known for it ends
it at once; packets held for it are taken up. -/
def collStart (s : State) (i : Nat) (c : Slot) (gr : Group) : State :=
  let g := cGroup c
  let seq := gr.seq
  let fast := gr.fast && cOp c < 4 && cLen c ≤ 64
  let x : Coll := { slot := i, group := g, seq := seq, op := cOp c, fast := fast, ready := []
                    sentUp := [], go := [], done := [], began := false, recv := [], counts := []
                    last := [], dropped := false, owed := none }
  let near := fun (k : Nat) => k / 256 != g || (k % 256 + 257 - seq) % 256 ≤ 2
  let mine := s.coll.early.filter fun p => p.ctx = g && p.arg % 256 = seq
  let rest := s.coll.early.filter fun p => !(p.ctx = g && p.arg % 256 = seq)
  let s := { s with coll := { s.coll with
    live := mset s.coll.live g { gr with seq := (seq + 1) % 256 }
    insts := s.coll.insts ++ [x], early := rest
    aborted := mfilter s.coll.aborted fun k _ => near k } }
  let s := bumpC s .coll 0 0
  let s := if fast then bumpC s .coll 0 5 else s
  let s := if x.op = 3 then s else addReader s c.crew (cSrc c) i
  match mget s.coll.aborted (g * 256 + seq) with
  | some r => collFail s x (reasonCode r) r
  | none =>
    let s := if x.op < 2 then
        let ns := [false, true].map fun w => newNode s false g gr seq 0 w (cFmt c) s.heat.num
        { s with sprint := { s.sprint with nodes := s.sprint.nodes ++ ns } }
      else s
    let s := readyUp s i
    mine.foldl (fun s p =>
      match instSlot s i with
      | some x => instArrive s x gr p
      | none => bumpC s .coll 0 7) s

/-- A collective command of some operations is ready and none of its group runs or is older
(chapter 13); else nothing starts. DEDUCED (assumption log 62). -/
def collReady (i : Nat) (s : State) (ops : Nat → Bool) (f : Slot → State → State) : Out :=
  let free := fun (c : Slot) => ops (cOp c) && !s.coll.insts.any (fun x => x.group = cGroup c)
    && !s.host.slots.any fun e => e.2.phase = .ready && fld e.2.cmd 0 1 = 0x40
      && cGroup e.2 = cGroup c && e.2.born < c.born
  if ((slotGet s i).map free).getD false then opcode i 0x40 s f else .next s

/-- No program, attention pass or tile transfer of a crew runs on the dies of a mask (R271). -/
def quietNow (s : State) (crew mask : Nat) : Bool :=
  !(s.grid.shells.any fun e => e.2.running && e.2.owner = some crew && bit mask (e.1 / 256))
    && !(s.att.lists.any fun e => e.2.crew = crew && bit mask (e.1 / 256))
    && !(s.tile.lists.any fun e => e.2.crew = crew && bit mask (e.1 / 64))

/-- Start a collective, or refuse its command. DEDUCED (assumption log 15). -/
def collLaunch (i : Nat) (c : Slot) (s : State) : State :=
  match collGroup s c with
  | none => endCmd s i cRANGE
  | some gr => if collBad c then endCmd s i cCONFIG else collStart s i c gr

/-- TREE_OP_START (R271): OP 0x0 to 0x3 starts once the dies of QUIET are quiet. -/
def execTreeOpStart (i : Nat) (s : State) : Out :=
  let quiet := fun (c : Slot) => quietNow s c.crew (fld c.cmd 19 1)
  if ((slotGet s i).map quiet).getD false then collReady i s (· < 4) (collLaunch i) else .next s

/-- A started tree operation whose READY and GO, where it has them, are in. -/
def treeRun (i op : Nat) (s : State) (f : Coll → Slot → Group → State → State) : Out :=
  fab s fun s =>
    match instSlot s i, slotGet s i with
    | some x, some c =>
      match groupGet s x.group with
      | some gr => if x.op = op && !x.began then f x c gr s else s
      | none => s
    | _, _ => s

/-- This member's contribution enters both trees (R262, R265). -/
def contribute (x : Coll) (c : Slot) (s : State) : State :=
  let code := if cLen c = 0 then cOK else nearCode s c.crew (cSrc c) (cLen c)
  if usesGo x && x.go.length < 2 then s
  else if code != cOK then collAccess s x code
  else
    let own := fun w => wordsOf (treeBytes (cFmt c)) (rdU s c.crew (cSrc c + (half c w).1) (half c w).2)
    let s := collMod s x.slot fun y => { y with began := true }
    [false, true].foldl (fun s w =>
      nodeMod s false x.group x.seq w fun n => { n with own := some (own w) }) s

/-- SUM_ROOT (R265): the member's vector goes into the sum; TREE_FOLD and the packets carry it on. -/
def execSumRoot (i : Nat) (s : State) : Out := treeRun i 0 s fun x c _ s => contribute x c s

/-- SUM_ALL (R265). -/
def execSumAll (i : Nat) (s : State) : Out := treeRun i 1 s fun x c _ s => contribute x c s

/-- BCAST (R265): with READY from both trees member 0 sends its vector down, and has it. -/
def execBcast (i : Nat) (s : State) : Out :=
  treeRun i 2 s fun x c gr s =>
    if !isRoot s gr || x.sentUp.length < 2 then s
    else
      let code := if cLen c = 0 then cOK else nearCode s c.crew (cSrc c) (cLen c)
      if code != cOK then collAccess s x code
      else
        let b := rdU s c.crew (cSrc c) (cLen c)
        let s := collMod s i fun y => { y with began := true }
        let s := [false, true].foldl (fun s w =>
          sendDown s x c gr w (slice b (half c w).1 (half c w).2) 0) s
        let s := collStore s x c (cDst c) b
        if (instSlot s i).isSome then downEnd (downEnd s i false) i true else s

/-- BARRIER (R265): with READY from both trees member 0 sends FIN down both. -/
def execBarrier (i : Nat) (s : State) : Out :=
  treeRun i 3 s fun x c gr s =>
    if !isRoot s gr || x.sentUp.length < 2 then s
    else
      let s := [false, true].foldl (fun s w => sendDown s x c gr w [] 0) s
      downEnd (downEnd s i false) i true

/-- XCHG_EQ (R266): the exchange starts; its data follow GO. -/
def execXchgEq (i : Nat) (s : State) : Out := collReady i s (· = 4) fun c s => collLaunch i c s

/-- XCHG_COUNTS (R266). -/
def execXchgCounts (i : Nat) (s : State) : Out := collReady i s (· = 5) fun c s => collLaunch i c s

/-- XCHG_PAD (R266). -/
def execXchgPad (i : Nat) (s : State) : Out := collReady i s (· = 6) fun c s => collLaunch i c s

/-- ROTATE (R266): READY goes directly to member (self − 1); the block goes to member (self + 1) once
its READY has come. -/
def execRotate (i : Nat) (s : State) : Out :=
  collReady i s (· = 7) fun c s =>
    let s := collLaunch i c s
    match instSlot s i, collGroup s c with
    | some x, some gr =>
      let n := gr.members.length
      let back := member gr ((selfIdx s gr + n - 1) % n)
      sendH s (instPkt s x gr (cFmt c) back false 1 false 0 0 [])
    | _, _ => s

/-- The sum of a collective's node: up the tree, or at the root the result (R263, R265). -/
def collSum (s : State) (n : TreeNode) (v : List Word) (fl : Flags) : State :=
  match instOf s n.group n.tag, groupGet s n.group with
  | some x, some gr =>
    match slotGet s x.slot with
    | none => s
    | some c =>
      let b := bytesOf (treeBytes n.fmt) v
      match parentDev s gr n.weft with
      | some d => sendVec s [d] b fun d last off piece =>
          instPkt s x gr n.fmt d n.weft 0 last off (if last then fl else 0) piece
      | none =>
        let s := flagCmd s x.slot fl
        let s := sendDown s x c gr n.weft (if x.op = 1 then b else []) fl
        let s := collStore s x c (cDst c + (half c n.weft).1) b
        if (instSlot s x.slot).isSome then downEnd s x.slot n.weft else s
  | _, _ => s

end Sys2Proof.Machine
end

