-- ==== Sys2Proof/Machine/Queue.lean ====
section
/-!
DEFINITION. Host queues and commands (chapter 14): doorbells (R280), fetching (R281, R282), waits
(R284), completion records (R283, R289), dependency counters and the stream table (R285, R288).
-/
namespace Sys2Proof.Machine
open Sys2Proof

/-- Entries of a queue of a crew: SQn at 0x100 + 0x10 n, CQn at 0x200 + 0x10 n (R279, R291). -/
def qSize (s : State) (crew base n : Nat) : Nat := 2 ^ rf s .crewq crew (base + 16 * n + 8) 5 1

/-- EN of a queue. -/
def qEn (s : State) (crew base n : Nat) : Bool := rf s .crewq crew (base + 16 * n + 8) 0 0 = 1

/-- Base bus address of a queue. -/
def qBase (s : State) (crew base n : Nat) : Nat :=
  rg s .crewq crew (base + 16 * n) + 2 ^ 32 * rg s .crewq crew (base + 16 * n + 4)

/-- A queue's indices. -/
def sqGet (s : State) (crew n : Nat) : Queue := mgetD s.host.sqs (crew * 8 + n) ⟨0, 0, false⟩
def cqGet (s : State) (crew n : Nat) : Queue := mgetD s.host.cqs (crew * 8 + n) ⟨0, 0, false⟩
def sqSet (s : State) (crew n : Nat) (q : Queue) : State :=
  { s with host := { s.host with sqs := mset s.host.sqs (crew * 8 + n) q } }
def cqSet (s : State) (crew n : Nat) (q : Queue) : State :=
  { s with host := { s.host with cqs := mset s.host.cqs (crew * 8 + n) q } }

/-- A bad doorbell or queue write: counted, saturating, and the page's interrupt raised (R280). -/
def badDoorbell (s : State) (crew : Nat) : State :=
  event (rput s .crewq crew 0x040 15 0 (satAdd 16 (rf s .crewq crew 0x040 15 0) 1)) .crewq crew

/-- SQ_DOORBELL (R280): the tail is set; a bad index or a disabled queue is ignored and counted.
While the crew resets the write is ignored and not counted (R298). -/
def execSqDoorbell (crew n val : Nat) (s : State) : Out :=
  fab s fun s =>
    if resetting s crew then s
    else if !qEn s crew 0x100 n || qSize s crew 0x100 n ≤ val then badDoorbell s crew
    else sqSet s crew n { sqGet s crew n with tail := val }

/-- CQ_DOORBELL (R280): the head is set. -/
def execCqDoorbell (crew n val : Nat) (s : State) : Out :=
  fab s fun s =>
    if resetting s crew then s
    else if !qEn s crew 0x200 n || qSize s crew 0x200 n ≤ val then badDoorbell s crew
    else cqSet s crew n { cqGet s crew n with head := val }

/-- A completion queue can take one more record (R289). -/
def cqRoom (s : State) (crew n : Nat) : Bool :=
  let q := cqGet s crew n
  qEn s crew 0x200 n && (q.tail + 1) % qSize s crew 0x200 n != q.head

/-- The completion queue bound to a submission queue (R291). -/
def cqOf (s : State) (crew n : Nat) : Nat := rf s .crewq crew (0x100 + 16 * n + 8) 10 8

/-- Slots a crew holds. -/
def crewSlots (s : State) (crew : Nat) : Nat := (s.host.slots.filter fun e => e.2.crew = crew).length

/-- A submission queue is fetchable (R281). -/
def fetchable (s : State) (crew n : Nat) : Bool :=
  let q := sqGet s crew n
  qEn s crew 0x100 n && q.head != q.tail && !resetting s crew
    && !(s.host.slots.any fun e => e.2.crew = crew && e.2.sq = n && e.2.phase = .waiting)
    && crewSlots s crew < 1024 && cqRoom s crew (cqOf s crew n) && s.host.slots.length < 4096

/-- The next submission queue in round robin over the crews, then over a crew's queues (R281). -/
def nextSq (s : State) : Option (Nat × Nat) :=
  let crews := (List.range 16).map fun k => (s.host.rrCrew + k) % 16
  (crews.map fun c =>
    let qs := (List.range 8).map fun k => (mgetD s.host.rrSq c 0 + k) % 8
    (qs.find? (fetchable s c)).map fun n => (c, n)).findSome? id

/-- Counter and error bit. -/
def ctrGet (s : State) (crew k : Nat) : Nat := (mgetD s.host.ctrs (crew * 256 + k) 0).toNat
def ctrErrGet (s : State) (crew k : Nat) : Bool := mgetD s.host.ctrErr (crew * 256 + k) false

/-- Set a counter and its error bit. -/
def ctrPut (s : State) (crew k v : Nat) (err : Bool) : State :=
  { s with host := { s.host with
    ctrs := mset s.host.ctrs (crew * 256 + k) (BitVec.ofNat 32 v)
    ctrErr := mset s.host.ctrErr (crew * 256 + k) err } }

/-- The header's flags (R282): WAIT, ERRCHK, SIGNAL, QUIET, IRQ. -/
def hdrBit (c : Slot) (i : Nat) : Bool := bit (fld c.cmd 1 1) i

/-- A command's wait is met (R284); a command without WAIT does not wait. -/
def waitMet (s : State) (c : Slot) : Bool :=
  !hdrBit c 0 || (ctrGet s c.crew (fld c.cmd 4 1) + 2 ^ 32 - fld c.cmd 8 4) % 2 ^ 32 < 2 ^ 31

/-- Opcodes of R285. -/
def opKnown (op : Nat) : Bool :=
  op = 0x01 || op = 0x10 || op = 0x20 || (0x30 ≤ op && op ≤ 0x38) || op = 0x40 || op = 0x41
    || (0x50 ≤ op && op ≤ 0x52) || (0x60 ≤ op && op ≤ 0x63) || op = 0x70

/-- An undefined opcode, an undefined value in a defined field, or a feature not accepted (R282,
R288, R375). DEDUCED (assumption log 64 and 81). -/
def cmdBad (s : State) (c : Slot) : Bool :=
  let op := fld c.cmd 0 1
  let tier := bits (fld c.cmd 20 1) 2 0
  let coll := bits (fld c.cmd 18 1) 3 0
  if !opKnown op then true
  else if op = 0x30 then
    tier = 0 || 4 < tier || fld c.cmd 24 8 = 0 || 2 ^ 40 < fld c.cmd 24 8
  else if op = 0x32 then tier = 0 || 4 < tier
  else if op = 0x33 || op = 0x37 then fld c.cmd 40 8 % 32 != 0
  else if op = 0x40 then 7 < coll || (coll = 6 && absent s 4)
      || 9 < bits (fld c.cmd 18 1) 7 4
  else if op = 0x41 then bit (fld c.cmd 20 1) 0 && !bit (fld c.cmd 20 1) 1 && absent s 3
  else if op = 0x50 then fld c.cmd 32 8 % 2048 != 0
  else if op = 0x70 then absent s 8
  else false

/-- A command whose wait is met becomes ready, or ends with DEP_FAILED or BAD_CMD (R282). DEDUCED
(assumption log 64). -/
def makeReady (s : State) (i : Nat) (c : Slot) : State :=
  let s := slotMod s i fun c => { c with phase := .ready }
  if hdrBit c 0 && hdrBit c 1 && ctrErrGet s c.crew (fld c.cmd 4 1) then endCmd s i cDEP
  else if cmdBad s c then endCmd s i cBADCMD
  else s

/-- The head of a submission queue moves on. -/
def sqAdvance (s : State) (crew n : Nat) : State :=
  let q := sqGet s crew n
  sqSet s crew n { q with head := (q.head + 1) % qSize s crew 0x100 n }

/-- COMMAND_FETCH (R281, R284, R287): `entry` is the 64 bytes at the head of the next fetchable
queue; `ecc` says that its slot's word is uncorrectable, and the command ends with INTERNAL_ECC
(R437). DEDUCED (assumption log 64). -/
def execCommandFetch (entry : List Byte) (ecc : Bool) (s : State) : Out :=
  fab s fun s =>
    match nextSq s with
    | none => s
    | some (crew, n) =>
      match (List.range 4096).find? fun i => (slotGet s i).isNone with
      | none => s
      | some i =>
        let c : Slot := { crew := crew, sq := n, born := s.host.fetched, cmd := slice entry 0 64
                          phase := .waiting, status := 0, flags := 0, result := 0, detail := 0, endNo := 0, endAt := 0 }
        let s := { s with host := { s.host with
          slots := mset s.host.slots i c, fetched := s.host.fetched + 1
          peak := max s.host.peak (s.host.slots.length + 1)
          rrCrew := (crew + 1) % 16, rrSq := mset s.host.rrSq crew ((n + 1) % 8) } }
        if ecc then
          endCmd (recordErr (sqAdvance s crew n) .host 0 0x40 (regOff .host 0 0x048) crew) i 0x40
        else if waitMet s c then makeReady (sqAdvance s crew n) i c
        else s

/-- WAIT_MET (R282, R284): a waiting head command's counter has reached its target. -/
def execWaitMet (i : Nat) (s : State) : Out :=
  fab s fun s =>
    match slotGet s i with
    | some c =>
      if c.phase = .waiting && waitMet s c && !resetting s c.crew then
        makeReady (sqAdvance s c.crew c.sq) i c
      else s
    | none => s

/-- A completion record (R289). -/
def cqRecord (c : Slot) (phase : Bool) : List Byte :=
  slice c.cmd 2 2 ++ toLE (c.sq + 128 * b2n phase) 1 ++ toLE c.status 1 ++ toLE c.flags.toNat 1
    ++ [0, 0, 0] ++ toLE c.result 8 ++ toLE c.detail 8 ++ toLE c.endAt 8

/-- Write a record; the PHASE bit of the first pass is 1. DESIGN CHOICE (assumption log 17). -/
def writeRecord (s : State) (c : Slot) : State :=
  let n := cqOf s c.crew c.sq
  let q := cqGet s c.crew n
  let s := hostWrite s (qBase s c.crew 0x200 n + 32 * q.tail) (cqRecord c (!q.phase))
  let tail := (q.tail + 1) % qSize s c.crew 0x200 n
  let s := cqSet s c.crew n { q with tail := tail, phase := if tail = 0 then !q.phase else q.phase }
  if hdrBit c 4 || c.status != cOK then msix s c.crew (rf s .crewq c.crew (0x200 + 16 * n + 8) 14 8)
  else s

/-- A command ends without a record: QUIET and OK (R289). -/
def isQuiet (c : Slot) : Bool := hdrBit c 3 && c.status = cOK

/-- A command that ended before owes its record to the same completion queue (R289). -/
def recordBefore (s : State) (c : Slot) : Bool :=
  s.host.slots.any fun e => e.2.phase = .ended && e.2.crew = c.crew && e.2.endNo < c.endNo
    && cqOf s c.crew e.2.sq = cqOf s c.crew c.sq && !isQuiet e.2

/-- An ended command's record can be written now (R289, R351): its queue has room, no command that ended
before owes one to the same queue, and the host link is up; a quiet command writes none. -/
def recordMay (s : State) (c : Slot) : Bool :=
  isQuiet c || (s.host.linkUp && cqRoom s c.crew (cqOf s c.crew c.sq) && !recordBefore s c)

/-- What the end of a command leaves (R138, R283, R287, R289): its record, its flags, its signal, and a
free slot. -/
def recordOut (s : State) (i : Nat) : State :=
  match slotGet s i with
  | none => s
  | some c =>
    if c.phase != .ended || !recordMay s c then s
    else
      let ok := c.status = cOK || c.status = cPAD
      let s := if isQuiet c then s else writeRecord s c
      let s := gatherCrew s c.crew c.flags
      let s := if ok then s else countScope s c.status
      let k := fld c.cmd 5 1
      let s := if hdrBit c 2 then
          ctrPut s c.crew k (ctrGet s c.crew k + 1) (ctrErrGet s c.crew k || !ok) else s
      { s with host := { s.host with slots := mdel s.host.slots i } }

/-- COMPLETION_WRITE (R138, R283, R287, R289): an ended command writes its record, in the order of
completion, when its queue has room and the host link is up, signals its counter and frees its slot. -/
def execCompletionWrite (i : Nat) (s : State) : Out := fab s fun s => recordOut s i

/-- What a read of VF BAR0 offset 0x2000 + 4k returns (R277, R283): the low 31 bits of a crew's counter
and its error bit. -/
def counterWindow (s : State) (crew k : Nat) : Word :=
  BitVec.ofNat 32 (ctrGet s crew k % 2 ^ 31 + 2 ^ 31 * b2n (ctrErrGet s crew k))

/-- STREAM_OPEN (R288): POS 0; 0xFFFF takes the lowest free entry of the slice, as far as it lies in the
table of 16,384 entries. DEDUCED (assumption log 76). -/
def execStreamOpen (i : Nat) (s : State) : Out :=
  opcode i 0x50 s fun c s =>
    let n := fld c.cmd 16 2
    let base := rf s .crew 0 (0x100 + 16 * c.crew) 13 0
    let top := min 16384 (base + rf s .crew 0 (0x100 + 16 * c.crew) 30 16)
    let e : StreamE := { crew := c.crew, length := fld c.cmd 24 5, pos := 0, root := fld c.cmd 32 8
                         closing := none }
    let put := fun (k : Nat) =>
      endCmd { s with host := { s.host with streams := mset s.host.streams k e } } i cOK 0 k
    if n = 0xFFFF then
      match (span base top).find? fun k => (mget s.host.streams k).isNone with
      | some k => put k
      | none => endCmd s i cSTREAM
    else if n < base || top ≤ n then endCmd s i cRANGE
    else if (mget s.host.streams n).isSome then endCmd s i cBUSY
    else put n

/-- STREAM_ADV (R288). -/
def execStreamAdv (i : Nat) (s : State) : Out :=
  opcode i 0x51 s fun c s =>
    let n := fld c.cmd 16 2
    match streamGet s c.crew n with
    | none => endCmd s i cRANGE
    | some e =>
      let pos := e.pos + fld c.cmd 24 5
      if e.length < pos then endCmd s i cRANGE
      else endCmd { s with host := { s.host with
          streams := mset s.host.streams n { e with pos := pos } } } i cOK

/-- STREAM_CLOSE (R288): at once, or when the last pass of the stream has ended. DEDUCED
(assumption log 76). -/
def execStreamClose (i : Nat) (s : State) : Out :=
  opcode i 0x52 s fun c s =>
    let n := fld c.cmd 16 2
    match streamGet s c.crew n with
    | none => endCmd s i cRANGE
    | some e =>
      if e.closing.isSome then endCmd s i cRANGE
      else closeStreams { s with host := { s.host with
          streams := mset s.host.streams n { e with closing := some i } } }

/-- CTR_SET (R283): the value, and a clear error bit. -/
def execCtrSet (i : Nat) (s : State) : Out :=
  opcode i 0x60 s fun c s =>
    endCmd (ctrPut s c.crew (fld c.cmd 16 1) (fld c.cmd 20 4) false) i cOK

/-- CTR_ADD (R283): the error bit stays. -/
def execCtrAdd (i : Nat) (s : State) : Out :=
  opcode i 0x61 s fun c s =>
    let k := fld c.cmd 16 1
    endCmd (ctrPut s c.crew k (ctrGet s c.crew k + fld c.cmd 20 4) (ctrErrGet s c.crew k)) i cOK

/-- CTR_READ (R285): RESULT holds the value, DETAIL the error bit. -/
def execCtrRead (i : Nat) (s : State) : Out :=
  opcode i 0x62 s fun c s =>
    let k := fld c.cmd 16 1
    endCmd s i cOK (b2n (ctrErrGet s c.crew k)) (ctrGet s c.crew k)

/-- NOP (R285). -/
def execNopCommand (i : Nat) (s : State) : Out := opcode i 0x63 s fun _ s => endCmd s i cOK

end Sys2Proof.Machine
end

