-- ==== Sys2Proof/Machine/Crew.lean ====
section
/-!
DEFINITION. Crews (chapter 15): the crew reset (R298 to R301), the Function Level Reset, PERST_N
(R364) and the scrub (R302).
-/
namespace Sys2Proof.Machine
open Sys2Proof

/-- A crew is enabled while one of its queues is. DEDUCED (assumption log 61). -/
def crewEnabled (s : State) (c : Nat) : Bool :=
  (List.range 8).any fun n => qEn s c 0x100 n || qEn s c 0x200 n

/-- Shells on which a crew's program runs. -/
def crewShells (s : State) (c : Nat) : List Nat :=
  (s.grid.shells.filter fun e => e.2.running && e.2.owner = some c).map (·.1)

/-- Requests of a crew still outstanding (R298). -/
def crewTags (s : State) (c : Nat) : List (Nat × TagSt) :=
  s.net.tags.filter fun e => e.2.crew = c && !e.2.quarantined

/-- Requests of a crew that are outstanding in the tier engine (R298). -/
def tierInFlight (s : State) (c : Nat) : Nat :=
  (s.tier.reqs.filter fun r => r.crew = c).foldl
    (fun n r => (outstanding s r).foldl (fun n e => n + e.2) n) 0

/-- The in-flight count of a crew (R298, R303): held slots and requests outstanding in any engine. -/
def inFlight (s : State) (c : Nat) : Nat :=
  crewSlots s c + (crewTags s c).length + tierInFlight s c

/-- The slots of a crew whose program still runs on a shell. -/
def progSlots (s : State) (c : Nat) : List Nat :=
  (s.grid.shells.filter fun e => e.2.running && e.2.owner = some c).filterMap (·.2.slot)

/-- The engines leave a crew's commands (R298): transfer lists, passes, tier transfers; a migration
that has not switched leaves its object idle at the source. DEDUCED (assumption log 60). -/
def enginesStop (s : State) (c : Nat) : State :=
  let objs := mmapv s.tier.objs fun k o =>
    if k / 2 ^ 20 = c && o.slot.isSome then
      { o with slot := none, state := if o.state = 1 && !o.switched then 0 else o.state }
    else o
  let streams := mmapv s.host.streams fun _ e => if e.crew = c then { e with closing := none } else e
  let tags := mmapv s.net.tags fun _ t => if t.crew = c then { t with slot := none } else t
  { s with
    tile := { s.tile with lists := mfilter s.tile.lists fun _ l => l.crew != c }
    att := { s.att with lists := mfilter s.att.lists fun _ l => l.crew != c }
    tier := { (dropReqs s fun r => r.crew = c).tier with objs := objs }
    host := { s.host with streams := streams }
    net := { s.net with tags := tags } }

/-- A crew reset begins (R298): a second request is merged. Its collectives abort with PEER_RESET, its
transfers stop, and its commands but for running programs leave their slots; a record that has ended
may still be written (R299). DEDUCED (assumption log 60). -/
def crewReset (s : State) (c : Nat) : State :=
  if 16 ≤ c || resetting s c then s
  else
    let s := { s with crew := { s.crew with resetting := s.crew.resetting ++ [c] } }
    let mine := fun (x : Coll) => match x.owed, slotGet s x.slot with
      | some o, _ => o.1 = c
      | none, some y => y.crew = c
      | none, none => false
    let s := (s.coll.insts.filter mine).foldl (fun s x => collError s x 0x2A 3) s
    let s := enginesStop s c
    let keep := progSlots s c
    let gone := (s.host.slots.filter fun e =>
      e.2.crew = c && e.2.phase != .ended && !keep.contains e.1).map (·.1)
    let s := gone.foldl dropReader s
    { s with host := { s.host with
      slots := mfilter s.host.slots fun k _ => !gone.contains k } }

/-- Units of a shell still execute instructions. -/
def shellBusy (s : State) (k : Nat) : Bool := (shellOars s k).any fun o => !o.2.ops.isEmpty

/-- The state of R299 is cleared. -/
def crewClear (s : State) (c : Nat) : State :=
  let s := (crewShells s c).foldl (fun s k => shellEnd s k 0 0) s
  let s := (List.range 8).foldl (fun s n =>
    rput (rput s .crewq c (0x108 + 16 * n) 0 0 0) .crewq c (0x208 + 16 * n) 0 0 0) s
  let keepQ := fun (k : Nat) => k / 8 != c
  let h := s.host
  let s := { s with
    host := { h with
      sqs := mfilter h.sqs fun k _ => keepQ k, cqs := mfilter h.cqs fun k _ => keepQ k
      ctrs := mfilter h.ctrs fun k _ => k / 256 != c
      ctrErr := mfilter h.ctrErr fun k _ => k / 256 != c
      slots := mfilter h.slots fun _ x => x.crew != c
      pba := h.pba.filter fun v => v.1 != c }
    crew := { s.crew with resetting := s.crew.resetting.filter (· != c) } }
  rset s .numf 0 (0x080 + 4 * c) 0

/-- A crew reset finishes (R298): the state of R299 is cleared and the PF's interrupt raised.
DEDUCED (assumption log 60). -/
def crewFinish (s : State) (c : Nat) : State := event (crewClear s c) .crew 0

/-- The crew's shells whose units are done become idle, with no STOPPED bit (R298). -/
def idleShells (s : State) (c : Nat) : State :=
  ((crewShells s c).filter fun k => !shellBusy s k).foldl (fun s k => shellEnd s k 0 0) s

/-- CREW_RESET_FINISH (R298, R299): once its shells are idle the crew's in-flight count is 0. DEDUCED
(assumption log 60). -/
def execCrewResetFinish (c : Nat) (s : State) : Out :=
  fab s fun s =>
    let s' := idleShells s c
    if resetting s c && inFlight s' c = 0 then crewFinish (rput s' .crew 0 0x04C c c 0) c else s

/-- CREW_RESET_FORCE (R300): outstanding requests are abandoned, their tags quarantined; a shell that
is not idle stops; FORCED is set. DEDUCED (assumption log 60). -/
def execCrewResetForce (c : Nat) (s : State) : Out :=
  fab s fun s =>
    let idle := s
    let s := idleShells s c
    if !resetting s c || inFlight s c = 0 then idle
    else
      let tags := mmapv s.net.tags fun _ t =>
        if t.crew = c then { t with quarantined := true, slot := none } else t
      let reqs := s.tier.reqs.map fun r => if r.crew = c then { r with crew := noCrew } else r
      let s := { s with net := { s.net with tags := tags }, tier := { s.tier with reqs := reqs } }
      let s := ((crewShells s c).filter (shellBusy s)).foldl (fun s k => haltShell s k cSHELL 0) s
      rput (crewFinish s c) .crew 0 0x04C c c 1

/-- FUNCTION_LEVEL_RESET (R298). -/
def execFunctionLevelReset (c : Nat) (s : State) : Out := fab s fun s => crewReset s c

/-- PERST (R364): low takes the host link down and resets every enabled crew; high lets it train. -/
def execPerst (level : Bool) (s : State) : Out := .next <|
  let s := { s with power := { s.power with perstN := level } }
  if level || !fabOn s then s
  else
    let s := { s with host := { s.host with linkUp := false, width := 0, speed := 0 } }
    (List.range 16).foldl (fun s c => if crewEnabled s c then crewReset s c else s) s

/-- Groups of a crew's slice. -/
def crewGroups (s : State) (c : Nat) : List Nat :=
  let base := rf s .crew 0 (0x104 + 16 * c) 11 0
  span base (base + rf s .crew 0 (0x104 + 16 * c) 28 16)

/-- A crew may be scrubbed (R301, R302): idle, not resetting, no enabled queue, and no group of its
slice named by an enabled descriptor. DEDUCED (assumption log 61). -/
def scrubOk (s : State) (c : Nat) : Bool :=
  !resetting s c && !crewEnabled s c && inFlight s c = 0
    && !(List.range 64).any fun n =>
      let d := rg s .sprint 0 (0x100 + 16 * n)
      bit d 0 && (crewGroups s c).contains (bits d 14 3)

/-- Scrub one crew (R302): its objects are freed, its streams and groups become invalid at once. -/
def scrubCrew (s : State) (c : Nat) : State :=
  if scrubOk s c then
    let gs := crewGroups s c
    let base := rf s .crew 0 (0x100 + 16 * c) 13 0
    let n := rf s .crew 0 (0x100 + 16 * c) 30 16
    let cache := mmapv s.tile.cache fun _ l => l.filter fun a => a / 2 ^ 60 != c
    let lab := mmapv s.att.lab fun _ l => l.filter fun e => e.crew != c
    { s with
      tier := { s.tier with
        objs := mfilter s.tier.objs fun k _ => k / 2 ^ 20 != c
        data := mfilter s.tier.data fun k _ => k / 2 ^ 60 != c }
      tile := { s.tile with cache := cache }
      att := { s.att with lab := lab }
      host := { s.host with
        streams := mfilter s.host.streams fun k _ => k < base || base + n ≤ k }
      coll := { s.coll with
        live := mfilter s.coll.live fun k _ => !gs.contains k
        shadow := mfilter s.coll.shadow fun k _ => !gs.contains k } }
  else errConfig s .crew 0 (regOff .crew 0 0x044)

/-- A write of a mask to SCRUB. DEDUCED (assumption log 61). -/
def scrubMask (s : State) (mask : Nat) : State := (onesOf mask 16).foldl scrubCrew s

end Sys2Proof.Machine
end

