-- ==== Sys2Proof/Machine/Seal.lean ====
section
/-!
DEFINITION. The Ubdom seal (chapter 21): its time states (R403), the tap (R407 to R409), records
and blocks (R410 to R413), the service port (R416 to R418), its reset and loss of power (R348,
R419), and the export unit (R417).
-/
namespace Sys2Proof.Machine
open Sys2Proof

/-- One second of seal time (R401). -/
def sec1 : Time := 4000000000

/-- The reference mode of the configuration image (R402, R418). -/
def sealMode (u : SealSt) : Nat := bits (fld u.config 0 4) 9 8

/-- The number of a time state in SEAL.STATUS.TIME (R420). -/
def SealTime.num : SealTime → Nat
  | .unknown => 0
  | .acquiring => 1
  | .locked => 2
  | .holdover => 3

/-- The time state at an instant, from the changes, newest first. -/
def stateAt : List (Time × SealTime) → Time → SealTime
  | [], _ => .unknown
  | (t, s) :: r, a => if t ≤ a then s else stateAt r a

/-- Change the time state (R403). -/
def setTState (u : SealSt) (t : Time) (x : SealTime) : SealSt :=
  { u with tstate := x, hist := (t, x) :: u.hist }

/-- The 64 bytes of a ledger record (R410) from a message image, with SEQ, FLAGS, STAMP_B and HASH
filled by the seal (R407, R411). -/
def recordBytes (u : SealSt) (m : TapMsg) : List Byte :=
  let st := stateAt u.hist m.stampA
  let flags := m.port % 2 + 2 * b2n (st != .locked) + 4 * b2n (st = .holdover)
  let hash := if m.type = 0x01 then (sha256 m.frame).take 16 else slice m.frame 0 16
  toLE u.seq 8 ++ [BitVec.ofNat 8 m.type, BitVec.ofNat 8 m.reason, BitVec.ofNat 8 flags, 0]
    ++ toLE m.stream 2 ++ [BitVec.ofNat 8 m.msg, 0] ++ toLE m.stampA 8 ++ toLE m.stampB 8
    ++ toLE m.tokseq 8 ++ hash ++ toLE m.aux 8

/-- The 64-byte header of a block (R412). -/
def blockHeader (u : SealSt) (cause : Nat) (t : Time) : List Byte :=
  toLE 0x4B4C4455 4 ++ toLE u.opened.length 2 ++ toLE cause 2 ++ toLE u.blockNo 8
    ++ toLE u.firstSeq 8 ++ toLE u.openTime 8 ++ toLE t 8 ++ toLE u.vcount 4 ++ toLE u.fw 4
    ++ List.replicate 16 0

/-- Close the open block (R412, R413): the chain state is stored; CHAIN and SIG are placed in the
block when it is signed. A block with no record is never closed. The latest 4,096 stay (R415). -/
def closeBlock (u : SealSt) (cause : Nat) (t : Time) : SealSt :=
  if u.opened.isEmpty then u
  else
    let h := blockHeader u cause t
    let recs := u.opened.flatten
    let rhash := sha256 recs
    let body := h ++ slice recs 0 16384 ++ u.chain ++ rhash ++ List.replicate 96 0
    let all := u.blocks ++ [⟨u.blockNo, body, false⟩]
    { u with
      blocks := all.drop (all.length - 4096), chain := sha256 (u.chain ++ h ++ rhash)
      blockNo := u.blockNo + 1, opened := [] }

/-- Add to entry i of the counts since the last SUMMARY, modulo 2^32 (R411). -/
def sinceAdd (u : SealSt) (i c : Nat) : SealSt :=
  { u with since := u.since.modify i fun v => (v + c) % 2 ^ 32 }

/-- Append a record to the open block at time t; the 256th closes it with CAUSE 1 (R413). -/
def appendRecord (u : SealSt) (m : TapMsg) (t : Time) : SealSt :=
  let r := recordBytes u m
  let u := if u.opened.isEmpty then { u with openTime := t, firstSeq := u.seq } else u
  let u := sinceAdd { u with opened := u.opened ++ [r], seq := u.seq + 1 } 4 1
  if u.opened.length = 256 then closeBlock u 1 t else u

/-- Form a record: the seal's state and the RECORDS counter of the SEAL page (R420). -/
def formRecord (s : State) (m : TapMsg) (t : Time) : State :=
  bumpC { s with ud := appendRecord s.ud m t } .seal 0 4

/-- A TIME record (R411). -/
def timeRecord (s : State) (reason : Nat) (aux : Int) (t : Time) : State :=
  formRecord s ⟨0x20, reason, 0, 0, 0, t, 0, 0, unsigned 64 aux, []⟩ t

/-- A SERVICE record (R411): hash of the image concerned and the verification counter. -/
def serviceRecord (s : State) (reason : Nat) (img : List Byte) (t : Time) : State :=
  formRecord s ⟨0x30, reason, 0, 0, 0, t, 0, 0, s.ud.vcount, (sha256 img).take 16⟩ t

/-- BUSY rises above 49,152 messages held and falls below 32,768; BUSY_US counts its whole
microseconds at its fall (R409, R420). -/
def busyUpdate (s : State) (t : Time) : State :=
  let n := s.ud.tap.length
  if 49152 < n && !s.ud.busy then { s with ud := { s.ud with busy := true, busySince := t } }
  else if n < 32768 && s.ud.busy then
    bumpBy { s with ud := { s.ud with busy := false } } .seal 0 0x118 ((t - s.ud.busySince) / 4000)
  else s

/-- A message arrives at the seal and is held, or is lost with 65,536 held (R407, R409). The seal
fills the receipt: STAMP_B of SUPPRESS and NO_ACTION, STAMP_A of DEVICE (R411). -/
def tapReceive (s : State) (m : TapMsg) (t : Time) : State :=
  if 65536 ≤ s.ud.tap.length then
    bumpC { s with ud := sinceAdd { s.ud with lost := s.ud.lost + 1 } 5 1 } .seal 0 5
  else
    let m := if m.type = 0x02 || m.type = 0x03 then { m with stampB := t }
      else if m.type = 0x10 then { m with stampA := t } else m
    busyUpdate { s with ud := { s.ud with tap := s.ud.tap ++ [m] } } t

/-- TAP_MESSAGE (R407): the first message on the tap arrives at the seal. -/
def execTapMessage (t : Time) (s : State) : Out := .next <|
  match s.ud.wire with
  | m :: r =>
    if s.ud.running && !s.ud.inReset then
      tapReceive { s with ud := { s.ud with wire := r } } m t
    else s
  | [] => s

/-- AGGREGATE_REPORT (R409, R411): the windows that have ended go out, one AGGREGATE message each. -/
def execAggregateReport (t : Time) (s : State) : Out :=
  fab s fun s =>
    let out := s.ports.aggs.filter (fun a => a.win < t / 4000)
    let s := { s with ports := { s.ports with aggs := s.ports.aggs.filter (fun a => t / 4000 ≤ a.win) } }
    out.foldl (fun s a => tapSend s ⟨0x04, a.reason, a.port, 0, 0, a.first, a.last, 0, a.count, []⟩) s

/-- The egress stamps taken of a port and not yet paired. -/
def stampsOf (u : SealSt) (port : Nat) : List Time := if port = 0 then u.stamps0 else u.stamps1

/-- A message can be completed: a DECISION when the first unpaired one of its port has a stamp
(R408), any other at once. The lists give the ports whose first DECISION was passed over. -/
def firstComplete (u : SealSt) : List TapMsg → List Nat → List TapMsg → Option (TapMsg × List TapMsg)
  | [], _, _ => none
  | m :: r, passed, before =>
    if m.type = 0x01 && (passed.contains m.port || (stampsOf u m.port).isEmpty) then
      firstComplete u r (m.port :: passed) (before ++ [m])
    else some (m, before ++ r)

/-- Take one message out of the tap, pairing a DECISION with its egress stamp (R408). -/
def takeComplete (u : SealSt) : Option (TapMsg × SealSt) :=
  match firstComplete u u.tap [] [] with
  | none => none
  | some (m, rest) =>
    let u := { u with tap := rest }
    if m.type = 0x01 then
      let b := (stampsOf u m.port).headD 0
      some ({ m with stampB := b },
        if m.port = 0 then { u with stamps0 := u.stamps0.tail } else { u with stamps1 := u.stamps1.tail })
    else some (m, u)

/-- A TAP_LOSS record once space has returned (R409). -/
def tapLoss (s : State) (t : Time) : State :=
  if 0 < s.ud.lost && s.ud.tap.length < 65536 then
    let n := s.ud.lost
    formRecord { s with ud := { s.ud with lost := 0 } } ⟨0x33, 0, 0, 0, 0, t, 0, 0, n, []⟩ t
  else s

/-- RECORD_FORMATION (R410): the first message that is complete becomes a record. -/
def execRecordFormation (t : Time) (s : State) : Out := .next <|
  if s.ud.running && !s.ud.inReset then
    match takeComplete s.ud with
    | none => s
    | some (m, u) =>
      let s := formRecord { s with ud := u } m t
      busyUpdate (tapLoss s t) t
  else s

/-- BLOCK_AGE_EXPIRY (R413): 10 ms after its first record the open block closes with CAUSE 2. -/
def execBlockAgeExpiry (t : Time) (s : State) : Out := .next <|
  if s.ud.running && !s.ud.inReset && s.ud.openTime + ns 10000000 ≤ t then
    { s with ud := closeBlock s.ud 2 t }
  else s

/-- A block with CHAIN and SIG in place (R412). -/
def signBlock (b : LBlock) : LBlock :=
  let prev := slice b.bytes 16448 32
  let chain := sha256 (prev ++ slice b.bytes 0 64 ++ slice b.bytes 16480 32)
  { b with bytes := slice b.bytes 0 16512 ++ chain ++ Config.sealSign chain, signed := true }

/-- Export a block into the host ring (R417): at the tail, in slots of 16,640 bytes; dropped and
counted, with EVENT, where the ring is off, has fewer than 2 slots or is full. -/
def exportBlock (s : State) (b : LBlock) : State :=
  let slots := rf s .ledger 0 0x048 16 1
  let tail := rf s .ledger 0 0x04C 15 0
  if rf s .ledger 0 0x048 0 0 = 0 || slots < 2 || (tail + 1) % slots = rf s .ledger 0 0x050 15 0 then
    event (bumpC s .ledger 0 1) .ledger 0
  else
    let base := rg s .ledger 0 0x040 + 2 ^ 32 * rg s .ledger 0 0x044
    let s := hostWrite s (base + tail * 16640) b.bytes
    bumpC (rset s .ledger 0 0x04C ((tail + 1) % slots)) .ledger 0 0

/-- Sign the first unsigned block of a list; the block signed is also given. -/
def signFirst : List LBlock → Option (LBlock × List LBlock)
  | [] => none
  | b :: r =>
    if b.signed then (signFirst r).map fun x => (x.1, b :: x.2)
    else some (signBlock b, signBlock b :: r)

/-- Sign every block. -/
def signAll (l : List LBlock) : List LBlock := l.map fun b => if b.signed then b else signBlock b

/-- BLOCK_SIGNED (R412, R417): the oldest unsigned block is signed, and exported while the fabric
die runs. -/
def execBlockSigned (s : State) : Out := .next <|
  if s.ud.running && !s.ud.inReset then
    match signFirst s.ud.blocks with
    | none => s
    | some (b, l) =>
      let s := { s with ud := { s.ud with blocks := l } }
      if fabOn s then exportBlock s b else s
  else s

/-- The action of a write to LEDGER.REPLAY_HI (R417): one held block is exported again. A held
block that is not signed yet is exported when it is signed. -/
def ledgerReplay (s : State) (hi : Nat) : State :=
  match s.ud.blocks.find? (fun b => b.number = hi * 2 ^ 32 + s.ud.replayLo) with
  | some b => if b.signed then exportBlock s b else s
  | none => bumpC s .ledger 0 2

/-- A step of seal time by d (R403): the copy becomes invalid; a step is not a measurement. -/
def sealStep (s : State) (d : Int) (reason : Nat) (t : Time) : State :=
  let t' := ((t : Int) + d).toNat
  let s := copyFell { s with ud := { setTState s.ud t' .acquiring with
    copyValid := false, lastStep := t', okSince := false, goodRow := 0, returned := false
    stepDue := none, todDue := none, now := t', slew := 0 } }
  timeRecord s reason (if reason = 3 then d else 0) t'

/-- SUMMARY_RECORD (R411): at a whole second of seal time, the counts since the last summary;
SEAL_PPS_OUT rises (R404); a step that awaits the whole second is made (R403, R416). DEDUCED
(assumption log 65). -/
def execSummaryRecord (t : Time) (s : State) : Out := .next <|
  if s.ud.running && !s.ud.inReset && t % sec1 = 0 then
    let g := fun i => s.ud.since.getD i 0
    let m : TapMsg := ⟨0x05, 0, 0, 0, 0, t, 0, g 0 + 2 ^ 32 * g 1, g 2 + 2 ^ 32 * g 3,
      toLE (g 4) 4 ++ toLE (g 5) 4⟩
    let s := { s with ud := { s.ud with since := [0, 0, 0, 0, 0, 0], ppsOut := true, now := t } }
    let s := formRecord s m t
    match s.ud.stepDue, s.ud.todDue with
    | some d, _ => sealStep s d 3 t
    | none, some second =>
      if sealMode s.ud = 0 then
        let first := s.ud.tstate = .unknown
        sealStep { s with ud := { s.ud with secondsKnown := true } }
          ((second * sec1 : Nat) - (t : Int)) (if first then 4 else 3) t
      else s
    | none, none => s
  else s

/-- SEAL_PPS_OUT_FALL (R404): 100 ms after the whole second. -/
def execSealPpsOutFall (s : State) : Out := .next { s with ud := { s.ud with ppsOut := false } }

/-- One microsecond and 20 ns of seal time, as integers. -/
def us1 : Int := 4000
def ns20 : Int := 80

/-- Enter HOLDOVER (R403): the last frequency estimate and the valid copy are kept. -/
def enterHoldover (s : State) (t : Time) : State :=
  timeRecord { s with ud := { setTState s.ud t .holdover with goodRow := 0, returned := false } } 2 0 t

/-- Count a measurement towards the 64 in a row within ±20 ns, and lock at the 64th (R403).
DEDUCED (assumption log 65). -/
def countGood (s : State) (off : Int) (t : Time) : State :=
  let n := if off.natAbs ≤ ns20.natAbs then s.ud.goodRow + 1 else 0
  let s := { s with ud := { s.ud with goodRow := n, slew := -off } }
  if 64 ≤ n && s.ud.tstate != .locked then
    timeRecord { s with ud := { setTState s.ud t .locked with copyValid := true } } 1 0 t
  else s

/-- A measurement outside ±20 ns breaks the row of 64 (R403). -/
def notGood (s : State) : State := { s with ud := { s.ud with goodRow := 0 } }

/-- SEAL_MEASUREMENT (R403): one Sync exchange or SEAL_PPS edge at count `t`, whose offset is
positive when the seal is ahead of the reference. The rows of R403 decide. DESIGN CHOICE
(assumption log 21). DEDUCED (assumption log 65). -/
def execSealMeasurement (t : Time) (off : Int) (s : State) : Out := .next <|
  if !(s.ud.running && !s.ud.inReset) || sealMode s.ud = 0 then s
  else
    let s := { s with ud := { s.ud with offset := off, now := t } }
    let s := { s with ud := { s.ud with freq := ((t, off) :: s.ud.freq).take 2 } }
    let far := us1.natAbs < off.natAbs
    match s.ud.todDue with
    | some second => sealStep s ((second * sec1 : Nat) - (t : Int)) 3 t
    | none =>
      match s.ud.tstate with
      | .unknown =>
        if sealMode s.ud = 1 || s.ud.secondsKnown then sealStep s (-off) 3 t else s
      | .acquiring =>
        if far then (if s.ud.copyValid then enterHoldover s t else notGood s)
        else countGood { s with ud := { s.ud with okSince := true } } off t
      | .locked => if far then enterHoldover s t else countGood s off t
      | .holdover =>
        if far then notGood { s with ud := { s.ud with stepDue := some (-off) } }
        else
          let s := { s with ud := { s.ud with stepDue := none } }
          let s := if s.ud.returned then s
            else timeRecord { s with ud := { s.ud with returned := true } } 5 off t
          countGood s off t

/-- REFERENCE_TIMEOUT (R403): no measurement for 3 intervals. In HOLDOVER the reference is gone again, and
its next return is recorded anew. DEDUCED (assumption log 65). -/
def execReferenceTimeout (t : Time) (s : State) : Out := .next <|
  if s.ud.running && !s.ud.inReset && sealMode s.ud != 0 then
    if s.ud.tstate = .locked || (s.ud.tstate = .acquiring && s.ud.copyValid) then enterHoldover s t
    else if s.ud.tstate = .holdover then
      notGood { s with ud := { s.ud with returned := false } }
    else s
  else s

/-- TIME_COPY_VALID (R403): in ACQUIRING, 1 s after the last step and, but in mode 0, once a later
measurement lay within ±1 µs. -/
def execTimeCopyValid (t : Time) (s : State) : Out := .next <|
  if s.ud.running && !s.ud.inReset && s.ud.tstate = .acquiring && s.ud.lastStep + sec1 ≤ t
      && (sealMode s.ud = 0 || s.ud.okSince) then
    { s with ud := { s.ud with copyValid := true, now := t } }
  else s

/-- A reply datagram of the service port (R416): OP, STATUS, REQID, reserved bytes, ARG, body. -/
def svcReply (s : State) (op status : Nat) (q : Svc) (arg : Nat) (body : List Byte) : State :=
  let d := toLE op 1 ++ toLE status 1 ++ toLE q.reqid 2 ++ toLE 0 4 ++ toLE arg 8 ++ body
  { s with ud := { s.ud with replies := s.ud.replies ++ [d] } }

/-- The seal answers a datagram: it runs; SEAL_SVC_N is sampled at the receipt (R417). -/
def svc (s : State) (q : Svc) (f : State → State) : Out := .next <|
  if s.ud.running && !s.ud.inReset then
    f { s with power := { s.power with sealSvcN := !q.svcLow }, ud := { s.ud with now := q.t } }
  else s

/-- SEAL.STATUS (R420). -/
def sealStatusWord (s : State) : Nat :=
  sealMode s.ud + 4 * s.ud.tstate.num + 16 * b2n s.ud.copyValid + 32 * b2n (!s.power.sealSvcN)
    + 64 * b2n s.ud.busy

/-- A register of the SEAL page as the seal knows it (R420). -/
def sealWord (s : State) (o : Nat) : Nat :=
  match o with
  | 0x040 => sealStatusWord s
  | 0x044 => unsigned 32 s.ud.offset
  | 0x048 => s.ud.vcount
  | 0x04C => s.ud.fw
  | 0x050 => s.ud.seq % 2 ^ 32
  | 0x054 => s.ud.seq / 2 ^ 32
  | 0x058 => (s.ud.blockNo - 1) % 2 ^ 32
  | 0x05C => (s.ud.blockNo - 1) / 2 ^ 32
  | o => if 0x060 ≤ o && o ≤ 0x07C then fld Config.sealPublicKey (o - 0x060) 4 else rg s .seal 0 o

/-- STATUS (R416): the contents of the SEAL page, its registers in ascending order. DEDUCED
(assumption log 65). -/
def execSealStatus (q : Svc) (s : State) : Out :=
  svc s q fun s =>
    svcReply s 0x01 0 q 0
      ((ctrOffs 0x040 16 ++ ctrOffs 0x100 9).flatMap fun o => toLE (sealWord s o) 4)

/-- READ_BLOCK (R416): 12 datagrams of 1,384 B of a block, or STATUS 1. -/
def execSealReadBlock (q : Svc) (number : Nat) (s : State) : Out :=
  svc s q fun s =>
    match s.ud.blocks.find? (fun b => b.number = number && b.signed) with
    | some b => (chunks 1384 b.bytes).foldl (fun s c => svcReply s 0x02 0 q number c) s
    | none => svcReply s 0x02 1 q number []

/-- READ_KEY (R416). -/
def execSealReadKey (q : Svc) (s : State) : Out :=
  svc s q fun s => svcReply s 0x03 0 q 0 Config.sealPublicKey

/-- A write operation's refusals (R417): STATUS 2 with SEAL_SVC_N high, recorded as SERVICE with
REASON 3; STATUS 3 once the verification counter stands at 1,024. -/
def svcWrite (s : State) (op : Nat) (q : Svc) (arg : Nat) (img : List Byte) (f : State → State) :
    State :=
  if !q.svcLow then serviceRecord (svcReply s op 2 q arg []) 3 img q.t
  else if 1024 ≤ s.ud.vcount then serviceRecord (svcReply s op 3 q arg []) 3 img q.t
  else f s

/-- A configuration image passes (R418): FORMAT 1, CRC-32C right, strobe latencies unchanged. -/
def configOk (u : SealSt) (img : List Byte) : Bool :=
  img.length = 256 && fld img 0 1 = 1 && fld img 0xFC 4 = (crc32c (slice img 0 0xFC)).toNat
    && slice img 0x50 16 = slice u.config 0x50 16

/-- WRITE_CONFIG (R417, R418). -/
def execSealWriteConfig (q : Svc) (image : List Byte) (s : State) : Out :=
  svc s q fun s =>
    svcWrite s 0x10 q 0 image fun s =>
      if configOk s.ud image then
        let s := { s with ud := { s.ud with config := image, vcount := s.ud.vcount + 1 } }
        serviceRecord (svcReply s 0x10 0 q 0 []) 1 image q.t
      else serviceRecord (svcReply s 0x10 4 q 0 []) 3 image q.t

/-- FW_CHUNK (R416): body bytes at offset ARG of the staging area. -/
def execSealFwChunk (q : Svc) (offset : Nat) (body : List Byte) (s : State) : Out :=
  svc s q fun s =>
    svcWrite s 0x11 q offset body fun s =>
      svcReply { s with ud := { s.ud with staging := wrBytes s.ud.staging offset body } } 0x11 0 q
        offset []

/-- Form a record of every message held, in arrival order; a DECISION without its egress stamp is
formed with STAMP_B 0 (R419). -/
def formAll : Nat → State → Time → State
  | 0, s, _ => s
  | fuel + 1, s, t =>
    match s.ud.tap with
    | [] => s
    | m :: r =>
      let b := (stampsOf s.ud m.port).headD 0
      let u := { s.ud with tap := r }
      let u := if m.type != 0x01 then u
        else if m.port = 0 then { u with stamps0 := u.stamps0.tail }
        else { u with stamps1 := u.stamps1.tail }
      formAll fuel (formRecord { s with ud := u } (if m.type = 0x01 then { m with stampB := b } else m) t) t

/-- Blocks signed at a reset go out while the fabric die runs (R417). -/
def exportSigned (s : State) (l : List LBlock) : State :=
  if fabOn s then l.foldl (fun s b => exportBlock s (signBlock b)) s else s

/-- The seal goes into its reset (R413, R417, R419): every held message becomes a record, the last block
closes, blocks not signed yet are signed and exported, the nonvolatile store and the closed blocks
stay; the copy is lost. -/
def sealIntoReset (s : State) (cause reason : Nat) (t : Time) : State :=
  let s := s.ud.wire.foldl (fun s m => tapReceive s m t) { s with ud := { s.ud with wire := [] } }
  let s := tapLoss (formAll s.ud.tap.length s t) t
  let s := busyUpdate s t
  let u := closeBlock s.ud cause t
  let s := exportSigned s (u.blocks.filter fun b => !b.signed)
  copyFell { s with ud := { u with
    blocks := signAll u.blocks, inReset := true, copyValid := false, stamps0 := [], stamps1 := []
    tap := [], busy := false, restartReason := reason, ppsOut := false, now := t } }

/-- FW_COMMIT (R416, R417): the staged image is checked as R369 does, with the seal's key hash; on
success the counter counts, the block closes with CAUSE 5 and the seal resets. The status of a
failed check is not given: a free value. DESIGN CHOICE (assumption log 12). -/
def execSealFwCommit (q : Svc) (s : State) : Out :=
  svc s q fun s =>
    let img := rdBytes s.ud.staging 0 (256 + rdLE s.ud.staging 12 4)
    svcWrite s 0x12 q 0 img fun s =>
      if imageOk Config.sealKeyHash Config.sealMinSvn img then
        let s := { s with ud := { s.ud with vcount := s.ud.vcount + 1 } }
        let s := serviceRecord (svcReply s 0x12 0 q 0 []) 2 img q.t
        let s := sealIntoReset s 5 3 q.t
        { s with ud := { s.ud with fw := fld img 4 4 } }
      else
        let (n, s) := draw s
        serviceRecord (svcReply s 0x12 (Config.freeByte n).toNat q 0 []) 3 img q.t

/-- TOD (R416): in modes 0 and 2 the first TOD after a seal reset sets the seconds; a later one that
agrees has no effect; one that differs is ignored and counted unless SEAL_SVC_N is low, when it sets
the seconds again. In mode 1 every TOD is ignored and counted. A later TOD is held against the seconds
that one not yet in effect gives. DEDUCED (assumption log 65). -/
def execSealTod (q : Svc) (second : Nat) (s : State) : Out :=
  svc s q fun s =>
    let sec := second % 2 ^ 48
    let s := svcReply s 0x20 0 q second []
    let due := { s with ud := { s.ud with todDue := some sec, secondsKnown := true } }
    if sealMode s.ud = 1 then bumpC s .seal 0 8
    else if !s.ud.secondsKnown then due
    else if sec = s.ud.todDue.getD (q.t / sec1 + 1) then s
    else if q.svcLow then due
    else bumpC s .seal 0 8

/-- SEAL_RESET (R419): the falling edge of SEAL_RESET_N. -/
def execSealReset (t : Time) (s : State) : Out := .next <|
  let s := { s with power := { s.power with sealResetN := false } }
  if s.ud.running && !s.ud.inReset then sealIntoReset s 3 2 t else s

/-- SEAL_VDD_LOSS (R348, R419): a POWER_LOSS record, the block closed with CAUSE 4 and signed, and
the time copy lost. -/
def execSealVddLoss (t : Time) (s : State) : Out := .next <|
  if s.power.sealVdd then
    let s := { s with power := { s.power with sealVdd := false } }
    if s.ud.running && !s.ud.inReset then
      let s := formRecord s ⟨0x32, 0, 0, 0, 0, t, 0, 0, 0, []⟩ t
      let u := closeBlock s.ud 4 t
      copyFell { s with ud := { u with
        blocks := signAll u.blocks, inReset := true, running := false, copyValid := false, tap := []
        wire := [], stamps0 := [], stamps1 := [], busy := false, restartReason := 1, ppsOut := false
        now := t } }
    else { s with ud := { s.ud with inReset := true, running := false, restartReason := 1 } }
  else s

/-- The seal's own reset keeps this register: the registers of the SEAL and LEDGER pages beyond the common
header return to their reset values. DEDUCED (assumption log 98). -/
def sealKeeps (off : Nat) : Bool :=
  match pageOfOff off with
  | some (.seal, _) => off % 4096 < 0x040
  | some (.ledger, _) => off % 4096 < 0x040
  | _ => true

/-- SEAL_RESTART (R419): after SEAL_RESET_N, a firmware activation, or SEAL_VDD within its limits
again: START record, UNKNOWN, then one TAP_LOSS record for messages lost meanwhile. `t` is the
seal's count at the restart; `kept` says whether the closed blocks outlasted a loss of SEAL_VDD
(R415). -/
def execSealRestart (t : Time) (kept : Bool) (s : State) : Out := .next <|
  if s.ud.inReset then
    let power := !s.power.sealVdd
    let reason := if power then 1 else s.ud.restartReason
    let n := s.ud.lostAtReset
    let s := { s with
      regs := mfilter s.regs fun k _ => sealKeeps k
      power := { s.power with sealVdd := true, sealResetN := true }
      ud := { s.ud with
        running := true, inReset := false, now := t, tstate := .unknown, hist := [(t, .unknown)]
        copyValid := false, secondsKnown := false, lastStep := 0, okSince := false, goodRow := 0
        freq := [], slew := 0, returned := false, stepDue := none, todDue := none
        staging := [], lostAtReset := 0, lost := 0, since := [0, 0, 0, 0, 0, 0], replayLo := 0
        blocks := if power && !kept then [] else s.ud.blocks } }
    let s := formRecord s ⟨0x31, reason, 0, 0, 0, t, 0, 0, s.ud.fw, []⟩ t
    if 0 < n then
      let s := { s with ud := sinceAdd s.ud 5 n }
      formRecord (bumpBy s .seal 0 0x114 n) ⟨0x33, 0, 0, 0, 0, t, 0, 0, n, []⟩ t
    else s
  else s

end Sys2Proof.Machine
end

