-- ==== Sys2Proof/Machine/TokenOps.lean ====
section
/-!
DEFINITION. Tokens at their root, shared operations: the event ports' counters (R76), the AGGREGATE
windows (R409, R411), the parser tables (R57, R58, R68), the tokenizer queue's space (R71), the
descriptors as live in a token's heat (R45), and the end of a token: suppression and its record
(R47, R53, R411).
-/
namespace Sys2Proof.Machine
open Sys2Proof

/-- Counter j of an event port's page (R76). DEDUCED (assumption log 42). -/
def epCount (s : State) (port j : Nat) (c : Nat := 1) : State :=
  bumpBy s .eport port (0x200 + 4 * j) c

/-- A field of an event port's configuration (R76). -/
def epCfg (s : State) (port i : Nat) : Bool := rf s .eport port 0x040 i i = 1

/-- The port takes and sends frames: enabled, its link up, and the device at stage 5 or above (R76,
R379). -/
def portUp (s : State) (port : Nat) : Bool :=
  port < 2 && epCfg s port 0 && rf s .eport port 0x044 0 0 = 1 && stageGe s 5

/-- Count a frame or a token in the AGGREGATE window of a reason, a port and an instant (R411).
DEDUCED (assumption log 65). -/
def aggAdd (s : State) (reason port : Nat) (t stamp : Time) : State :=
  let w := t / 4000
  let same := fun (a : Aggregate) => a.reason = reason && a.port = port && a.win = w
  let l := s.ports.aggs
  let l' :=
    if l.any same then l.map fun a => if same a then { a with last := stamp, count := a.count + 1 } else a
    else l ++ [⟨reason, port, w, stamp, stamp, 1⟩]
  { s with ports := { s.ports with aggs := l' } }

/-- The fabric cycle of an instant: 0.5 ns (R1). -/
def fabCycle (t : Time) : Nat := t / 2

/-- Token a is taken before token b, or in their order in the queue: it was ready in an earlier fabric
cycle, or in the same one and not on a later port (R69). -/
def readyFirst (a b : TokRec) : Bool :=
  fabCycle a.ready < fabCycle b.ready || (fabCycle a.ready = fabCycle b.ready && a.port ≤ b.port)

/-- Put a token into the tokenizer queue at its place (R69). -/
def queueToken (q : List TokRec) (k : TokRec) : List TokRec :=
  q.takeWhile (readyFirst · k) ++ k :: q.dropWhile (readyFirst · k)

/-- Entries of the tokenizer queue that are taken or reserved (R71). -/
def queueTaken (s : State) : Nat :=
  let r := fun (e : EPort) => e.frames.foldl (fun n f => n + f.reserved) 0
  s.ports.tokQ.length + r s.ports.p0 + r s.ports.p1

/-- Write bytes of the table space that hardware maintains: both copies show them (R57). DEDUCED
(assumption log 46). -/
def tblHw (s : State) (a : Nat) (b : List Byte) : State :=
  { s with ports := { s.ports with
    live := wrBytes s.ports.live a b, shadow := wrBytes s.ports.shadow a b } }

/-- The bits of a byte of the table space that hardware maintains: FLOW_EPOCH, FLOW and NEXT_SEQ of
a stream-map entry (R68), DROP_EPOCH of a flow entry (R58). DEDUCED (assumption log 46). -/
def tblHwMask (a : Nat) : Byte :=
  if a < 0x40000 then
    let o := a % 16
    if o = 1 || o = 2 || 8 ≤ o then 0xFF else if o = 3 then 0x01 else 0
  else if a < 0x44000 then (if a % 32 = 19 then 0xFF else 0)
  else 0

/-- Word 0 of a stream's entry in a table copy (R68). -/
def streamWord (m : Memory) (n : Nat) : Nat := rdLE m (16 * n) 4

/-- Address of flow entry i of a port (R57, R58). -/
def flowAddr (port i : Nat) : Nat := 0x40000 + 0x2000 * port + 32 * i

/-- DROP_EPOCH of a flow entry. -/
def dropEpoch (s : State) (port i : Nat) : Nat := rdLE s.ports.live (flowAddr port i + 19) 1

/-- Increment DROP_EPOCH of a flow entry (R66). DEDUCED (assumption log 46). -/
def bumpEpoch (s : State) (port i : Nat) : State :=
  tblHw s (flowAddr port i + 19) (toLE (dropEpoch s port i + 1) 1)

/-- The 512 bytes of a live template (R72). -/
def templateImg (s : State) (k : Nat) : List Byte := rdBytes s.ports.live (0x48000 + 512 * k) 512

/-- ARM as live in a heat (R50, R51). -/
def armedIn (s : State) (heat : Nat) : Bool :=
  if heat < s.heat.num then s.sprint.armedPrev else rf s .sprint 0 0x040 0 0 = 1

/-- The token in flight with a tag. -/
def tokenOf (s : State) (tag : Nat) : Option Token := s.sprint.tokens.find? (·.tag = tag)

/-- Change the token with a tag. -/
def tokMod (s : State) (tag : Nat) (f : Token → Token) : State :=
  let l := s.sprint.tokens.map fun x => if x.tag = tag then f x else x
  { s with sprint := { s.sprint with tokens := l } }

/-- Withdraw a token's packets that have not begun to leave (R47). -/
def withdraw (s : State) (key : Nat) : State :=
  let keep := fun (x : TxPkt) => x.begun || x.token != some key
  let links := mmapv s.links fun _ k => { k with txq := mmapv k.txq fun _ l => l.filter keep }
  { s with links := links }

/-- The identity of a token (R383). DEDUCED (assumption log 18). -/
def tokenId (x : Token) : TokenId := ⟨x.heat % 65536, x.tok.port, x.tok.ordinal, x.tok.msg⟩

/-- The identity as 8 bytes, which are also the token's tag: heat, port, ordinal, MSG. DEDUCED (assumption log 18). -/
def idBytes (i : TokenId) : List Byte :=
  toLE i.heat 2 ++ toLE i.port 1 ++ toLE i.ordinal 4 ++ toLE i.msg 1

/-- Compare-before-emit is active: MODE 1 in a PAIRED pair (R388). DEDUCED (assumption log 52). -/
def cbeActive (s : State) : Bool := s.twin.pair = 1 && rf s .twin 0 0x040 0 0 = 1

/-- The device's own outcome of a token in compare-before-emit (R388): partner messages are used up,
and later ones are orphans. -/
def cbeOutcome (s : State) (x : Token) : State :=
  if cbeActive s then
    let id := tokenId x
    { s with twin := { s.twin with
      cbeDone := s.twin.cbeDone ++ [id], cbeEarly := s.twin.cbeEarly.filter fun e => e.1 != id } }
  else s

/-- The root's node is of a token. -/
def nodeOf (x : Token) (n : TreeNode) : Bool := n.sprint && n.group = x.group && n.tag = x.tag

/-- The root's own query is of a token. -/
def queryJob (x : Token) (j : PosJob) : Bool := j.group = x.group && j.tag = x.tag

/-- The flags that have come to the root for a token (R139): its own, and those that its nodes and the
root's own partials hold. -/
def tokenFlags (sp : SprintSt) (x : Token) : Flags :=
  let f := (sp.nodes.filter (nodeOf x)).foldl (fun f n => f ||| n.flags) x.flags
  (sp.jobs.filter (queryJob x)).foldl (fun f j => f ||| j.flags) f

/-- A token's last use: it leaves the root with its nodes, its sums and the root's own queries, its packets
are withdrawn (R47), its flags reach NUMF.SPRINT (R139), and its outcome stands (R388). -/
def tokenGone (s : State) (x : Token) : State :=
  let s := withdraw (gatherSprint (cbeOutcome s x) (tokenFlags s.sprint x)) (x.group * 2 ^ 64 + x.tag)
  let sp := s.sprint
  { s with sprint := { sp with
    tokens := sp.tokens.filter fun y => y.tag != x.tag
    nodes := sp.nodes.filter fun n => !nodeOf x n
    jobs := sp.jobs.filter fun j => !queryJob x j
    sums := mdel (mdel sp.sums (2 * x.tag)) (2 * x.tag + 1) } }

/-- A SUPPRESS (type 2) or NO_ACTION (type 3) message of a token (R411). -/
def tokenTap (s : State) (x : Token) (type reason : Nat) : State :=
  tapSend s ⟨type, reason, x.tok.port, x.tok.stream, x.tok.msg, x.tok.ingress, 0, x.tok.seq.toNat,
    x.heat, []⟩

/-- Suppress a token's decision with the reason of R411. DEDUCED (assumption log 47). -/
def suppress (s : State) (x : Token) (reason : Nat) : State := tokenTap (tokenGone s x) x 2 reason

/-- Add an entry to the digest of a heat (R385): a decision's, or a subtree sum's. A paired twin keeps
a digest of each heat from its beginning. -/
def digestAdd (s : State) (heat : Nat) (dec : Bool) (entry : DWord) : State :=
  match mget s.twin.digests heat with
  | some d =>
    let e := entry.toNat
    let d := if dec then { d with nDec := d.nDec + 1, dec := (d.dec + e) % 2 ^ 64 }
      else { d with nSum := d.nSum + 1, sum := (d.sum + e) % 2 ^ 64 }
    { s with twin := { s.twin with digests := mset s.twin.digests heat d } }
  | none => s

/-- Count void tokens (R53, R65): FCS_VOID, or LEN_IP_LONG for length case 1. DEDUCED (assumption
log 44). -/
def voidCount (s : State) (port verdict c : Nat) : State :=
  epCount s port (if verdict = 2 then 9 else 6) c

end Sys2Proof.Machine
end

