-- ==== Sys2Proof/Machine/Ports.lean ====
section
/-!
DEFINITION. Event ports, parser and stream lookup (chapter 03): ingress (R71), header rules (R52,
R55, R58, R63 to R65), the parser's instructions (R59 to R61), frame checks (R53, R56) and the
stream lookup (R68 to R70).
-/
namespace Sys2Proof.Machine
open Sys2Proof

/-- The stern of a pair holds a frame stamped within 60 ns of a boundary until the cut (R27).
DEDUCED (assumption log 53). -/
def heldForCut (s : State) (t : Time) : Bool :=
  s.twin.pair = 1 && isStern s && s.heat.timeOk
    && (s.heat.next ≤ t + 240 || (s.twin.cutWait && t ≤ s.twin.cutTime + 240))

/-- The heat that contains an ingress stamp (R22). Where seal time has stepped back so far that R333's
formula gives a heat below the held number, that lower heat is taken. DESIGN CHOICE (assumption log
94): R22 does not say what contains the stamp then. -/
def heatOfStamp (s : State) (t : Time) : Nat := if s.heat.timeOk then heatAt s t else s.heat.num

/-- A frame is dropped at ingress (R71, R411): counted and recorded. -/
def ingressDrop (s : State) (port : Nat) (t : Time) : State := aggAdd (epCount s port 20) 1 port t t

/-- The frame on EPORT1 that gives way to one on EPORT0 whose first bit arrives in the same fabric cycle
(R71): the newest there, stamped in that cycle, its headers not yet come. -/
def ingressTie (s : State) (port : Nat) (t : Time) : Option RxFrame :=
  match s.ports.p1.frames.getLast? with
  | some f => if port = 0 && fabCycle f.stamp = fabCycle t && !f.parsed then some f else none
  | none => none

/-- The frames judged before a new one (R71): of two in one fabric cycle EPORT0's is judged first, so that
where only one has room, EPORT1's is dropped. -/
def ingressRoom (s : State) (port : Nat) (t : Time) : State :=
  match ingressTie s port t with
  | some f =>
    if 256 < queueTaken s + 32 && queueTaken s ≤ 256 then
      let p1 := s.ports.p1
      ingressDrop { s with ports := { s.ports with p1 := { p1 with frames := p1.frames.dropLast } } } 1
        f.stamp
    else s
  | none => s

/-- FRAME_INGRESS (R71, R406): the seal stamps the frame, and it is admitted with 32 entries or
dropped. Without a seal stamp it is dropped (R351). DEDUCED (assumption log 42). -/
def execFrameIngress (port : Nat) (t : Time) (s : State) : Out :=
  fab s fun s =>
    if port < 2 && rf s .eport port 0x044 0 0 = 1 then
      let up := portUp s port
      let s := seen s t
      let s := if up then epCount s port 0 else s
      if !s.ud.copyValid || s.ud.inReset then (if up then epCount s port 20 else s)
      else
        let e := epGet s port
        let held := heldForCut s t
        let s := { s with ud := sinceAdd s.ud port 1 }
        let s := epSet s port { e with
          count := (e.count + 1) % 2 ^ 32, heldN := e.heldN + b2n held }
        let s := if up then ingressRoom s port t else s
        if !up then s
        else if 256 < queueTaken s + 32 then ingressDrop s port t
        else
          let heat := if held then none else some (heatOfStamp s t)
          let ord := if held then e.count else (e.count + 2 ^ 32 - e.ordBase) % 2 ^ 32
          let f : RxFrame :=
            { stamp := t, ordinal := ord, heat := heat, reserved := 32, parsed := false
              ended := false, bytes := [], badSize := false, ipLong := false, trailer := false
              lenCase := 0, udpOk := true, layers := 0, deep := false, tokens := 0, verdict := none }
          let e := epGet s port
          epSet s port { e with frames := e.frames ++ [f] }
    else s

/-- The outcome of the header rules: the counter of R76 that the frame is counted in (99: none), a
deep frame, or a datagram to parse. -/
inductive HeadOut where
  | drop (ctr : Nat)
  | deep (layers : Nat)
  | udp (layers ipOff udpOff claim : Nat) (v6 : Bool) (src dst : List Byte)
deriving DecidableEq, Repr

/-- Follow IPv6 headers (R52, R55): `nh` the next header's type, `off` its offset. DEDUCED
(assumption log 43). -/
def walkV6 (b : List Byte) (h : Nat) : Nat → Nat → Nat → Nat → HeadOut
  | 0, _, _, layers => .deep layers
  | fuel + 1, nh, off, layers =>
    if nh = 17 then
      if 8 < layers + 1 then .deep (layers + 1)
      else .udp (layers + 1) h off (40 + beNat (slice b (h + 4) 2)) true (slice b (h + 8) 16)
        (slice b (h + 24) 16)
    else if nh = 0 || nh = 43 || nh = 60 || nh = 44 then
      if nh = 44 && beNat (slice b (off + 2) 2) / 8 * 2 + beNat (slice b (off + 2) 2) % 2 != 0 then
        .drop 4
      else if 8 < layers + 1 then .deep (layers + 1)
      else
        let len := if nh = 44 then 8 else 8 * (fld b (off + 1) 1 + 1)
        walkV6 b h fuel (fld b off 1) (off + len) (layers + 1)
    else .drop 3

/-- The rules of R52 from the EtherType on, with the layers counted so far. DEDUCED (assumption
log 43). -/
def parseIp (b : List Byte) (off layers : Nat) : HeadOut :=
  let et := beNat (slice b off 2)
  let h := off + 2
  if et = 0x0800 then
    let ihl := 4 * (fld b h 1 % 16)
    if fld b h 1 / 16 != 4 || ihl < 20 || b.length < h + ihl then .drop 3
    else if fold16 (onesSum (slice b h ihl)) != 0xFFFF then .drop 5
    else if beNat (slice b (h + 6) 2) % 0x4000 != 0 then .drop 4
    else if fld b (h + 9) 1 != 17 then .drop 3
    else if 8 < layers + 2 then .deep (layers + 2)
    else .udp (layers + 2) h (h + ihl) (beNat (slice b (h + 2) 2)) false (slice b (h + 12) 4)
      (slice b (h + 16) 4)
  else if et = 0x86DD then
    if fld b h 1 / 16 != 6 then .drop 3
    else walkV6 b h 8 (fld b (h + 6) 1) (h + 40) (layers + 1)
  else .drop 3

/-- A tag's TPID. -/
def isTag (n : Nat) : Bool := n = 0x88A8 || n = 0x8100

/-- Tags (R52): an outer one, then an inner one with TPID 0x8100; a third is refused. DEDUCED
(assumption log 43). -/
def parseTags (b : List Byte) : HeadOut :=
  let et := fun o => beNat (slice b o 2)
  if !isTag (et 12) then parseIp b 12 1
  else if et 16 != 0x8100 then parseIp b 16 2
  else if isTag (et 20) then .drop 23
  else parseIp b 20 3

/-- The destination MAC address is accepted (R52, R76). The address of MAC_HI and MAC_LO is read as one
number in network order: HI holds the first two bytes of the address, LO the last four, the first of
each in its high bits. DESIGN CHOICE (assumption log 43): R76 does not say which byte lies where. -/
def macOk (s : State) (port : Nat) (b : List Byte) : Bool :=
  let d := beNat (slice b 0 6)
  let w := fun o => rg s .eport port o
  epCfg s port 3 || d = w 0x048 + 2 ^ 32 * (w 0x04C % 65536)
    || (List.range 32).any fun k =>
        bit (w (0x084 + 8 * k)) 16 && d = w (0x080 + 8 * k) + 2 ^ 32 * (w (0x084 + 8 * k) % 65536)

/-- Change the frame of a port with a stamp. -/
def frameMod (s : State) (port : Nat) (stamp : Time) (f : RxFrame → RxFrame) : State :=
  let e := epGet s port
  epSet s port { e with frames := e.frames.map fun x => if x.stamp = stamp then f x else x }

/-- The frame of a port with a stamp. -/
def frameOf (s : State) (port : Nat) (stamp : Time) : Option RxFrame :=
  (epGet s port).frames.find? (·.stamp = stamp)

/-- A frame whose parsing has ended and whose checks are made leaves; a frame that failed its FCS or length
case 1 and yielded no token counts once. DEDUCED (assumption log 44). -/
def frameDone (s : State) (port : Nat) (stamp : Time) : State :=
  match frameOf s port stamp with
  | none => s
  | some f =>
    match f.ended, f.verdict with
    | true, some v =>
      let s := if (v = 1 || v = 2) && f.tokens = 0 && !f.badSize then voidCount s port v 1 else s
      let e := epGet s port
      epSet s port { e with frames := e.frames.filter fun x => x.stamp != stamp }
    | _, _ => s

/-- The last token of a frame carries LAST_IN_FRAME: the one formed last, when parsing ends (R67).
DEDUCED (assumption log 45). -/
def markLast (s : State) (port : Nat) (stamp : Time) (idx : Nat) : State :=
  let hit := fun (k : TokRec) => k.port = port && k.ingress = stamp && k.msg = idx
  let q := s.ports.tokQ.map fun k => if hit k then { k with last := true } else k
  let l := s.sprint.tokens.map fun x =>
    if hit x.tok then { x with tok := { x.tok with last := true } } else x
  { s with ports := { s.ports with tokQ := q }, sprint := { s.sprint with tokens := l } }

/-- Parsing of a frame ends (R71): its unused entries are released. -/
def parseEnd (s : State) (port : Nat) (stamp : Time) : State :=
  let e := epGet s port
  let s := epSet s port { e with run := none }
  let s := frameMod s port stamp fun f => { f with ended := true, reserved := 0 }
  let lastMsg := (s.ports.tokQ ++ s.sprint.tokens.map (·.tok)).foldl (fun (m : Option Nat) k =>
    if k.port = port && k.ingress = stamp then some (max (m.getD 0) k.msg) else m) none
  let s := match lastMsg with
    | some i => markLast s port stamp i
    | none => s
  frameDone s port stamp

/-- Copy a deep frame to the event-exception ring (R56), or count it as dropped. -/
def exceptionCopy (s : State) (port : Nat) (f : RxFrame) : State :=
  let slots := rf s .parse 0 0x058 16 1
  let tail := rf s .parse 0 0x05C 15 0
  if rf s .parse 0 0x058 0 0 = 0 || slots < 2 || (tail + 1) % slots = rf s .parse 0 0x060 15 0 then
    bump s .parse 0 0x064
  else
    let base := rg s .parse 0 0x050 + 2 ^ 32 * rg s .parse 0 0x054
    let hdr := toLE f.stamp 8 ++ toLE f.bytes.length 2 ++ toLE port 1 ++ toLE 1 1 ++ toLE f.layers 1
    let s := hostWrite s (base + tail * 9280) (slice hdr 0 64 ++ f.bytes)
    event (rset s .parse 0 0x05C ((tail + 1) % slots)) .parse 0

/-- A deep frame (R55): counted, and no token of it. One whose checks were made before its depth showed
is copied at once (R56). -/
def deepEnd (s : State) (port : Nat) (stamp : Time) (layers : Nat) : State :=
  let s := frameMod (epCount s port 2) port stamp fun f => { f with deep := true, layers := layers }
  let s := match frameOf s port stamp with
    | some f => if f.verdict.isSome && f.verdict != some 1 && epCfg s port 1 then exceptionCopy s port f
      else s
    | none => s
  parseEnd s port stamp

/-- The flow entry a datagram selects (R58): the first valid one that matches. DEDUCED (assumption
log 45). -/
def flowMatch (s : State) (port : Nat) (v6 : Bool) (dst : List Byte) (dport : Nat) : Option Nat :=
  (List.range 256).find? fun i =>
    let a := flowAddr port i
    let c := rdLE s.ports.live (a + 18) 1
    bit c 0 && bit c 1 = v6 && rdBytes s.ports.live a dst.length = dst
      && rdLE s.ports.live (a + 16) 2 = dport

/-- The UDP checksum of a datagram holds (R52): its sum with the pseudo-header is all ones.
DEDUCED (assumption log 43). -/
def udpSumOk (src dst udp : List Byte) : Bool :=
  fold16 (onesSum (src ++ dst ++ toBE 17 2 ++ toBE udp.length 4 ++ udp)) = 0xFFFF

/-- The parser begins on a datagram (R58): its state cleared. -/
def startRun (stamp : Time) (prog base limit layers flow : Nat) : ParserRun :=
  { stamp := stamp, prog := prog, pc := 0, base := base, limit := limit, cur := 0, mstart := 0
    mset := false, m := 0, acc := [0, 0, 0, 0], cond := false, stream := 0, seq := 0
    fields := List.replicate 10 0, icount := 0, mcount := 0, layers := layers, begun := false
    flow := flow }

/-- FRAME_HEADER_PARSE (R52, R55, R58, R63 to R65) on the first admitted frame not yet parsed; `b` its
bytes from the destination MAC address to the last byte before the FCS. DEDUCED (assumption log
42). -/
def execFrameHeaderParse (port : Nat) (b : List Byte) (s : State) : Out :=
  fab s fun s =>
    let e := epGet s port
    match e.frames.find? (fun f => !f.parsed), e.run with
    | some f, none =>
      let len := b.length
      let s := frameMod s port f.stamp fun f => { f with parsed := true, bytes := b }
      let fin := fun (s : State) => parseEnd s port f.stamp
      let drop := fun c => fin (epCount s port c)
      if 9216 < len || len < 60 then
        fin (frameMod (epCount s port 22) port f.stamp fun f => { f with badSize := true })
      else if beNat (slice b 12 2) = 0x8808 then drop 21
      else if !macOk s port b then fin s
      else match parseTags b with
        | .drop c => drop c
        | .deep n => deepEnd s port f.stamp n
        | .udp layers h u claim v6 src dst =>
          let ulen := beNat (slice b (u + 4) 2)
          let sum := beNat (slice b (u + 6) 2)
          let p := claim - (u - h)
          let long := decide (len - h < claim)
          let case := if ulen < 8 then 11 else if p < ulen then 12 else if ulen < p then 13 else 0
          let ok := case = 11 || case = 12 || sum = 0 || udpSumOk src dst (slice b u ulen)
          let s := frameMod s port f.stamp fun f => { f with
            ipLong := long, trailer := decide (claim < len - h) && decide (60 < len)
            lenCase := case, udpOk := ok, layers := layers }
          if case = 11 || case = 12 then parseEnd s port f.stamp
          else if v6 && sum = 0 && !epCfg s port 2 then parseEnd (epCount s port 5) port f.stamp
          else match flowMatch s port v6 dst (beNat (slice b (u + 2) 2)) with
            | none => parseEnd (epCount s port 7) port f.stamp
            | some i =>
              let prog := bits (rdLE s.ports.live (flowAddr port i + 18) 1) 5 2
              let e := epGet s port
              epSet s port { e with run := some (startRun f.stamp prog (u + 8) (ulen - 8) layers i) }
    | _, _ => s

/-- The instruction word at the parser's program counter (R57, R59). -/
def parserWord (s : State) (r : ParserRun) : Nat :=
  rdLE s.ports.live (0x44000 + 256 * r.prog + 4 * r.pc) 4

/-- A message found inconsistent (R66): the rest of the datagram is lost and the flow's DROP_EPOCH
counts. `ctr` is the counter of its case, if any. -/
def inconsistent (s : State) (port : Nat) (r : ParserRun) (ctr : Option Nat) : State :=
  let s := match ctr with
    | some c => epCount s port c
    | none => s
  parseEnd (bumpEpoch s port r.flow) port r.stamp

/-- Go on with a parser state; a program that runs past instruction 63 ends (R59). DEDUCED
(assumption log 45). -/
def parserGo (s : State) (port : Nat) (r : ParserRun) : State :=
  if 64 ≤ r.pc then parseEnd s port r.stamp
  else
    let e := epGet s port
    epSet s port { e with run := some r }

/-- One parser instruction of a class: the running datagram, its 32 bits, and the limit of 48
instructions in a message (R61). `f` gets the state after the instruction is counted and the program
counter has moved on. -/
def parserStep (port cls : Nat) (s : State) (f : ParserRun → Nat → State → State) : Out :=
  fab s fun s =>
    match (epGet s port).run with
    | some r =>
      let w := parserWord s r
      if w / 2 ^ 28 != cls then s
      else if 48 ≤ r.icount then inconsistent s port r (some 16)
      else f { r with pc := r.pc + 1, icount := r.icount + 1 } w s
    | none => s

/-- Accumulator k. -/
def ParserRun.get (r : ParserRun) (k : Nat) : DWord := r.acc.getD k 0

/-- ACC field of an instruction (R59). -/
def accOf (w : Nat) : Nat := bits w 23 22

/-- SKIP (R59, R55). CUR is a number that never wraps. DESIGN CHOICE (assumption log 94): R59 gives the
cursor no width. -/
def execParserSkip (port : Nat) (s : State) : Out :=
  parserStep port 0 s fun r w s =>
    let by_ := if bit w 26 then (r.get (accOf w)).toNat else bits w 15 0
    let count := bit w 27 && !r.begun
    let r := { r with cur := r.cur + by_, layers := r.layers + b2n count }
    if count && 8 < r.layers then deepEnd s port r.stamp r.layers else parserGo s port r

/-- The frame's bytes up to an offset in its UDP payload have arrived (R53). -/
def arrived (s : State) (port : Nat) (r : ParserRun) (upto : Nat) : Bool :=
  match frameOf s port r.stamp with
  | some f => r.base + upto ≤ f.bytes.length
  | none => false

/-- Bytes that never arrive: once the frame's checks are made its parsing ends; until then the
parser waits. -/
def parserStuck (s : State) (port : Nat) (r : ParserRun) : State :=
  match frameOf s port r.stamp with
  | some f => if f.verdict.isSome then parseEnd s port r.stamp else s
  | none => s

/-- LOAD (R59, R60): within the payload limit and, once M is set, within the message. DEDUCED
(assumption log 45). -/
def execParserLoad (port : Nat) (s : State) : Out :=
  parserStep port 1 s fun r w s =>
    let size := 2 ^ bits w 27 26
    let start := r.cur + bits w 15 0
    if r.limit < start + size || (r.mset && r.mstart + r.m < start + size) then
      inconsistent s port r none
    else if !arrived s port r (start + size) then parserStuck s port r
    else
      let b := match frameOf s port r.stamp with
        | some f => slice f.bytes (r.base + start) size
        | none => []
      let v := if bit w 25 then leNat b else beNat b
      parserGo s port { r with acc := r.acc.set (accOf w) (BitVec.ofNat 64 v) }

/-- The result of an ALU operation that writes its accumulator (R59). -/
def aluResult (op : Nat) (a b : DWord) : DWord :=
  match op with
  | 0 => a + b
  | 1 => a - b
  | 2 => a &&& b
  | 3 => a ||| b
  | 4 => a >>> b.toNat
  | 5 => a <<< b.toNat
  | _ => b

/-- ALU (R59): EQ and LT set COND. -/
def execParserAlu (port : Nat) (s : State) : Out :=
  parserStep port 2 s fun r w s =>
    let op := bits w 27 24
    let a := r.get (accOf w)
    let b := if bit w 21 then r.get (bits w 20 19) else BitVec.ofNat 64 (bits w 15 0)
    if op = 6 then parserGo s port { r with cond := decide (a = b) }
    else if op = 7 then parserGo s port { r with cond := decide (a < b) }
    else parserGo s port { r with acc := r.acc.set (accOf w) (aluResult op a b) }

/-- FIELD (R59). -/
def execParserField (port : Nat) (s : State) : Out :=
  parserStep port 3 s fun r w s =>
    let v := (r.get (accOf w)).setWidth 32
    parserGo s port { r with fields := r.fields.set (bits w 27 24) v }

/-- META (R59): the sequence, the stream, or the message length, with the limits of R55, R60, R61 and
length case 7 of R65. DEDUCED (assumption log 45). -/
def execParserMeta (port : Nat) (s : State) : Out :=
  parserStep port 4 s fun r w s =>
    let a := r.get (accOf w)
    match bits w 27 24 with
    | 0 => parserGo s port { r with seq := a }
    | 1 => parserGo s port { r with stream := a }
    | op =>
      let m := if op = 2 then a.toNat else bits w 15 0
      if 32 ≤ r.mcount then inconsistent s port r (some 15)
      else if !r.begun && 192 < r.base + r.cur then deepEnd s port r.stamp r.layers
      else if m = 0 || r.limit < r.cur + m then inconsistent s port r (some 14)
      else parserGo s port { r with m := m, mstart := r.cur, mset := true, begun := true }

/-- BRANCH (R59): forward by DIST instructions. -/
def execParserBranch (port : Nat) (s : State) : Out :=
  parserStep port 5 s fun r w s =>
    if bit w 26 || r.cond = bit w 27 then parserGo s port { r with pc := r.pc + bits w 5 0 }
    else parserGo s port r

/-- Form a token (R67) for the message of a parser state, ready at `t`; it takes one of the frame's
entries. -/
def formToken (s : State) (port : Nat) (r : ParserRun) (t : Time) : State :=
  match frameOf s port r.stamp with
  | none => s
  | some f =>
    let k : TokRec :=
      { stream := r.stream.toNat, gap := false, first := false, port := port, last := false
        seq := r.seq, ingress := r.stamp, msg := r.mcount, len := r.m, fields := r.fields
        flow := r.flow, epoch := dropEpoch s port r.flow, ordinal := f.ordinal, heat := f.heat
        verdict := f.verdict, ready := t }
    let s := frameMod (epCount s port 1) port r.stamp fun f =>
      { f with reserved := f.reserved - 1, tokens := f.tokens + 1 }
    let s := match f.verdict with
      | some v => if v = 0 then s else voidCount s port v 1
      | none => s
    { s with ports := { s.ports with tokQ := queueToken s.ports.tokQ k } }

/-- EMIT (R59, R61): once the message's bytes have arrived the token is formed, unless its stream has
no valid entry; the cursor moves past the message. DEDUCED (assumption log 45). -/
def execParserEmit (port : Nat) (t : Time) (s : State) : Out :=
  parserStep port 6 s fun r w s =>
    let s := seen s t
    if !r.mset then inconsistent s port r (some 14)
    else if !arrived s port r (r.mstart + r.m) then parserStuck s port r
    else
      let n := r.stream.toNat
      let valid := n < 16384 && bit (streamWord s.ports.live n) 0
      let s := if valid then formToken s port r t else epCount s port 8
      let r := { r with cur := r.mstart + r.m, mset := false, m := 0, stream := 0, seq := 0
                        fields := List.replicate 10 0, icount := 0, mcount := r.mcount + 1
                        pc := bits w 5 0 }
      if r.cur < r.limit then parserGo s port r else parseEnd s port r.stamp

/-- END (R59): DROP counts the current message; bytes before the limit are ignored (R65). -/
def execParserEnd (port : Nat) (s : State) : Out :=
  parserStep port 7 s fun r w s =>
    parseEnd (if bit w 27 then epCount s port 17 else s) port r.stamp

/-- The tokens of a frame that are formed are released for decision or made void (R53): a void token
in flight is suppressed at once. DEDUCED (assumption log 44 and 47). -/
def tokensVerdict (s : State) (port : Nat) (stamp : Time) (v : Nat) : State :=
  let own := fun (k : TokRec) => k.port = port && k.ingress = stamp
  let q := s.ports.tokQ.map fun k => if own k then { k with verdict := some v } else k
  let l := s.sprint.tokens.map fun x =>
    if own x.tok then { x with tok := { x.tok with verdict := some v } } else x
  let s := { s with ports := { s.ports with tokQ := q }, sprint := { s.sprint with tokens := l } }
  if v = 0 then s
  else (s.sprint.tokens.filter fun x => own x.tok).foldl (fun s x => suppress s x 2) s

/-- FRAME_CHECK (R53): the FCS, length case 1 and the UDP checksum of the first frame that awaits
them; then cases 2 to 5 are counted (R65), and a deep frame is copied (R56). DEDUCED
(assumption log 44). -/
def execFrameCheck (port : Nat) (fcs : Word) (t : Time) (s : State) : Out :=
  fab s fun s =>
    match (epGet s port).frames.find? (fun f => f.verdict.isNone) with
    | some f =>
      if !f.parsed then s
      else
        let s := seen s t
        let fcsOk := crc32 f.bytes = fcs
        let v := if f.badSize then 0 else if !fcsOk then 1 else if f.ipLong then 2
          else if f.udpOk then 0 else 3
        let s := if fcsOk && !f.badSize && !f.ipLong && !f.udpOk then epCount s port 5 else s
        let s := if v = 0 && f.trailer then epCount s port 10 else s
        let s := if v = 0 && f.lenCase != 0 then epCount s port f.lenCase else s
        let s := if v != 0 && 0 < f.tokens then voidCount s port v f.tokens else s
        let s := if f.deep && fcsOk && epCfg s port 1 then exceptionCopy s port f else s
        let s := frameMod s port f.stamp fun f => { f with verdict := some v }
        frameDone (tokensVerdict s port f.stamp v) port f.stamp
    | none => s

/-- Apply R70 at a stream's entry: the token's flags, or none for a duplicate, and the counters and
fields that the rows name. DEDUCED (assumption log 46). -/
def sequence (s : State) (k : TokRec) : Option TokRec × State :=
  let w := streamWord s.ports.live k.stream
  let next := rdLE s.ports.live (16 * k.stream + 8) 8
  let seq := k.seq.toNat
  let check := bit w 1
  let flow := k.flow + 256 * k.port
  let setNext := fun (s : State) => tblHw s (16 * k.stream + 8) (toLE (seq + 1) 8)
  let setFlow := fun (s : State) =>
    tblHw s (16 * k.stream) (toLE (putBits w 24 8 (k.epoch + 256 * flow)) 4)
  if !mgetD s.ports.seen k.stream false then
    let s := { s with ports := { s.ports with seen := mset s.ports.seen k.stream true } }
    (some { k with first := true }, setFlow (setNext s))
  else if check && seq < next then (none, epCount s k.port 18)
  else
    let gapSeq := check && decide (next < seq)
    let gapFlow := bits w 15 8 != k.epoch || bits w 24 16 != flow
    let s := if check then setNext s else s
    let s := if gapFlow then setFlow s else s
    let s := if gapSeq || gapFlow then epCount s k.port 19 else s
    (some { k with gap := gapSeq || gapFlow }, s)

/-- A valid entry passes its token to a descriptor (R68, R40, R45): one that is disabled counts the token in
UNMAPPED, an enabled one in TOKENS. A token of a heat in which the device is not armed, or whose device
answers no token (R381), goes no further. DEDUCED (assumption log 48). -/
def passToken (s : State) (k : TokRec) (heat : Nat) : State :=
  let n := bits (streamWord s.ports.live k.stream) 7 2
  let cfg := descWord s n 0 heat
  if !dEn cfg then bump s .sprint 0 0x054
  else
    let s := bump s .sprint 0 0x048
    if !armedIn s heat || awaitsPair s then s
    else
      let id : TokenId := ⟨heat % 65536, k.port, k.ordinal, k.msg⟩
      let x : Token :=
        { tag := leNat (idBytes id), tok := k, heat := heat, desc := n, cfg := cfg
          group := dGroup cfg
          deadline := k.ingress + ns (bits (descWord s n 8 heat) 29 0)
          phase := .looked, row := bits (streamWord s.ports.live k.stream) 30 25
          layer := 0, x := [], flags := 0, emit := false
          tmpl := 0, words := [], frame := [], entry := 0, cbeAt := 0 }
      match k.verdict with
      | some v =>
        if v = 0 then { s with sprint := { s.sprint with tokens := s.sprint.tokens ++ [x] } }
        else tokenTap (cbeOutcome s x) x 2 2
      | none => { s with sprint := { s.sprint with tokens := s.sprint.tokens ++ [x] } }

/-- A token is held in the query unit while its queries wait for VC0 (R425): they are not formed yet, or
packets of it wait in this device's VC0 queues. DEDUCED (assumption log 96). -/
def queryHeld (s : State) (x : Token) : Bool :=
  let waits := fun (y : TxPkt) => !y.begun && y.token = some (x.group * 2 ^ 64 + x.tag)
  x.phase = .looked
    || s.links.any fun e => (mgetD e.2.txq 0 []).any waits || (mgetD e.2.txq 1 []).any waits

/-- The query unit holds 64 tokens for a descriptor (R425). -/
def queryFull (s : State) (desc : Nat) : Bool :=
  64 ≤ (s.sprint.tokens.filter fun x => x.desc = desc && queryHeld s x).length

/-- STREAM_LOOKUP (R68 to R70, R425): the first token of the queue, once its heat is assigned and the
query unit has a place for its descriptor. One whose entry a swap has made invalid since it was formed is
discarded as R61 discards a message without an entry. DEDUCED (assumption log 46). -/
def execStreamLookup (t : Time) (s : State) : Out :=
  fab s fun s =>
    match s.ports.tokQ with
    | [] => s
    | k :: rest =>
      match k.heat with
      | none => s
      | some heat =>
        let w := streamWord s.ports.live k.stream
        if bit w 0 && queryFull s (bits w 7 2) then s
        else
        let s := seen s t
        let s := { s with ports := { s.ports with tokQ := rest } }
        if !bit w 0 then epCount s k.port 8
        else match sequence s k with
          | (none, s) => s
          | (some k, s) => passToken s k heat

/-- The bits that are fields of an instruction's class (R59); any other must be 0. -/
def insnMask : Nat → Nat
  | 0 => 0xFCC0FFFF
  | 1 => 0xFEC0FFFF
  | 2 => 0xFFF8FFFF
  | 3 => 0xFFC00000
  | 4 => 0xFFC0FFFF
  | 5 => 0xFC00003F
  | 6 => 0xF000003F
  | 7 => 0xF8000000
  | _ => 0

/-- The instruction at index i passes the load check (R59, R62). -/
def insnOk (i w : Nat) : Bool :=
  let cls := w / 2 ^ 28
  let op := bits w 27 24
  cls < 8 && w &&& insnMask cls = w
    && (cls != 2 || op ≤ 8) && (cls != 3 || op ≤ 9) && (cls != 4 || op ≤ 3)
    && (cls != 5 || (1 ≤ bits w 5 0 && i + 1 + bits w 5 0 < 64))
    && (cls != 6 || bits w 5 0 < i)

/-- A program of a table copy passes the load check. -/
def programOk (m : Memory) (p : Nat) : Bool :=
  (List.range 64).all fun i => insnOk i (rdLE m (0x44000 + 256 * p + 4 * i) 4)

/-- A patch word fits a template of a length (R72). -/
def patchOk (len w : Nat) : Bool := bits w 7 0 + 2 ^ bits w 9 8 ≤ len && bits w 15 11 ≤ 7

/-- A template passes the load check (R62, R72), whether its EN is 1 or 0; of its 16 patch words the first
NPATCH are patches. DEDUCED (assumption log 19). -/
def templateOk (img : List Byte) : Bool :=
  let h := fld img 0 4
  let len := bits h 8 0
  let n := bits h 14 10
  60 ≤ len && len ≤ 256 && n ≤ 16
    && (List.range n).all fun j => patchOk len (fld img (260 + 4 * j) 4)

/-- The first failing program or template of the shadow tables (R62): the index of a program, or 64 plus
that of a template, as PARSE.STATUS gives it. -/
def loadCheck (s : State) : Option Nat :=
  match (List.range 16).find? fun p => !programOk s.ports.shadow p with
  | some p => some p
  | none => ((List.range 64).find? fun k =>
      !templateOk (rdBytes s.ports.shadow (0x48000 + 512 * k) 512)).map (64 + ·)

/-- The shadow tables become live (R57, R70): a stream whose entry became valid or changed SEQ_CHECK
awaits its first token again. The refill of the shadow begins. DEDUCED (assumption log 40). -/
def tablesSwap (s : State) : State :=
  let old := s.ports.live
  let new := s.ports.shadow
  let same := fun n =>
    bit (streamWord old n) 0 && bit (streamWord new n) 0
      && bit (streamWord old n) 1 = bit (streamWord new n) 1
  { s with ports := { s.ports with
    live := new, refill := true, seen := mfilter s.ports.seen fun n _ => same n } }

/-- Store a word in the shadow copy at an offset, but for the bits that hardware maintains (R57). The hole
0x4_5000 to 0x4_7FFF, which no row of R57 names, stores what is written to it and has no other use.
DESIGN CHOICE (assumption log 94). -/
def tblPut (s : State) (w : Nat × Word) : State :=
  let b := (toLE w.2.toNat 4).mapIdx fun i x =>
    let m := tblHwMask (w.1 + i)
    (x &&& ~~~m) ||| (rdB s.ports.shadow (w.1 + i) &&& m)
  if 0x50000 ≤ w.1 then s
  else { s with ports := { s.ports with shadow := wrBytes s.ports.shadow w.1 b } }

/-- A write of TBL_DATA (R57, R340): the shadow word at TBL_ADDR; TBL_ADDR advances by 4. During the refill
the word waits for its end, with the offset at which the write was served (R309). -/
def tblWrite (s : State) (v : Word) : State :=
  let w := (4 * rf s .parse 0 0x040 18 2, v)
  let s := if s.ports.refill then { s with ports := { s.ports with tblWait := s.ports.tblWait ++ [w] } }
    else tblPut s w
  rput s .parse 0 0x040 18 2 (rf s .parse 0 0x040 18 2 + 1)

/-- PARSE_REFILL_DONE (R57): the shadow holds a copy of the live tables, and the writes that waited
complete in their order. -/
def execParseRefillDone (s : State) : Out :=
  fab s fun s =>
    if s.ports.refill then
      let waiting := s.ports.tblWait
      let s := { s with ports := { s.ports with
        shadow := s.ports.live, refill := false, tblWait := [] } }
      waiting.foldl tblPut s
    else s

end Sys2Proof.Machine
end

