-- ==== Sys2Proof/Machine/Sprint.lean ====
section
/-!
DEFINITION. The sprint (chapter 02): the readout (R36, R37), queries and partials on the trees (R199,
R200, R263, R268), decisions (R72 to R75, R385, R388) and their end (R47 to R49), and the disarming
(R51).
-/
namespace Sys2Proof.Machine
open Sys2Proof

/-- Base of the readout record that serves a token: the half live in its heat (R22, R24, R37). -/
def recordBase (s : State) (x : Token) : Nat :=
  let half := mgetD s.sprint.roLive x.desc false
  readoutBase x.desc (if mgetD s.sprint.roFrom x.desc 0 ≤ x.heat then half else !half)

/-- Element i of a BF16 vector of the record at an offset (R37). -/
def recBf (s : State) (base off i : Nat) : Num :=
  vbf (BitVec.ofNat 16 (rdLE s.sprint.readout (base + off + 2 * i) 2))

/-- Offset of the matrices of layer l, from 0 (R37): A, then B, then C. -/
def layerOff (g l : Nat) : Nat := 0x45940 + l * (2 * g + 1) * 2048

/-- The first state vector (R36). -/
def firstX (s : State) (x : Token) : List (Word × Flags) :=
  let base := recordBase s x
  (List.range 1024).map fun i =>
    let a := r32 (addN (recBf s base 0x140 i) (recBf s base (0x940 + 2048 * x.row) i))
    (x.tok.fields.zipIdx).foldl (fun acc fk =>
      let v := r32 (ofInt (signed 32 fk.1.toNat), 0)
      let r := fma32 (v32 v.1) (recBf s base (0x20940 + 2048 * fk.2) i) acc.1
      (r.1, acc.2 ||| v.2 ||| r.2)) a

/-- The query lines of a tree for a layer (R36): heads 0 to 3 or 4 to 7, for each its g lines of 128
BF16 elements. -/
def queryOf (s : State) (x : Token) (l : Nat) (xs : List Word) (weft : Bool) : List (Half × Flags) :=
  let g := dQpk x.cfg + 1
  let base := recordBase s x
  (List.range (4 * g * 128)).map fun k =>
    let h := k / (g * 128) + 4 * b2n weft
    let j := k / 128 % g
    let i := 128 * h + k % 128
    let p := mulN (recBf s base (layerOff g l + 2048 * j) i) (v32 (xs.getD i 0))
    let r := roundTo bf16 .rne false p.1
    (BitVec.ofNat 16 r.1, p.2 ||| r.2)

/-- A query packet's or a partial's header on a tree (R267): OP 0, FMT of the data. DEDUCED
(assumption log 50). -/
def sprintPkt (s : State) (g : Nat) (gr : Group) (dest heat tag : Nat) (weft last : Bool) (fmt : Nat)
    (flags : Flags) (data : List Byte) : HPkt :=
  groupPkt s g gr 0x10 dest heat (groupAddr gr weft false 0 last 0 fmt) tag flags data

/-- A position takes a query: its job for that tree, and a node of the tree for the layer (R199,
R263). -/
def takeQuery (s : State) (g : Nat) (gr : Group) (tag heat : Nat) (weft : Bool) (q : List Half) : State :=
  let same := fun (j : PosJob) => j.group = g && j.tag = tag && j.weft = weft
  let layer := match s.sprint.jobs.find? same with
    | some j => j.layer + 1
    | none => 0
  let job : PosJob := ⟨g, tag, weft, layer, heat, q, [], 0⟩
  let jobs := s.sprint.jobs.filter (fun j => !same j) ++ [job]
  let node := newNode s true g gr tag layer weft 9 heat
  let nodes := s.sprint.nodes.filter
    (fun n => !(n.sprint && n.group = g && n.tag = tag && n.weft = weft)) ++ [node]
  { s with sprint := { s.sprint with jobs := jobs, nodes := nodes } }

/-- The root sends a layer's queries down both trees and takes them at its own position (R35, R36). -/
def sendQueries (s : State) (x : Token) (l : Nat) (xs : List Word) : State × Flags :=
  match groupGet s x.group with
  | none => (s, 0)
  | some gr =>
    [false, true].foldl (fun acc weft =>
      let q := queryOf s x l xs weft
      let hs := q.map (·.1)
      let b := hs.flatMap fun h => toLE h.toNat 2
      let s := sendVec acc.1 (kidDevs acc.1 gr weft) b fun d last _ piece =>
        sprintPkt acc.1 x.group gr d x.heat x.tag weft last 1 0 piece
      (takeQuery s x.group gr x.tag x.heat weft hs, acc.2 ||| orFlags q)) (s, (0 : Flags))

/-- SPRINT_QUERY_FORM (R36): the first state vector and the queries of layer 1. -/
def execSprintQueryForm (tag : Nat) (s : State) : Out :=
  fab s fun s =>
    match tokenOf s tag with
    | some x =>
      if x.phase != .looked then s
      else
        let v := firstX s x
        let xs := v.map (·.1)
        let r := sendQueries s x 0 xs
        tokMod r.1 tag fun x => { x with phase := .asking, x := xs, flags := orFlags v ||| r.2 }
    | none => s

/-- A pass over a sprint unit: FP4 at D = 128 (R197). -/
def sprintPass : Pass := { parsePass [] with kvfmt := 5, dim := 128 }

/-- Canonical NaN words of a poisoned unit's partial (R436). -/
def nanPartial (g : Nat) : List Word := List.replicate (129 * g) (BitVec.ofNat 32 (nanOf twill32))

/-- A unit's partial for its head's g query lines (R199): S and 128 sums for each line. -/
def unitPartial (b : List Byte) (q : List Half) (g head : Nat) : List Word × Flags :=
  let one : Num := ofInt 1
  let res := (List.range g).map fun j =>
    let line := (List.range 128).map fun d => vbf (q.getD ((head * g + j) * 128 + d) 0)
    (List.range 256).foldl (fun acc t =>
      let k := kvRow sprintPass b false t
      let v := kvRow sprintPass b true t
      let sc := scoreOf one line k.1
      let a := accToken acc.1 sc.1 v.1
      (a.1, acc.2 ||| k.2 ||| v.2 ||| sc.2 ||| a.2)) (List.replicate 129 (0 : Word), (0 : Flags))
  (res.flatMap (·.1), orFlags res)

/-- Change the job of a position. -/
def jobMod (s : State) (g tag : Nat) (weft : Bool) (f : PosJob → PosJob) : State :=
  let l := s.sprint.jobs.map fun j =>
    if j.group = g && j.tag = tag && j.weft = weft then f j else j
  { s with sprint := { s.sprint with jobs := l } }

/-- The units a job reads (R22, R200). -/
def jobUnits (s : State) (j : PosJob) : List (Nat × SUnit) :=
  match areaFor s j.group j.heat with
  | some a => unitsFor s j.group j.layer a j.weft
  | none => []

/-- A job waits for units of a shell. -/
def waitsFor (s : State) (j : PosJob) (shell : Nat) : Bool :=
  !j.q.isEmpty && (jobUnits s j).any fun e => e.1 % 2048 = shell && (mget j.parts e.1).isNone

/-- It is a job's turn in a shell (R201): no query that came before it waits there. -/
def shellTurn (s : State) (j : PosJob) (shell : Nat) : Bool :=
  !(s.sprint.jobs.takeWhile (· != j)).any fun y => waitsFor s y shell

/-- The job of a position that still has a query to answer. -/
def jobOf (s : State) (g tag : Nat) (weft : Bool) : Option PosJob :=
  s.sprint.jobs.find? fun j => j.group = g && j.tag = tag && j.weft = weft && !j.q.isEmpty

/-- SPRINT_PARTIAL_COMPUTE (R182, R199, R201, R436): one unit of the token's group and layer is read and
run against the query lines of its head in the sprint buffer of its shell, in the turn of the queries
there; with an uncorrectable word it is poisoned and recorded. DEDUCED (assumption log 72). -/
def execSprintPartialCompute (g tag : Nat) (weft : Bool) (u : Nat) (ecc : Bool) (s : State) : Out :=
  fab s fun s =>
    match jobOf s g tag weft with
    | none => s
    | some j =>
      match (jobUnits s j).find? fun e => e.1 % 16384 = u with
      | none => s
      | some (k, t) =>
        if (mget j.parts k).isSome || !shellTurn s j (u % 2048) then s
        else
          let die := u % 2048 / 256
          let s := bump s .attn 0 (0x10C + 0x10 * die)
          let s := if ecc then
              recordErr { s with sprint := { s.sprint with
                units := mset s.sprint.units k { t with poisoned := true } } } .attn 0 0x39 u
            else s
          let gq := j.q.length / 512
          let r := if ecc || t.poisoned then (nanPartial gq, fNV)
            else unitPartial (sliceGet s (16384 ≤ k) u) j.q gq (t.kvhead % 4)
          let lines := (j.q.drop (t.kvhead % 4 * gq * 128)).take (gq * 128)
          let s := { s with att := { s.att with sbuf := mset s.att.sbuf (u % 2048) ⟨lines, r.1⟩ } }
          jobMod s g tag weft fun j =>
            { j with parts := mset j.parts k r.1, flags := j.flags ||| r.2 }

/-- The position's vector for a tree (R200): for each of its four heads the partials of its units
added in ascending bolt index, from +0. -/
def positionSum (j : PosJob) (us : List (Nat × SUnit)) : List Word × Flags :=
  let g := j.q.length / 512
  let heads := (List.range 4).map fun h =>
    (us.filter fun e => decide (e.2.kvhead % 4 = h)).foldl (fun acc e =>
      match mget j.parts e.1 with
      | some v => let r := addVec 9 acc.1 v; (r.1, acc.2 ||| r.2)
      | none => acc) (List.replicate (129 * g) (0 : Word), (0 : Flags))
  (heads.flatMap (·.1), orFlags heads)

/-- SPRINT_PARTIAL_READY (R200): with every unit computed, the position's sum becomes its own input on
the tree. An adrift device sends no partials: the query is done without one (R395). -/
def execSprintPartialReady (g tag : Nat) (weft : Bool) (s : State) : Out :=
  fab s fun s =>
    match jobOf s g tag weft with
    | none => s
    | some j =>
      let us := jobUnits s j
      let done := fun (s : State) => jobMod s g tag weft fun j => { j with q := [], parts := [], flags := 0 }
      if us.any (fun e => (mget j.parts e.1).isNone) then s
      else if s.twin.adrift then done s
      else
        let r := positionSum j us
        done (nodeMod s true g tag weft fun n =>
          { n with own := some r.1, flags := n.flags ||| j.flags ||| r.2 })

/-- The entry of a subtree sum (R383). DEDUCED (assumption log 51). -/
def sumEntry (tag g layer : Nat) (weft : Bool) (b : List Byte) : DWord :=
  crc64 (toLE tag 8 ++ toLE g 2 ++ toLE layer 1 ++ toLE (b2n weft) 1 ++ b)

/-- The sum of a sprint node: up the tree with its flags, its entry in the digest (R383, R385); at the
root, the layer's tree sum. DEDUCED (assumption log 51). -/
def sprintSum (s : State) (n : TreeNode) (v : List Word) (fl : Flags) : State :=
  match groupGet s n.group with
  | none => s
  | some gr =>
    match parentDev s gr n.weft with
    | some d =>
      let b := bytesOf 4 v
      let s := digestAdd s n.heat false (sumEntry n.tag n.group n.layer n.weft b)
      sendVec s [d] b fun d last _ piece =>
        sprintPkt s n.group gr d n.heat n.tag n.weft last 9 (if last then fl else 0) piece
    | none =>
      let s := tokMod s n.tag fun x => { x with flags := x.flags ||| fl }
      { s with sprint := { s.sprint with
        sums := mset s.sprint.sums (2 * n.tag + b2n n.weft) v } }

/-- TREE_FOLD (R263): a node with all its inputs is folded in member order; its sum goes on. -/
def execTreeFold (i : Nat) (s : State) : Out :=
  fab s fun s =>
    match s.sprint.nodes[i]? with
    | none => s
    | some n =>
      match nodeSum n with
      | none => s
      | some (v, fl) =>
        let s := { s with sprint := { s.sprint with nodes := s.sprint.nodes.eraseIdx i } }
        if n.sprint then sprintSum s n v fl else collSum s n v fl

/-- A query or a partial of a token reaches this device's edge switch (R35, R48, R268): a query from
the parent goes on down and, once whole, to the own position; a partial from a child is an input of
the node, or, at the root without the token, an orphan. One arrival is one whole partial, whatever its
packets. DESIGN CHOICE (assumption log 94): R48 does not say what counts as one. -/
def sprintArrive (s : State) (gr : Group) (p : HPkt) : State :=
  let weft := pktWeft p
  let key := asmKey true p.ctx p.arg weft p.src
  if parentDev s gr weft = some p.src then
    let s := sendAll s (kidDevs s gr weft) fun d => { p with dest := d, src := ownDev s }
    match assemble s key p with
    | (s, none) => s
    | (s, some b) =>
      let q := (chunks 2 b).map fun c => BitVec.ofNat 16 (leNat c)
      takeQuery s p.ctx gr p.arg (stampHeat s p.heat) weft q
  else if (kidDevs s gr weft).contains p.src then
    let s := nodeMod s true p.ctx p.arg weft fun n => { n with flags := n.flags ||| pktFlags p }
    match assemble s key p with
    | (s, none) => s
    | (s, some b) =>
      if isRoot s gr && (tokenOf s p.arg).isNone then bump s .sprint 0 0x058
      else nodeMod s true p.ctx p.arg weft (kidInput p.src (wordsOf 4 b) 0)
  else s

/-- SPRINT packet (R221, R267, R268, R273): on VC0, of a token or of a fast-path collective. A device
in RESYNC or READY answers no token (R381). -/
def execSprintPacket (p : HPkt) (s : State) : Out :=
  fab s fun s =>
    if p.cmd != 0x10 then s
    else takeH s p fun s =>
      match epochOk s p with
      | none => if fastOf p then epochMismatch s p else bumpC s .coll 0 3
      | some gr =>
        if fastOf p then collArrive s gr p
        else if awaitsPair s then s
        else sprintArrive s gr p

/-- Word e of query head j of head h in the two tree sums of a token. -/
def sumWord (s : State) (x : Token) (g h j e : Nat) : Word :=
  let v := mgetD s.sprint.sums (2 * x.tag + h / 4) []
  v.getD ((h % 4 * g + j) * 129 + e) 0

/-- The state vector after a layer (R36, R155). -/
def nextX (s : State) (x : Token) (l : Nat) : List (Word × Flags) :=
  let g := dQpk x.cfg + 1
  let base := recordBase s x
  let off := layerOff g l
  (List.range 1024).map fun i =>
    let h := i / 128
    let p := mulN (recBf s base (off + 4096 * g) i) (v32 (x.x.getD i 0))
    let t := r32 p
    (List.range g).foldl (fun acc j =>
      let o := r32 (divN (vtw (sumWord s x g h j (1 + i % 128))) (vtw (sumWord s x g h j 0)))
      let r := fma32 (recBf s base (off + 2048 * (g + j)) i) (v32 o.1) acc.1
      (r.1, acc.2 ||| o.2 ||| r.2)) t

/-- Decision words w[0] to w[63] (R36). -/
def decisionW (s : State) (x : Token) (xs : List Word) : List (Word × Flags) :=
  let base := recordBase s x
  (List.range 64).map fun k =>
    let b := BitVec.ofNat 32 (rdLE s.sprint.readout (base + 0x40 + 4 * k) 4)
    (xs.zipIdx).foldl (fun acc v =>
      let r := fma32 (recBf s base (0x25940 + 2048 * k) v.2) (v32 v.1) acc.1
      (r.1, acc.2 ||| r.2)) (b, (0 : Flags))

/-- One number is greater than another (R36): −0 and +0 tie. -/
def greaterN (a b : Num) : Bool := ltN b a && !(a.isZero && b.isZero)

/-- Index of the largest of a list: a tie takes the lowest, a NaN orders below every number (R36). -/
def argMax (l : List Num) : Nat :=
  let better := fun (a b : Num) => if a.isNan then false else b.isNan || greaterN a b
  (l.zipIdx.foldl (fun (best : Option (Num × Nat)) v =>
    match best with
    | none => some v
    | some b => if better v.1 b.1 then some v else some b) none).elim 0 (·.2)

/-- The decision record (R36, R156): EMIT, template index and the 64 words; SR or NV among the token's
flags forces EMIT to 0. DEDUCED (assumption log 50). -/
def decisionRecord (s : State) (x : Token) (xs : List Word) (fl : Flags) : Token :=
  let w := decisionW s x xs
  let hd := rdLE s.sprint.readout (recordBase s x) 4
  let lo := (w.take 32).map (·.1)
  let hi := (w.drop 32).map fun v =>
    let c := toInt 32 .rne (v32 v.1)
    ((BitVec.ofInt 32 c.1 : Word), c.2)
  let flags := fl ||| orFlags w ||| orFlags hi
  let best := argMax (((w.drop 1).take (bits hd 17 14 + 1)).map fun v => v32 v.1)
  let emit := ltN (ofInt 0) (v32 (w.headD (0, 0)).1) && (flags &&& (fSR ||| fNV)) = 0
  { x with
    phase := .decided, x := xs, flags := flags, emit := emit
    tmpl := (bits hd 13 8 + best) % 64, words := lo ++ hi.map (·.1) }

/-- SPRINT_LAYER_COMPLETE (R36): with both tree sums, the layer's output is applied; then the next
layer's queries, or the decision record. -/
def execSprintLayerComplete (tag : Nat) (s : State) : Out :=
  fab s fun s =>
    match tokenOf s tag with
    | none => s
    | some x =>
      if x.phase != .asking || (mget s.sprint.sums (2 * tag)).isNone
          || (mget s.sprint.sums (2 * tag + 1)).isNone then s
      else
        let v := nextX s x x.layer
        let xs := v.map (·.1)
        let fl := x.flags ||| orFlags v
        let done := x.layer + 1
        let clear := fun (s : State) => { s with sprint := { s.sprint with
          sums := mdel (mdel s.sprint.sums (2 * tag)) (2 * tag + 1) } }
        if done = dLayers x.cfg then
          let y := decisionRecord s x xs fl
          tokMod (clear s) tag fun _ => { y with layer := done }
        else
          let r := sendQueries (clear s) x done xs
          tokMod r.1 tag fun x => { x with layer := done, x := xs, flags := fl ||| r.2 }

/-- The entry of a decision (R383): EMIT, the template index and the flags take a byte each.
DEDUCED (assumption log 51). -/
def decisionEntry (x : Token) : DWord :=
  crc64 (idBytes (tokenId x) ++ toLE (b2n x.emit) 1 ++ toLE x.tmpl 1 ++ bytesOf 4 x.words
    ++ toLE x.flags.toNat 1)

/-- DECISION_BUILD (R73, R383): the template as live now is taken for the frame; its fields are filled
when it enters the egress queue, since SRC 5 counts the frames sent. -/
def execDecisionBuild (tag : Nat) (s : State) : Out :=
  fab s fun s =>
    match tokenOf s tag with
    | some x =>
      if x.phase != .decided then s
      else tokMod s tag fun x =>
        { x with phase := .built, frame := templateImg s x.tmpl, entry := decisionEntry x }
    | none => s

/-- Write a value of SIZE bytes into a frame (R72). DEDUCED (assumption log 49). -/
def putPatch (f : List Byte) (w v : Nat) : List Byte :=
  let n := 2 ^ bits w 9 8
  putSlice f (bits w 7 0) (if bit w 10 then toLE v n else toBE v n)

/-- The value of a patch of SRC 0 to 5 (R72). `free` stands for a field or word that does not exist.
DESIGN CHOICE (assumption log 6). DEDUCED (assumption log 49). -/
def patchValue (x : Token) (sent free w : Nat) : Nat :=
  let idx := bits w 23 16
  match bits w 15 11 with
  | 0 => if idx < 10 then (x.tok.fields.getD idx 0).toNat else free
  | 1 => x.tok.seq.toNat
  | 2 => x.tok.stream
  | 3 => if idx < 64 then (x.words.getD idx 0).toNat else free
  | 4 => x.tok.ingress
  | _ => sent

/-- Source and destination address of the IP header of a frame, behind up to two tags. -/
def ipAddrs (f : List Byte) : Option (List Byte) :=
  let et := fun o => beNat (slice f o 2)
  let o := if !isTag (et 12) then 12 else if et 16 != 0x8100 then 16 else 20
  if et o = 0x0800 then some (slice f (o + 14) 8)
  else if et o = 0x86DD then some (slice f (o + 10) 32)
  else none

/-- The IPv4 header checksum of the header at an offset (R72, SRC 6). DEDUCED (assumption log 49). -/
def ipSum (f : List Byte) (idx : Nat) : Nat :=
  let h := slice f idx (4 * (fld f idx 1 % 16))
  inetSum (putSlice h 10 [0, 0])

/-- The UDP checksum over the UDP header at an offset (R72, SRC 7). PRESUMED: a sum of 0 is sent as
0xFFFF (assumption log 9). DEDUCED (assumption log 49). -/
def udpSum (f addrs : List Byte) (idx : Nat) : Nat :=
  let len := beNat (slice f (idx + 4) 2)
  let udp := putSlice ((f.drop idx).take len) 6 [0, 0]
  let c := inetSum (addrs ++ toBE 17 2 ++ toBE len 4 ++ udp)
  if c = 0 then 0xFFFF else c

/-- The decision frame (R73): SRC 0 to 5 in index order, then SRC 6, then SRC 7. DEDUCED
(assumption log 49). -/
def buildFrame (x : Token) (sent free : Nat) : List Byte :=
  let hd := fld x.frame 0 4
  let f := slice x.frame 4 (bits hd 8 0)
  let ws := (List.range (bits hd 14 10)).map fun j => fld x.frame (260 + 4 * j) 4
  let src := fun w => bits w 15 11
  let f := (ws.filter fun w => decide (src w ≤ 5)).foldl
    (fun f w => putPatch f w (patchValue x sent free w)) f
  let f := (ws.filter fun w => decide (src w = 6)).foldl
    (fun f w => putPatch f w (ipSum f (bits w 23 16))) f
  (ws.filter fun w => decide (src w = 7)).foldl (fun f w =>
    putPatch f w (match ipAddrs f with
      | some a => udpSum f a (bits w 23 16)
      | none => free)) f

/-- The decision sends a frame (R75). DEDUCED (assumption log 54). -/
def sendsFrame (x : Token) : Bool := x.emit && bit (fld x.frame 0 4) 15

/-- The port of a decision's template (R72). -/
def tmplPort (x : Token) : Nat := b2n (bit (fld x.frame 0 4) 9)

/-- A formed decision record that sends no frame (R75): EMIT is 0, or EN of the template it names is 0. -/
def noAction (s : State) (x : Token) : Bool :=
  match x.phase with
  | .decided => !(x.emit && bit (fld (templateImg s x.tmpl) 0 4) 15)
  | .built => !sendsFrame x
  | _ => false

/-- Frames ahead of a decision for a port (R74): those in its egress queue, and those held in
compare-before-emit, which enter it when the partner agrees (R388). -/
def framesAhead (s : State) (port : Nat) : Nat :=
  (epGet s port).egress.length
    + (s.sprint.tokens.filter fun y => y.phase = .heldCbe && sendsFrame y && tmplPort y = port).length

/-- Release a decision (R74, R75, R407): its frame enters the egress queue and its DECISION message the
tap, or a no-action record goes to the seal. -/
def release (s : State) (x : Token) : State :=
  let s := tokenGone s x
  if sendsFrame x then
    let port := tmplPort x
    let sent := mgetD s.ports.sent x.tmpl 0
    let (n, s) := draw s
    let f := buildFrame x sent (Config.freeWord n).toNat
    let e := epGet s port
    let s := epSet s port { e with egress := e.egress ++ [⟨f, x.desc, x.tmpl, x.tok.ingress, x.tok.msg⟩] }
    let s := { s with ports := { s.ports with
      sent := mset s.ports.sent x.tmpl ((sent + 1) % 2 ^ 64) } }
    tapSend s ⟨0x01, 0, port, x.tok.stream, x.tok.msg, x.tok.ingress, 0, x.tok.seq.toNat, x.heat, f⟩
  else tokenTap s x 3 0

/-- Bytes of a token identity and of a CBE_DIGEST message after TX_TIME (R382). -/
def cbeBody (x : Token) : List Byte :=
  idBytes (tokenId x) ++ toLE (b2n x.emit) 1 ++ toLE x.entry.toNat 8

/-- Act on the partner's message for a token that is ready (R388): its EMIT and ENTRY, or its
CBE_LATE. -/
def cbeJudge (s : State) (x : Token) (m : Option (Bool × DWord)) : State :=
  match m with
  | some (emit, entry) =>
    if emit = x.emit && entry = x.entry then release s x
    else
      let s := twinAlarm (bumpC (suppress s x 5) .twin 0 4)
      { s with twin := { s.twin with fenceDue := true } }
  | none => bumpC (suppress s x 6) .twin 0 5

/-- Late suppression (R47, R388). -/
def lateSuppress (s : State) (x : Token) : State :=
  let s := bump (bump s .sprint 0 0x050) .sprint 0 (0x10C + 16 * x.desc)
  let s := if cbeActive s then twinSend s 4 (idBytes (tokenId x)) else s
  suppress s x 1

/-- Token a comes before token b (R49): by ingress stamp, then by message. DEDUCED (assumption log 54). -/
def stampFirst (a b : TokRec) : Bool :=
  a.ingress < b.ingress || (a.ingress = b.ingress && a.msg < b.msg)

/-- An earlier frame of a port can still form a token. -/
def frameFirst (e : EPort) (t : Time) : Bool := e.frames.any fun f => !f.ended && decide (f.stamp < t)

/-- No earlier token of the descriptor is in flight, waits for its lookup, or can still be formed from an
earlier frame (R49). DEDUCED (assumption log 54). -/
def itsTurn (s : State) (x : Token) : Bool :=
  !(s.sprint.tokens.any (fun y => y.desc = x.desc && y.tag != x.tag && stampFirst y.tok x.tok)
    || s.ports.tokQ.any (fun k =>
      bits (streamWord s.ports.live k.stream) 7 2 = x.desc && stampFirst k x.tok)
    || frameFirst s.ports.p0 x.tok.ingress || frameFirst s.ports.p1 x.tok.ingress)

/-- DECISION_READY (R53, R74, R47, R385, R409, R387, R395, R388): the frame's checks have passed, it is
the token's turn, and at most three frames are ahead of it. A decision that sends no frame is never late
(R75). DEDUCED (assumption
log 52 and 53 and 54). -/
def execDecisionReady (tag : Nat) (t : Time) (s : State) : Out :=
  fab s fun s =>
    match tokenOf s tag with
    | none => s
    | some x =>
      let room := !sendsFrame x
        || (portUp s (tmplPort x) && framesAhead s (tmplPort x) ≤ 3)
      if x.phase != .built || x.tok.verdict != some 0 || !itsTurn s x || !room then s
      else
        let s := seen s t
        if x.deadline < t && !noAction s x then lateSuppress s x
        else
          let s := digestAdd s x.heat true x.entry
          if s.ud.busy then tokenGone (aggAdd s 2 x.tok.port t x.tok.ingress) x
          else if s.twin.fenced then suppress (bumpC s .twin 0 10) x 3
          else if s.sprint.eccFence then suppress s x 3
          else if s.twin.adrift then suppress s x 4
          else if cbeActive s then
            let s := twinSend s 3 (cbeBody x)
            match s.twin.cbeEarly.find? fun e => e.1 = tokenId x with
            | some e => cbeJudge s x e.2
            | none => tokMod s tag fun x => { x with phase := .heldCbe, cbeAt := t }
          else release s x

/-- DEADLINE_PASS (R47, R75): a token whose decision is not ready at its deadline is suppressed, but for a
decision that sends no frame. -/
def execDeadlinePass (tag : Nat) (t : Time) (s : State) : Out :=
  fab s fun s =>
    match tokenOf s tag with
    | some x =>
      if x.phase != .heldCbe && x.deadline ≤ t && !noAction s x then lateSuppress (seen s t) x else s
    | none => s

/-- Tokens whose VC0 flits wait on a link whose window is used up (R41, R250). -/
def vc0Waiting (k : Link) : List Nat :=
  if 312 ≤ k.vc0Used then
    ((mgetD k.txq 0 []) ++ (mgetD k.txq 1 [])).filterMap (·.token)
  else []

/-- VC0_WINDOW_START (R33, R250): at a whole microsecond; a token that waited counts once in
VC0_WAIT. -/
def execVc0WindowStart (t : Time) (s : State) : Out :=
  fab s fun s =>
    if t % 4000 != 0 then s
    else
      let waits := ((List.range 16).flatMap fun l => vc0Waiting (linkGet s l)).eraseDups
      let fresh := waits.filter fun k => !s.sprint.vc0Waited.contains k
      let s := bumpBy (seen s t) .sprint 0 0x05C fresh.length
      vc0Window { s with sprint := { s.sprint with vc0Waited := s.sprint.vc0Waited ++ fresh } }

/-- A frame of a port was assigned to a heat before the live one, or to none yet, and can still form a
token. -/
def frameAssigned (s : State) (e : EPort) : Bool :=
  e.frames.any fun f => !f.ended && (match f.heat with
    | some h => decide (h < s.heat.num)
    | none => true)

/-- Work of a token already assigned is left here (R51): frames and tokens of the ports, tokens of this
root, and queries and sums of tokens rooted elsewhere. -/
def sprintLeft (s : State) : Bool :=
  !s.sprint.tokens.isEmpty || !s.ports.tokQ.isEmpty || frameAssigned s s.ports.p0
    || frameAssigned s s.ports.p1 || s.sprint.jobs.any (fun j => !j.q.isEmpty)
    || s.sprint.nodes.any (·.sprint)

/-- SPRINT_DISARM_DONE (R51): ARM is 0 and the last token is done: the units leave the armed state. -/
def execSprintDisarmDone (s : State) : Out :=
  fab s fun s =>
    if rf s .sprint 0 0x040 0 0 = 0 && !sprintLeft s then
      { s with sprint := { s.sprint with armedUnits := false } }
    else s

/-- An earlier decision of a frame's descriptor waits at the other port, which is up (R49). -/
def egressWaits (s : State) (port : Nat) (f : EgFrame) : Bool :=
  portUp s (1 - port) && (epGet s (1 - port)).egress.any fun y => y.desc = f.desc
    && (y.ingress < f.ingress || (y.ingress = f.ingress && y.msg < f.msg))

/-- EGRESS_STAMP (R49, R73, R405, R406, R408): the first decision frame of a port leaves with the FCS that
the MAC appends; the seal, where it runs, takes its stamp. DEDUCED (assumption log 49). -/
def execEgressStamp (port : Nat) (t : Time) (s : State) : Out :=
  fab s fun s =>
    let e := epGet s port
    if !portUp s port then s
    else match e.egress with
      | [] => s
      | f :: r =>
        if egressWaits s port f then s
        else
        let sent := f.bytes ++ toLE (crc32 f.bytes).toNat 4
        let s := bump (epSet (seen s t) port { e with egress := r, out := e.out ++ [sent] }) .sprint 0 0x04C
        if s.ud.running && !s.ud.inReset then
          let u := sinceAdd s.ud (2 + port) 1
          { s with ud := if port = 0 then { u with stamps0 := u.stamps0 ++ [t] }
            else { u with stamps1 := u.stamps1 ++ [t] } }
        else s

end Sys2Proof.Machine
end

