-- ==== Sys2Proof/Machine/Twin.lean ====
section
/-!
DEFINITION. Twins (chapter 20): the cut (R26 to R29, R384), digests (R385 to R387),
compare-before-emit (R388), detaching and reattaching (R389 to R393), time among peers (R394,
R395), and what a boundary does to the pair. Also the sets of R21 and R23.
-/
namespace Sys2Proof.Machine
open Sys2Proof

/-- The device exchanges its own sets at a boundary (R21): ARM is 1; in RESYNC and READY they exchange as
SWAP says (R391). DEDUCED (assumption log 48). -/
def setsSwap (s : State) : Bool := rf s .sprint 0 0x040 0 0 = 1 && !awaitsPair s

/-- HOLD_WINDOW_OPEN (R21, R24): 200 ns before the boundary; on an armed device the ready marks are
sampled and ready sets freeze. DEDUCED (assumption log 48). -/
def execHoldWindowOpen (s : State) : Out :=
  fab s fun s =>
    if s.heat.timeOk && !s.heat.hold then
      let s := { s with heat := { s.heat with hold := true } }
      if setsSwap s then
        let sets := mmapv s.sprint.sets fun _ x =>
          { x with frozen := x.frozen || x.ready, ready := false }
        { s with sprint := { s.sprint with sets := sets } }
      else s
    else s

/-- A heat, or none yet assigned, lies before `from_`. -/
def heatBefore (h : Option Nat) (from_ : Nat) : Bool :=
  match h with
  | some h => decide (h < from_)
  | none => true

/-- A frame of a heat before `from_` can still form a token (R53). -/
def framesBefore (e : EPort) (from_ : Nat) : Bool :=
  e.frames.any fun f => !f.ended && heatBefore f.heat from_

/-- A frame, token or query of a heat before `from_` of a group is still in flight here; of a frame and
of a token not looked up the group is not known yet. -/
def oldInFlight (s : State) (g from_ : Nat) : Bool :=
  s.sprint.tokens.any (fun x => x.group = g && decide (x.heat < from_))
    || s.sprint.jobs.any (fun j => j.group = g && decide (j.heat < from_) && !j.q.isEmpty)
    || s.ports.tokQ.any (fun k => heatBefore k.heat from_)
    || framesBefore s.ports.p0 from_ || framesBefore s.ports.p1 from_

/-- RETIRING_SET_RELEASE (R23): no token of the ended heat is in flight, or the deadline of the last
such token has come. -/
def execRetiringSetRelease (g : Nat) (t : Time) (s : State) : Out :=
  fab s fun s =>
    let x := setGet s g
    if x.retiring && (!oldInFlight s g x.liveFrom || x.lastAt ≤ t) then
      setMod (seen s t) g fun x => { x with retiring := false }
    else s

/-- Apply the cut's count to one port (R384). DEDUCED (assumption log 53). -/
def cutPort (s : State) (port count : Nat) : State :=
  let e := epGet s port
  let a := ordFrom e.count e.heldN
  let d := ordFrom count a
  let n := s.heat.num
  if d ≤ e.heldN then
    let s := assignHeld s port fun _ i =>
      if ordFrom i a < d then (n - 1, ordFrom i e.prevBase) else (n, ordFrom i count)
    epSet s port { epGet s port with ordBase := count }
  else bumpC (twinAlarm (assignByStamp s port s.twin.cutTime)) .twin 0 13

/-- No cut is awaited or waits any more. -/
def cutOver (s : State) : State := { s with twin := { s.twin with cutWait := false, cutEarly := none } }

/-- The cut of the boundary just passed is applied (R384). -/
def applyCut (s : State) (count0 count1 : Nat) : State := cutOver (cutPort (cutPort s 0 count0) 1 count1)

/-- Set the register of the twin's offset and judge it (R394, R395): above 40 ns, the twin alarm.
DEDUCED (assumption log 57). -/
def twinOffset (s : State) (tx rx : Nat) : State :=
  let off : Int := (tx + (linkGet s 16).latency : Nat) - (rx : Int)
  let s := rset { s with twin := { s.twin with
    offsets := mset s.twin.offsets 16 off } } .twin 0 0x048 (unsigned 32 off)
  if 160 < off.natAbs then twinAlarm (bumpC s .twin 0 8) else s

/-- No cut has come 60 ns after the boundary (R29): the held frames take their heats by their stamps, and
the twin alarm is raised. -/
def cutLate (s : State) (t : Time) : State :=
  if s.twin.cutWait && s.twin.cutTime + 240 ≤ t then
    let s := assignAll (seen s t) s.twin.cutTime
    bumpC (twinAlarm { s with twin := { s.twin with cutWait := false } }) .twin 0 9
  else s

/-- CUT (R26, R27, R29, R384): on the stern of a pair, at `rx`; one that comes before the own boundary
waits for it, one that comes too late has no effect on the assignment. -/
def execCut (heat count0 count1 tx rx : Nat) (s : State) : Out :=
  fab s fun s =>
    if s.twin.pair = 1 && isStern s then
      let s := seen s rx
      let s := twinOffset (if s.twin.cutTime + 240 < rx then cutLate s rx else s) tx rx
      if s.twin.cutWait && heat = s.heat.num then applyCut s count0 count1
      else if heat = s.heat.num + 1 then
        { s with twin := { s.twin with cutEarly := some (heat, count0, count1) } }
      else s
    else s

/-- CUT_LATE (R29): 60 ns after the boundary without a cut. -/
def execCutLate (t : Time) (s : State) : Out :=
  fab s fun s => cutLate s t

/-- CFG of a digest (R385): each register as 4 bytes, then the DIGESTs in descriptor order.
DEDUCED (assumption log 51). -/
def cfgDigest (s : State) : Nat :=
  let descs := (List.range 64).flatMap fun n =>
    [0, 4, 8].flatMap fun o => toLE (rg s .sprint 0 (0x100 + 16 * n + o)) 4
  let digs := (List.range 64).flatMap fun n =>
    let c := dCfg s n
    if dEn c then
      match groupGet s (dGroup c) with
      | some gr => toLE (groupDigest gr) 4
      | none => []
    else []
  (crc64 (toLE (rf s .heat 0 0x048 29 0) 4 ++ toLE (rf s .twin 0 0x040 0 0) 4 ++ descs ++ digs)).toNat

/-- A DIGEST message after TX_TIME (R382, R385). DEDUCED (assumption log 51). -/
def digestBody (heat : Nat) (d : Digest) : List Byte :=
  toLE heat 8 ++ toLE d.nDec 4 ++ toLE d.nSum 4 ++ toLE d.dec 8 ++ toLE d.sum 8 ++ toLE d.cfg 8
    ++ List.replicate 16 0

/-- A VALUE_MISMATCH (R386, R387): recorded with pair scope, and the fence is due. -/
def valueMismatch (s : State) (heat part rows : Nat) : State :=
  let s := bumpBy s .twin 0 0x104 rows
  let s := rset (rset s .twin 0 0x050 (heat % 2 ^ 32)) .twin 0 0x054 (heat / 2 ^ 32)
  let s := rset s .twin 0 0x058 part
  let s := recordErr s .twin 0 0x48 (regOff .twin 0 0x044)
  { s with twin := { s.twin with fenceDue := true } }

/-- Compare the partner's record with the own one (R386): HEAT, CFG, DEC and SUM in this order. With
counts that differ, a difference of values raises only the alarm. DEDUCED (assumption log 56). -/
def compareDigest (s : State) (heat : Nat) (own : Digest) (m : DigestMsg) : State :=
  let timing := m.nDec != own.nDec || m.nSum != own.nSum
  let parts := [m.heat != heat, m.cfg != own.cfg, !timing && m.dec != own.dec,
    !timing && m.sum != own.sum]
  let rows := b2n (parts.getD 0 false) + b2n (parts.getD 1 false)
    + b2n (parts.getD 2 false || parts.getD 3 false)
  let s := if timing then twinAlarm (bumpC s .twin 0 2) else s
  if 0 < rows then twinAlarm (valueMismatch s heat (parts.idxOf true) rows)
  else if timing then s else bumpC s .twin 0 0

/-- The partner's record is compared with the own one of the heat awaited. -/
def judgeDigest (s : State) (h : Nat) (m : DigestMsg) : State :=
  let own := mgetD s.twin.digests h ⟨0, 0, 0, 0, 0⟩
  compareDigest { s with twin := { s.twin with
    awaiting := none, digests := mdel s.twin.digests h } } h own m

/-- DIGEST (R386): the partner's record of the heat closed at the last boundary; one that comes before
the own boundary waits for it. -/
def execDigest (m : DigestMsg) (rx : Time) (s : State) : Out :=
  fab s fun s =>
    if s.twin.pair = 1 then
      let s := twinOffset (seen s rx) m.tx rx
      match s.twin.awaiting with
      | some h => judgeDigest s h m
      | none =>
        if m.heat + 1 = s.heat.num then { s with twin := { s.twin with digEarly := some m } } else s
    else s

/-- DIGEST_MISSING (R386): the partner's record is absent 1 µs after the boundary. -/
def execDigestMissing (s : State) : Out :=
  fab s fun s =>
    match s.twin.awaiting with
    | some h =>
      let s := { s with twin := { s.twin with
        awaiting := none, digests := mdel s.twin.digests h } }
      twinAlarm (bumpC s .twin 0 3)
    | none => s

/-- A partner's message of compare-before-emit (R388): for a held token, for one not ready yet, or an
orphan; one that comes more than 90 ns after the decision was ready finds it suppressed as absent. -/
def cbeMessage (s : State) (id : TokenId) (m : Option (Bool × DWord)) (t : Time) : State :=
  match s.sprint.tokens.find? fun x => x.phase = .heldCbe && tokenId x = id with
  | some x =>
    if t ≤ x.cbeAt + 360 then cbeJudge s x m
    else bumpC (bumpC (suppress s x 7) .twin 0 6) .twin 0 7
  | none =>
    if s.twin.cbeDone.contains id then bumpC s .twin 0 7
    else { s with twin := { s.twin with cbeEarly := s.twin.cbeEarly ++ [(id, m)] } }

/-- CBE_DIGEST (R388). -/
def execCbeDigest (id : TokenId) (emit : Bool) (entry : DWord) (t : Time) (s : State) : Out :=
  fab s fun s => if cbeActive s then cbeMessage (seen s t) id (some (emit, entry)) t else s

/-- CBE_LATE (R388). -/
def execCbeLate (id : TokenId) (t : Time) (s : State) : Out :=
  fab s fun s => if cbeActive s then cbeMessage (seen s t) id none t else s

/-- CBE_TIMEOUT (R388): nothing received within 90 ns. -/
def execCbeTimeout (tag : Nat) (t : Time) (s : State) : Out :=
  fab s fun s =>
    match tokenOf s tag with
    | some x =>
      if x.phase = .heldCbe && x.cbeAt + 360 ≤ t then bumpC (suppress (seen s t) x 7) .twin 0 6
      else s
    | none => s

/-- SWAP (R391): the returning twin exchanges the areas of the groups that the survivor exchanged,
and their readout slots with them (R37); the one of the pairing boundary comes once it has paired.
DEDUCED (assumption log 58). -/
def execSwap (gs : List Nat) (s : State) : Out :=
  fab s fun s =>
    if awaitsPair s || s.twin.swapLast then
      let s := { s with twin := { s.twin with swapLast := false } }
      gs.foldl (fun s g =>
        let s := setMod s g fun x => { x with area := !x.area, liveFrom := s.heat.num }
        (List.range 64).foldl (fun s n =>
          if dEn (dCfg s n) && dGroup (dCfg s n) = g then
            { s with sprint := { s.sprint with
              roLive := mset s.sprint.roLive n (!mgetD s.sprint.roLive n false)
              roFrom := mset s.sprint.roFrom n s.heat.num } }
          else s) s) s
    else s

/-- A reattachment is abandoned (R393). -/
def abandons (s : State) : Bool := awaitsPair s || s.twin.returning

/-- Announce a command to the partner (R382). -/
def announce (s : State) (c : Control) : State :=
  if linkUp (linkGet s 16) then twinSend s 6 (controlBody s c) else s

/-- A write of 1 to DETACH (R389, R393). -/
def twinDetach (s : State) : State :=
  let s := announce s .detach
  if abandons s then portLost s
  else if s.twin.pair = 1 then { s with twin := { s.twin with detOwn := true } }
  else s

/-- A write of 1 to REATTACH (R391). -/
def twinReattach (s : State) : State :=
  if s.twin.pair = 2 then
    tryReattach (announce { s with twin := { s.twin with reOwn := true } } .reattach)
  else s

/-- A write of 1 to UNFENCE (R387, R389). -/
def twinUnfence (s : State) : State :=
  if s.twin.pair = 1 || s.twin.pair = 2 then
    announce { s with twin := { s.twin with unfOwn := true } } .unfence
  else s

/-- CONTROL (R382, R387, R389, R391, R393): `slices` is SLICES as the partner's REATTACH gives it.
DEDUCED (assumption log 59). -/
def execControl (c : Control) (stern : Bool) (slices : Nat) (s : State) : Out :=
  fab s fun s =>
    if stern = isStern s then s
    else match c with
      | .detach =>
        if abandons s then portLost s
        else if s.twin.pair = 1 then { s with twin := { s.twin with detPeer := true } }
        else s
      | .unfence =>
        if s.twin.pair = 1 then { s with twin := { s.twin with unfPeer := true } } else s
      | .reattach =>
        if s.twin.pair != 2 then s
        else if slices != rf s .attn 0 0x044 4 0 then
          errConfig { s with twin := { s.twin with reOwn := false, rePeer := false } }
            .twin 0 (regOff .twin 0 0x040)
        else tryReattach { s with twin := { s.twin with rePeer := true } }

/-- RESYNC_UNIT (R391, R436): a unit of the survivor goes to the same place; group 4,096 says that the
unit holds no set. When every unit has come the twin enters READY. -/
def execResyncUnit (area unit g layer bolt kvhead : Nat) (b : List Byte) (s : State) : Out :=
  fab s fun s =>
    if awaitsPair s then
      let k := unitKey (area = 1) unit
      let units := if g = 4096 then mdel s.sprint.units k
        else mset s.sprint.units k ⟨g, layer, bolt, kvhead, false⟩
      let s := { slicePut s (area = 1) unit (slice b 0 unitSize) with sprint := { s.sprint with
        units := units } }
      let s := if g = 4096 then s else setMod s g id
      if s.twin.pair = 3 && !s.twin.copied.contains k then
        let left := s.twin.resync - 1
        { s with twin := { s.twin with
          copied := k :: s.twin.copied, resync := left, pair := if left = 0 then 4 else 3 } }
      else s
    else s

/-- Offsets of the peers in state 3 (R394). DEDUCED (assumption log 57). -/
def peerOffsets (s : State) : List Int :=
  (List.range 17).filterMap fun l =>
    if (linkGet s l).state = 3 then mget s.twin.offsets l else none

/-- The median; of an even count the mean of the middle two, rounded down. DEDUCED (assumption log
57). -/
def median (l : List Int) : Int :=
  let v := sortBy (fun a b => a ≤ b) l
  let n := v.length
  if n % 2 = 1 then v.getD (n / 2) 0
  else (v.getD (n / 2 - 1) 0 + v.getD (n / 2) 0) / 2

/-- The seal's time state that R395 asks for. -/
def sealGood (s : State) : Bool :=
  s.ud.tstate = .locked || (s.ud.tstate = .acquiring && s.ud.copyValid && sealMode s.ud = 0)

/-- PEER_TIME_READ (R394, R395): one round of 100 µs. Each read gives a link, the times of sending and
receiving, and the far device's SEALTIME; then the median is judged. DEDUCED (assumption log
57). -/
def execPeerTimeRead (reads : List (Nat × Nat × Nat × Nat)) (s : State) : Out :=
  fab s fun s =>
    let offs := reads.foldl (fun (m : AMap Int) r =>
      if r.1 < 16 && (linkGet s r.1).state = 3 then
        mset m r.1 ((r.2.2.2 : Int) - ((r.2.1 + r.2.2.1) / 2 : Nat))
      else m) s.twin.offsets
    let s := { s with twin := { s.twin with offsets := offs } }
    match peerOffsets s with
    | [] => { s with twin := { s.twin with adrift := false, badRow := 0, goodRow := 0 } }
    | os =>
      let m := median os
      let s := rset s .twin 0 0x04C (unsigned 32 m)
      let bad := if 400 < m.natAbs then s.twin.badRow + 1 else 0
      let good := if m.natAbs ≤ 200 && sealGood s then s.twin.goodRow + 1 else 0
      let enters := 3 ≤ bad && !s.twin.adrift
      let s := { s with twin := { s.twin with
        badRow := bad, goodRow := good, adrift := s.twin.adrift || enters } }
      if enters then bumpC s .twin 0 12 else s

/-- The boundary `b` on a leaving twin and on its survivor (R389), also where the twin port was lost
before it; frames held for its cut take their heats by their stamps (R22). DEDUCED (assumption log 58). -/
def detachAt (s : State) (b : Time) : State :=
  let t := s.twin
  if (t.pair = 1 || t.pair = 2) && (t.detOwn || t.detPeer) then
    let s := if t.detOwn then rput s .sprint 0 0x040 0 0 0 else s
    assignAll { s with twin := { t with
      pair := 2, left := t.detOwn, peerLeft := t.detPeer
      fenced := if t.detOwn then t.fenced else false, detOwn := false, detPeer := false
      cutWait := false, cutEarly := none, awaiting := none, digEarly := none, digests := []
      unfOwn := t.pair = 2 && t.unfOwn, unfPeer := false } } b
  else { s with twin := { t with detOwn := false, detPeer := false } }

/-- The fence at a boundary (R387): lifted after UNFENCE on both twins of a pair, or on a detached
device after its own; set after a VALUE_MISMATCH. -/
def fenceAt (s : State) : State :=
  let t := s.twin
  let lift := (t.pair = 1 && t.unfOwn && t.unfPeer) || (t.pair = 2 && t.unfOwn)
  let t := if lift then { t with fenced := false, unfOwn := false, unfPeer := false } else t
  let t := if t.fenceDue then { t with fenced := true, fenceDue := false } else t
  { s with twin := t }

/-- Every unit has been copied and acknowledged (R391). DEDUCED (assumption log 58). -/
def copyDone (s : State) : Bool :=
  s.twin.returning && s.twin.resync = 0 && (mgetD (linkGet s 16).txq 4 []).isEmpty
    && (linkGet s 16).replay.isEmpty

/-- Pairing at a boundary (R391): the returning twin in READY, and its survivor. DEDUCED
(assumption log 41 and 58). -/
def pairAt (s : State) : State :=
  let t := s.twin
  if t.pair = 4 || copyDone s then
    let s := if t.pair = 4 && t.armAtPair then rput s .sprint 0 0x040 0 0 1 else s
    { s with twin := { t with
      pair := 1, returning := false, left := false, peerLeft := false, copied := []
      armAtPair := false, digests := [], awaiting := none, digEarly := none, swapLast := t.pair = 4 } }
  else { s with twin := { t with swapLast := false } }

/-- SWAP goes to a partner in RESYNC or READY (R382, R391): the groups that exchanged. -/
def swapAt (s : State) (gs : List Nat) : State :=
  if s.twin.returning then twinSend s 5 (toLE (b2n (!gs.isEmpty)) 1) else s

/-- The digest of a heat that ends holds CFG as live in it (R385). -/
def cfgAt (s : State) : State :=
  match mget s.twin.digests s.heat.num with
  | some d =>
    { s with twin := { s.twin with
      digests := mset s.twin.digests s.heat.num { d with cfg := cfgDigest s } } }
  | none => s

/-- The digest of the heat before the one that ended goes to the partner, whose own is awaited (R26,
R386). -/
def digestSend (s : State) (n : Nat) : State :=
  match mget s.twin.digests (n - 2) with
  | some d =>
    if 2 ≤ n then
      let s := twinSend s 2 (digestBody (n - 2) d)
      { s with twin := { s.twin with awaiting := some (n - 2) } }
    else s
  | none => s

/-- A partner's record that came before this boundary is compared at it (R386). -/
def digestWaited (s : State) : State :=
  let early := s.twin.digEarly
  let s := { s with twin := { s.twin with digEarly := none } }
  match early, s.twin.awaiting with
  | some m, some h => judgeDigest s h m
  | _, _ => s

/-- The digest of a heat begins empty (R385). -/
def digestOpen (s : State) (n : Nat) : State :=
  { s with twin := { s.twin with digests := mset s.twin.digests n ⟨0, 0, 0, 0, 0⟩ } }

/-- The stern awaits the cut of the boundary `b`; one that came before it is applied (R26, R384). -/
def cutBegin (s : State) (b : Time) : State :=
  let early := s.twin.cutEarly
  let s := { s with twin := { s.twin with cutWait := true, cutTime := b } }
  match early with
  | some (h, c0, c1) => if h = s.heat.num then applyCut s c0 c1 else s
  | none => s

/-- The bow sends the cut: the ports' counts at the boundary (R26, R384). -/
def cutSend (s : State) : State :=
  twinSend s 1 (toLE s.heat.num 8 ++ toLE s.ports.p0.count 4 ++ toLE s.ports.p1.count 4)

/-- The pair's exchange at the boundary `b` that begins the live heat (R26, R386): the digest of the
heat before the one that ended, a new digest, and the cut. -/
def exchangeAt (s : State) (b : Time) : State :=
  if s.twin.pair = 1 then
    let s := digestOpen (digestWaited (digestSend s s.heat.num)) s.heat.num
    if isStern s then cutBegin s b else cutSend s
  else s

/-- An adrift device leaves that state at the first boundary after 10 good evaluations (R395). -/
def driftAt (s : State) : State :=
  if s.twin.adrift && 10 ≤ s.twin.goodRow then
    { s with twin := { s.twin with adrift := false, badRow := 0, goodRow := 0 } }
  else s

/-- Compare-before-emit keeps what concerns the last two heats. -/
def cbeAt (s : State) : State :=
  let keep := fun (i : TokenId) =>
    i.heat = s.heat.num % 65536 || i.heat = (s.heat.num + 65535) % 65536
  { s with twin := { s.twin with
    cbeDone := s.twin.cbeDone.filter keep, cbeEarly := s.twin.cbeEarly.filter fun e => keep e.1 } }

end Sys2Proof.Machine
end

