-- ==== Sys2Proof/Machine/Power.lean ====
section
/-!
DEFINITION. Resets, power and clocks (chapters 18 and 19): cold, warm and sag resets (R341, R347,
R354, R363), supply sag and temperature (R353 to R357), clock losses (R351), powered-off dies (R361),
and start-up (R366 to R377).
-/
namespace Sys2Proof.Machine
open Sys2Proof

/-- Registers of the SEAL and LEDGER pages, which no reset of the fabric die touches (R341). -/
def sealRegs (s : State) : AMap Word := mfilter s.regs fun k _ => 0x60000 ≤ k

/-- Cold reset (R341, R363): everything but the seal die returns to its reset state; the pins, what
stands in host memory, and the loom's erase counts and bad blocks stay. RESET_CAUSE.THERM follows an
assertion of THERM_TRIP_N. DEDUCED (assumption log 23). -/
def coldReset (s : State) : State :=
  let z := State.reset
  let p := s.power
  let inReset := !(p.railsOk && p.resetN)
  let therm := p.tripped || (inReset && rf s .global 0 0x054 3 3 = 1)
  let blocks := mmapv s.tier.blocks fun _ b => { b with holds := none }
  let z := { z with
    regs := sealRegs s, ud := s.ud, now := s.now, free := s.free, pending := s.pending
    host := { z.host with mem := s.host.mem, vectors := s.host.vectors }
    tier := { z.tier with blocks := blocks, rawBlocks := s.tier.rawBlocks }
    power := { z.power with
      railsOk := p.railsOk, resetN := p.resetN, perstN := p.perstN, thermTripN := p.thermTripN
      tripped := p.tripped, sealVdd := p.sealVdd, sealResetN := p.sealResetN, sealSvcN := p.sealSvcN } }
  rput z .global 0 0x054 3 3 (b2n therm)

/-- RESET_N_ASSERT (R363). -/
def execResetNAssert (s : State) : Out := .next <|
  let s := coldReset s
  { s with power := { s.power with resetN := false } }

/-- RAILS_OK_FALL (R347, R357): a cold reset; THERM_TRIP_N is released. -/
def execRailsOkFall (s : State) : Out := .next <|
  let s := coldReset s
  { s with power := { s.power with railsOk := false, tripped := false, thermTripN := true } }

/-- VDD_FAB_LOW (R347). DEDUCED (assumption log 22). -/
def execVddFabLow (s : State) : Out := .next (coldReset s)

/-- Set or clear a bit of CLOCK.LOCK. -/
def lockBit (s : State) (i : Nat) (on : Bool) : State := rput s .clock 0 0x040 i i (b2n on)

/-- Set bits [hi:lo] of CLOCK.LOCK. -/
def lockRange (s : State) (hi lo : Nat) : State := rput s .clock 0 0x040 hi lo (2 ^ (hi + 1 - lo) - 1)

/-- RESET_RELEASE (R358, R359, R366): the straps are sampled and stage 1 is reached; a stern without a
twin stops start-up. The board has RAILS_OK high. DEDUCED (assumption log 22). DESIGN CHOICE
(assumption log 24). -/
def execResetRelease (straps : Nat) (s : State) : Out := .next <|
  if s.power.stage != 0 || s.power.failed || s.power.tripped then s
  else
    let st := straps % 64
    let bad := !bit st 4 && bit st 3
    let s := { s with power := { s.power with
      railsOk := true, resetN := true, straps := st, failed := bad, stage := if bad then 0 else 1 } }
    lockBit (lockRange s 11 8) 24 true

/-- SAG_WARNING (R352, R353): the dies on which the warning stage qualified; a powered-off die's
detector does not count. DEDUCED (assumption log 80). -/
def execSagWarning (dies : Nat) (s : State) : Out :=
  fab s fun s =>
    if (onesOf dies 8).any (fun d => !bit s.power.offDies d) && s.power.sagWarnN then
      event (bumpC { s with power := { s.power with
        sagWarnN := false, warnSince := true, dirtyHeat := true } } .power 0 0) .power 0
    else s

/-- SAG_WARNING_RELEASE (R353). DEDUCED (assumption log 80). -/
def execSagWarningRelease (s : State) : Out :=
  fab s fun s => { s with power := { s.power with sagWarnN := true } }

/-- The ring stop of a network queue; a router's queue belongs to its die. -/
def queueStop (q : Nat) : Nat :=
  if q < 2 ^ 20 then q / 6400
  else if q < 2 ^ 21 then (q - 2 ^ 20) / 20
  else if q < 2 ^ 22 then (q - 2 ^ 21) / 5
  else (q - 2 ^ 22) / 5

/-- The compute dies lose what they hold (R341, R354, R363): T0 reads zero, T1 objects are poisoned,
oars, pipelines and table slots are as after reset, and with them the sprint's units and tokens.
DEDUCED (assumption log 27). -/
def diesCleared (s : State) : State :=
  let objs := mmapv s.tier.objs fun _ o => if o.tier = 1 && o.state != 3 then { o with state := 2 } else o
  let net := s.net
  let nodes := s.sprint.nodes.filter fun n => !n.sprint
  let sprint := { SprintSt.reset with nodes := nodes, eccFence := s.sprint.eccFence }
  { s with
    grid := GridSt.reset, tile := TileSt.reset, att := AttnSt.reset, sprint := sprint
    tier := { s.tier with objs := objs }
    net := { net with
      wakeHeld := []
      queues := mfilter net.queues fun k _ => 8 ≤ queueStop k
      used := mfilter net.used fun k _ => 8 ≤ queueStop k
      outbox := mfilter net.outbox fun k _ => 8 ≤ queueStop k
      shares := mfilter net.shares fun k _ => k = ringOut 8 false || k = ringOut 8 true
      delivered := net.delivered.filter fun p => 8 ≤ p.dest.die
      tags := mfilter net.tags fun k _ => 8 ≤ k / 65536
      traces := mfilter net.traces fun k _ => 8 * 4 * 1024 ≤ k } }

/-- A warm or sag reset keeps this register (R341). DEDUCED (assumption log 27). -/
def warmKeeps (off : Nat) : Bool :=
  let o := off % 4096
  match pageOfOff off with
  | some (.sprint, _) => !(o = 0x040 || (0x100 ≤ o && o < 0x500 && o % 16 != 12))
  | some (.grid, _) => false
  | some (.tile, _) => o = 0x044
  | some (.attn, _) => o = 0x044
  | some (.net, n) => n = 8
  | _ => true

/-- A warm or sag reset (R341, R363): shadows and the transaction are discarded, every crew is reset at
once, the compute dies are held in reset and lose what they hold, a reattachment is abandoned
(R393). DEDUCED (assumption log 25 and 27). -/
def warmOp (s : State) : State :=
  let s := xactIdle { s with reg := { s.reg with shadows := [] } }
  let s := (List.range 16).foldl crewReset s
  let s := (List.range 16).foldl crewClear s
  let s := diesCleared { s with regs := mfilter s.regs fun k _ => warmKeeps k }
  let s := { s with power := { s.power with
    diesReset := true, clockStopped := 0, stage := min s.power.stage 9 } }
  if abandons s then portLost s else s

/-- WARM_RESET's action: a warm reset with RESET_CAUSE.WARM set (R341). -/
def warmReset (s : State) : State := rput (warmOp s) .global 0 0x054 1 1 1

/-- SAG_RESET (R354, R355): a second one in a warm or sag reset is merged and counted. -/
def execSagReset (dies : Nat) (s : State) : Out :=
  fab s fun s =>
    if (onesOf dies 8).any (fun d => !bit s.power.offDies d) then
      let s := bumpC s .power 0 1
      let s := rput s .global 0 0x054 2 2 1
      let inReset := s.power.diesReset && 4 ≤ s.power.stage
      let s := if inReset then s else tapSend (warmOp s) (tapPlain 0x10 1 0)
      { s with power := { s.power with sagReset := true } }
    else s

/-- SAG_RESET_RELEASE (R352, R354). -/
def execSagResetRelease (s : State) : Out :=
  fab s fun s => { s with power := { s.power with sagReset := false } }

/-- THERMAL_TRIP (R357): THERM_TRIP_N falls, the seal is told over a line of its own, and the clocks of
the compute dies and the fabric die stop. DEDUCED (assumption log 23). -/
def execThermalTrip (t : Time) (s : State) : Out :=
  fab s fun s =>
    let s := if s.ud.running && !s.ud.inReset then
        formRecord s ⟨0x10, 2, 0, 0, 0, t, 0, 0, 0, []⟩ t
      else s
    { s with power := { s.power with thermTripN := false, tripped := true } }

/-- The sensors are refreshed and THERM_WARN is judged. DEDUCED (assumption log 80). -/
def telemetry (s : State) (temps : List Nat) : State :=
  let s := (List.range 9).foldl (fun s k =>
    match temps[k]? with
    | some v => rset s .power 0 (0x080 + 4 * k) (v % 4096)
    | none => s) s
  let limit := signed 12 (rf s .power 0 0x04C 11 0)
  let hot := (List.range 9).any fun k => limit < signed 12 (rf s .power 0 (0x080 + 4 * k) 11 0)
  let was := rf s .power 0 0x040 2 2 = 1
  let s := rput s .power 0 0x040 2 2 (b2n hot)
  if hot && !was then
    bumpC { s with power := { s.power with warnSince := true, dirtyHeat := true } } .power 0 3
  else s

/-- TELEMETRY_SAMPLING (R335, R356, R428): in a slot of its own. DEDUCED (assumption log 73). -/
def execTelemetrySampling (temps : List Nat) (t : Time) (s : State) : Out :=
  fab s fun s => if slotMay s 0 0 then slotTaken (telemetry s temps) 0 0 t else s

/-- Channels of a memory domain go out of service (R351): T2 channel k, all of T3, or all of T4. -/
def memoryLost (s : State) (i : Nat) : State :=
  if i = 20 then (List.range 8).foldl (fun s c => chanOut s 3 c) s
  else if i = 21 then (List.range 32).foldl (fun s c => chanOut s 4 c) s
  else chanOut s 2 (i - 12)

/-- The records of the commands that have ended go out before a warm reset takes the crews' queues (R290,
R351, R363), so far as they can be written; oldest end first. DEDUCED (assumption log 26). -/
def lossRecords (s : State) : State :=
  let ended := s.host.slots.filter fun e => e.2.phase = .ended
  (sortBy (fun a b => a.2.endNo ≤ b.2.endNo) ended).foldl (fun s e => recordOut s e.1) s

/-- CLOCK_LOSS (R351): a bit of LOCK falls; bits 22 and 23 are no domain's (R337). The loss of an oar PLL
stops the die's shells, whose commands end with LOCK_LOSS (R290), and takes a warm reset at once (R363);
that of the fabric PLL takes a cold reset. DEDUCED (assumption log 22 and 26). -/
def execClockLoss (i : Nat) (s : State) : Out :=
  fab s fun s =>
    if i = 25 then (if s.ud.copyValid then s else copyFell s)
    else if rf s .clock 0 0x040 i i = 0 || 25 < i || i = 22 || i = 23 then s
    else
      let s := rput (lockBit s i false) .clock 0 0x044 i i 1
      let s := event s .clock 0
      if i = 24 then bumpC s .clock 0 1
      else if 12 ≤ i && i ≤ 21 then memoryLost s i
      else
        let s := bumpC s .clock 0 0
        if i < 8 then
          let s := recordErr s .clock 0 0x41 (regOff .clock 0 0x040)
          let run := (s.grid.shells.filter fun e => e.1 / 256 = i && e.2.running).map (·.1)
          let s := run.foldl (fun s k => haltShell s k 0x41 0) s
          let s := lossRecords s
          warmReset { s with power := { s.power with clockStopped := s.power.clockStopped ||| 2 ^ i } }
        else if i = 8 then coldReset (tapSend s (tapPlain 0x10 3 0x41))
        else if i = 11 then
          { s with host := { s.host with linkUp := false, width := 0, speed := 0 } }
        else rput s .eport (i - 9) 0x044 0 0 0

/-- REFERENCE_RETURN (R351). -/
def execReferenceReturn (s : State) : Out := fab s fun s => lockBit s 24 true

/-- The queue is of a router of a die's mesh. -/
def routerOf (d q : Nat) : Bool := q < 2 ^ 20 && q / 6400 = d

/-- A die loses power (R360, R361): nothing in its domains is kept, nor in the routers of its mesh.
DEDUCED (assumption log 28). -/
def dieOff (s : State) (d : Nat) : State :=
  let g := s.grid
  let out := fun (n k : Nat) => k / n != d
  let net := s.net
  { s with
    power := { s.power with offDies := s.power.offDies ||| 2 ^ d }
    grid := { g with
      oars := mfilter g.oars fun k _ => out 2048 k, shells := mfilter g.shells fun k _ => out 256 k
      scratch := mfilter g.scratch fun k _ => out (2048 * 131072) k
      creds := mfilter g.creds fun k _ => out 8192 k, owed := mfilter g.owed fun k _ => out 8192 k
      withheld := mfilter g.withheld fun k _ => out 8192 k }
    tile := { s.tile with
      lists := mfilter s.tile.lists fun k _ => out 64 k, cache := mfilter s.tile.cache fun k _ => k != d
      turn := mfilter s.tile.turn fun k _ => k != d, missed := mfilter s.tile.missed fun k _ => k != d }
    net := { net with
      queues := mfilter net.queues fun k _ => !routerOf d k
      used := mfilter net.used fun k _ => !routerOf d k
      wakeHeld := net.wakeHeld.filter fun k => !routerOf d k }
    att := { s.att with
      lists := mfilter s.att.lists fun k _ => out 256 k, lab := mfilter s.att.lab fun k _ => out 256 k
      sbuf := mfilter s.att.sbuf fun k _ => out 256 k }
    sprint := { s.sprint with
      units := mfilter s.sprint.units fun k _ => k % 16384 % 2048 / 256 != d } }

/-- DIE_POWER_UP_DONE (R361): a die whose DIE_OFF bit has returned to 0 is powered, with T0 and T1 zeroed.
DEDUCED (assumption log 28). -/
def execDiePowerUpDone (d : Nat) (s : State) : Out :=
  fab s fun s =>
    if d < 8 && bit s.power.offDies d && rf s .power 0 0x054 d d = 0 then
      let s := dieOff s d
      { s with power := { s.power with offDies := s.power.offDies - 2 ^ d } }
    else s

/-- FIRMWARE_BOOT (R366, R368, R369): the slots in the order of BOOT_RECOVERY; the first image that
passes runs, else start-up fails at stage 2. DESIGN CHOICE (assumption log 29). -/
def execFirmwareBoot (a b : List Byte) (s : State) : Out :=
  fab s fun s =>
    if s.power.stage != 1 || s.power.failed then s
    else
      let order := if bit s.power.straps 5 then [b, a] else [a, b]
      match order.find? (imageOk Config.fusedKeyHash Config.fusedMinSvn) with
      | some img => { s with power := { s.power with
          stage := 2, version := fld img 4 4, offer := fld img 16 16 % 2 ^ 128 } }
      | none => { s with power := { s.power with failed := true } }

/-- MEMORY_TRAINING_DONE (R366, R371): masks of the channels that failed; T3's fitted capacity, at most
2 TiB; of the loom the raw capacity, at most 64 TiB (R1), of which objects may occupy seven eighths
(R211), its raw blocks, its spares and the blocks marked bad when it was made, which are counted when
they are found (R212). DESIGN CHOICE (assumption log 24 and 29). -/
def execMemoryTrainingDone (hbmBad ddrBad onfiBad ddrUnits rawUnits raw spares makerBad : Nat)
    (s : State) : Out :=
  fab s fun s =>
    if s.power.stage != 2 || s.power.failed then s
    else if hbmBad % 256 != 0 then { s with power := { s.power with failed := true } }
    else
      let s := lockRange s 21 12
      let s := (onesOf ddrBad 8).foldl (fun s c => chanOut s 3 c) s
      let s := (onesOf onfiBad 32).foldl (fun s c => chanOut s 4 c) s
      let spares := min spares (raw / 8)
      let s := rset (rset s .tier 0 0x054 (min rawUnits (2 ^ 30) * 7 / 8)) .tier 0 0x058 spares
      let s := rput s .tier 0 0x044 0 0 (b2n (spares = 0))
      let s := { s with tier := { s.tier with t3Units := min ddrUnits (2 ^ 25), rawBlocks := raw } }
      let found := (onesOf makerBad raw).filter fun b => !(blockGet s b).bad
      let s := bumpBy s .tier 0 0x528 found.length
      let s := putSpread (found.foldl (fun s b => blockSet s b { blockGet s b with bad := true }) s)
      { s with power := { s.power with stage := 3 } }

/-- Stage 7 (R366, R372, R377): links whose EN stands begin to train; a device of a pair sets the
twin port's EN and trains it, a solo device passes the twin stage at once. -/
def enterStage7 (s : State) : State :=
  let s := { s with power := { s.power with stage := 7 } }
  let s := (List.range 16).foldl trainStart s
  if twinPresent s then trainStart (rput s .twinlink 0 0x040 0 0 1) 16 else enterStage8 s

/-- The stages that follow of themselves (R366): 5 and 6 once TIME_OK is 1, 7 once the features are
locked. -/
def stageAdvance (s : State) : State :=
  let s := if s.power.stage = 4 && s.heat.timeOk then { s with power := { s.power with stage := 6 } } else s
  if s.power.stage = 6 && locked s then enterStage7 s else s

/-- COMPUTE_READY (R354, R365, R366): the compute dies are out of reset with their PLLs locked.
DESIGN CHOICE (assumption log 24). -/
def execComputeReady (s : State) : Out :=
  fab s fun s =>
    if s.power.failed || s.power.sagReset || !s.power.diesReset || s.power.stage < 3 then s
    else
      let s := lockRange s 7 0
      stageAdvance { s with power := { s.power with
        diesReset := false, stage := max s.power.stage 4 } }

/-- OAR_PLL_LOCK_TIMEOUT (R366): at start-up a PLL has not locked within 10 ms. -/
def execOarPllLockTimeout (d : Nat) (s : State) : Out :=
  fab s fun s =>
    if s.power.stage = 3 && d < 8 && rf s .clock 0 0x040 d d = 0 then
      { s with power := { s.power with failed := true } }
    else s

/-- TWIN_STAGE_TIMEOUT (R377). -/
def execTwinStageTimeout (s : State) : Out :=
  fab s fun s => if (linkGet s 16).state = 3 then s else twinStageDetached s

/-- EPORT_LINK_UP (R52, R379): PCS and FEC of an enabled port gain lock, from stage 5 on. DESIGN
CHOICE (assumption log 24). DEDUCED (assumption log 35). -/
def execEportLinkUp (port : Nat) (s : State) : Out :=
  fab s fun s =>
    if port < 2 && stageGe s 5 && epCfg s port 0 then
      rput (lockBit s (9 + port) true) .eport port 0x044 0 0 1
    else s

/-- HOST_LINK_UP (R276, R340): the host link has trained, PERST_N being high. DESIGN CHOICE
(assumption log 24). -/
def execHostLinkUp (width speed : Nat) (s : State) : Out :=
  fab s fun s =>
    if s.power.perstN then
      lockBit { s with host := { s.host with
        linkUp := true, width := width, speed := speed
        vectors := s.host.vectors ++ s.host.pba, pba := [] } } 11 true
    else s

/-- BOOT.STAGE as it reads (R366): the failing stage after a failure; 3 while a warm or sag reset
holds the compute dies (R365). DEDUCED (assumption log 25). -/
def shownStage (s : State) : Nat :=
  if s.power.failed then s.power.stage + 1
  else if s.power.diesReset && 4 ≤ s.power.stage then 3
  else s.power.stage

end Sys2Proof.Machine
end

