-- ==== Sys2Proof/Machine/RegRead.lean ====
section
/-!
DEFINITION. What each register reads (chapter 17 and the register tables of the other chapters):
registers that show other state are computed here; the rest stand in `regs`.
-/
namespace Sys2Proof.Machine
open Sys2Proof

/-- Lower and upper words of a 64-bit value. -/
def loWord (v : Nat) : Nat := v % 2 ^ 32
def hiWord (v : Nat) : Nat := v / 2 ^ 32 % 2 ^ 32

/-- The target heat of the transaction (R316). -/
def xactTarget (s : State) : Nat := rg s .xact 0 0x044 + 2 ^ 32 * rg s .xact 0 0x048

/-- A page holds a pending standalone shadow; a write of the committed transaction (R304). -/
def pagePending (s : State) (k : PageKind) (n : Nat) : Bool :=
  s.reg.shadows.any fun e => e.1 / 4096 = pageBase k n / 4096

def pageXpend (s : State) (k : PageKind) (n : Nat) : Bool :=
  s.reg.xact.phase = .committed && s.reg.xact.coll.any fun e => e.1 / 4096 = pageBase k n / 4096

/-- Header registers that are computed (R304, R326). -/
def headerWord (s : State) (k : PageKind) (n o : Nat) : Nat :=
  match o with
  | 0x000 => (pageInfo k).2.2 + 2 ^ 12 * n
  | 0x004 => 0x100
  | 0x008 => if k = .feature then 128 else 0
  | 0x010 => b2n (pageReady s k n && !pageOff s k n) + 2 * b2n (pageOff s k n)
  | 0x01C => irqPend s k n
  | 0x02C =>
    let x := pageXpend s k n
    b2n (pagePending s k n) + 2 * b2n x + if x then 2 ^ 16 * (xactTarget s % 65536) else 0
  | o => rg s k n o

/-- GLOBAL (R328). -/
def globalWord (s : State) (o : Nat) : Nat :=
  match o with
  | 0x040 => 0x5140 + 2 ^ 16 * (Config.stepping % 256)
  | 0x044 => loWord Config.serial
  | 0x048 => hiWord Config.serial
  | 0x04C => s.power.version
  | 0x050 => s.power.straps
  | 0x05C => shownStage s + 16 * b2n s.power.failed
  | o => rg s .global 0 o

/-- HEAT (R24, R331). -/
def heatWord (s : State) (o : Nat) : Nat :=
  let h := s.heat
  match o with
  | 0x040 => loWord h.num
  | 0x044 => hiWord h.num
  | 0x04C => b2n h.hold + 2 * b2n (!(s.sprint.sets.any fun e => e.2.retiring)) + 4 * b2n h.timeOk
      + 8 * rf s .heat 0 0x04C 3 3
  | 0x050 => loWord h.origin
  | 0x054 => hiWord h.origin
  | 0x058 => loWord h.next
  | 0x05C => hiWord h.next
  | 0x068 => loWord h.base
  | 0x06C => hiWord h.base
  | o => rg s .heat 0 o

/-- XACT.STATE (R316). -/
def xactWord (s : State) (o : Nat) : Nat :=
  let x := s.reg.xact
  match o with
  | 0x04C =>
    (match x.phase with | .idle => 0 | .opened => 1 | .committed => 2)
      + 4 * b2n (x.port = .mgmt) + 8 * b2n x.full + 2 ^ 8 * x.owner + 2 ^ 16 * x.coll.length
  | o => rg s .xact 0 o

/-- POWER (R334). -/
def powerWord (s : State) (o : Nat) : Nat :=
  match o with
  | 0x040 => b2n (!s.power.sagWarnN) + 2 * b2n s.power.throttled + 4 * rf s .power 0 0x040 2 2
  | o => rg s .power 0 o

/-- CLOCK (R337): SEALCOPY and the copy of seal time. -/
def clockWord (s : State) (o : Nat) : Nat :=
  match o with
  | 0x040 => rf s .clock 0 0x040 24 0 + 2 ^ 25 * b2n s.ud.copyValid
  | 0x048 => loWord s.now
  | 0x04C => hiWord s.now
  | o => rg s .clock 0 o

/-- ERROR (R338): the log and its window. -/
def errorWord (s : State) (o : Nat) : Nat :=
  let e := s.reg.log[rf s .error 0 0x048 5 0]?
  match o with
  | 0x044 => s.reg.log.length + rf s .error 0 0x044 8 8 * 2 ^ 8
  | 0x04C => match e with
    | some e => e.code + 2 ^ 8 * e.scope + 2 ^ 11 * e.crew + 2 ^ 16 * e.page
    | none => 0
  | 0x050 => match e with | some e => loWord e.addr | none => 0
  | 0x054 => match e with | some e => hiWord e.addr | none => 0
  | 0x058 => match e with | some e => loWord e.time | none => 0
  | 0x05C => match e with | some e => hiWord e.time | none => 0
  | 0x060 => b2n (s.reg.log.any fun e => e.scope = 2) + 2 * b2n (s.reg.log.any fun e => e.scope = 3)
  | o => rg s .error 0 o

/-- HOST (R287, R340). -/
def hostWord (s : State) (o : Nat) : Nat :=
  match o with
  | 0x040 => s.host.slots.length + 2 ^ 16 * s.host.peak
  | 0x048 => s.host.width % 32 + 2 ^ 5 * s.host.speed
  | o => rg s .host 0 o

/-- CREW (R303). -/
def crewWord (s : State) (o : Nat) : Nat :=
  if o = 0x048 then (s.crew.resetting.foldl (fun m c => m ||| 2 ^ c) 0)
  else if 0x100 ≤ o && o % 16 = 8 then inFlight s ((o - 0x108) / 16)
  else rg s .crew 0 o

/-- SPRINT.STATUS (R41). -/
def sprintWord (s : State) (o : Nat) : Nat :=
  if o = 0x044 then rf s .sprint 0 0x040 0 0 + 2 * b2n s.twin.adrift else rg s .sprint 0 o

/-- PARSE (R340). -/
def parseWord (s : State) (o : Nat) : Nat :=
  if o = 0x04C then rf s .parse 0 0x04C 7 0 + 2 ^ 8 * b2n s.ports.refill else rg s .parse 0 o

/-- SPRINT_RES.USED (R197, R202): greatest slice index in use plus 1, over both areas. -/
def slicesUsed (s : State) : Nat :=
  s.sprint.units.foldl (fun n e =>
    max n (e.1 / 16384 * (rf s .attn 0 0x044 4 0 / 2) + e.1 % 16384 / 2048 + 1)) 0

/-- COLL (R275): the window on the selected group entry. -/
def collWord (s : State) (o : Nat) : Nat :=
  if 0x080 ≤ o && o < 0x0C0 then
    match groupGet s (rf s .coll 0 0x04C 11 0) with
    | some gr => fld (groupBytes s gr) (o - 0x080) 4
    | none => 0
  else rg s .coll 0 o

/-- LINK and TWINLINK (R256). -/
def linkWord (s : State) (l o : Nat) : Nat :=
  let k := linkGet s l
  match o with
  | 0x040 => b2n (linkEn s l)
  | 0x044 => k.state + 16 * k.refuse
  | 0x048 => k.peerDev % 2048 + 2 ^ 12 * (k.peerLink % 16)
  | o => rg s (linkPage l).1 (linkPage l).2 o

/-- TWIN (R381, R397). -/
def twinWord (s : State) (o : Nat) : Nat :=
  match o with
  | 0x044 => s.twin.pair + 16 * b2n s.twin.fenced + 32 * b2n s.twin.adrift
      + 64 * rf s .twin 0 0x044 6 6 + 128 * b2n (isStern s)
  | 0x05C => s.twin.resync
  | o => rg s .twin 0 o

/-- CREWQ (R287, R291). -/
def crewqWord (s : State) (c o : Nat) : Nat :=
  if o = 0x040 then rf s .crewq c 0x040 15 0 + 2 ^ 16 * crewSlots s c
  else if 0x100 ≤ o && o < 0x180 && o % 16 = 12 then (sqGet s c ((o - 0x100) / 16)).head
  else if 0x200 ≤ o && o < 0x280 && o % 16 = 12 then (cqGet s c ((o - 0x200) / 16)).tail
  else rg s .crewq c o

/-- NET (R237): the window on the selected trace entry. -/
def netWord (s : State) (n o : Nat) : Nat :=
  if 0x304 ≤ o && o < 0x324 then
    let sel := rf s .net n 0x300 11 0
    fld (mgetD s.net.traces ((n * 4 + sel / 1024) * 1024 + sel % 1024) []) (o - 0x304) 4
  else rg s .net n o

/-- The value behind a register, before masking. -/
def rawWord (s : State) (k : PageKind) (n o : Nat) : Nat :=
  if o < 0x40 then headerWord s k n o
  else match k with
    | .global => globalWord s o
    | .feature =>
      if 0x040 ≤ o && o < 0x050 then s.power.offer / 2 ^ (8 * (o - 0x040)) % 2 ^ 32
      else rg s .feature 0 o
    | .heat => heatWord s o
    | .xact => xactWord s o
    | .power => powerWord s o
    | .clock => clockWord s o
    | .error => errorWord s o
    | .mgmt => if o = 0x044 then 0x58 + s.power.straps % 8 else rg s .mgmt 0 o
    | .host => hostWord s o
    | .crew => crewWord s o
    | .sprint => sprintWord s o
    | .parse => parseWord s o
    | .attn => if o = 0x048 then slicesUsed s else rg s .attn 0 o
    | .tier =>
      if 0x300 ≤ o && o < 0x500 then tierUsed s ((o - 0x300) / 32) ((o - 0x300) % 32 / 4)
      else rg s .tier 0 o
    | .coll => collWord s o
    | .henac => if o = 0x058 then ownDev s else rg s .henac 0 o
    | .link => linkWord s n o
    | .twinlink => linkWord s 16 o
    | .twin => twinWord s o
    | .crewq => crewqWord s n o
    | .net => netWord s n o
    | .seal => sealWord s o
    | k => rg s k n o

/-- The bits of a register that read as state: those of fields that are not WO (R7, R325). -/
def readMask (k : PageKind) (o : Nat) : Nat :=
  (regFields k o).foldl
    (fun m f => if f.acc = .wo then m else m ||| (2 ^ (f.hi + 1) - 2 ^ f.lo)) 0

/-- The value of a register that is not blocked (R7, R325). DEDUCED (assumption log 40). -/
def regWord (s : State) (k : PageKind) (n o : Nat) : Nat := rawWord s k n o &&& readMask k o

/-- The key of a port's latch of an upper word (R327). -/
def latchKey (p : Port) (off : Nat) : Nat :=
  (match p with | .pcie => 0 | .mgmt => 2 ^ 32) + off

/-- A read of TBL_DATA (R57, R340): the shadow word at TBL_ADDR, which advances by 4; beyond the table
space 0; during the refill the word is not given, a free value. DESIGN CHOICE (assumption log
6). -/
def tblRead (s : State) : Nat × State :=
  let a := 4 * rf s .parse 0 0x040 18 2
  let next := fun (s : State) => rput s .parse 0 0x040 18 2 (rf s .parse 0 0x040 18 2 + 1)
  if 0x50000 ≤ a then (0, next s)
  else if s.ports.refill then
    let (n, s) := draw s
    ((Config.freeWord n).toNat, next s)
  else (rdLE s.ports.shadow a 4, next s)

/-- A read served at the page's agent (R307, R325, R327): the value, whether the register was blocked,
and the state after it. -/
def serveRead (s : State) (p : Port) (off : Nat) : Nat × Bool × State :=
  match pageOfOff off with
  | none => (0, false, bumpC s .error 0 4)
  | some (k, n) =>
    let o := off % 4096
    if (regFields k o).isEmpty then (0, false, s)
    else if 0x40 ≤ o && pageBlocked s k n then (2 ^ 32 - 1, true, recordErr s k n 0x25 off)
    else if k = .parse && o = 0x044 then
      let (v, s) := tblRead s
      (v, false, s)
    else if (pairLo k).contains o then
      let hi := regWord s k n (o + 4)
      (regWord s k n o, false, { s with reg := { s.reg with
        latches := mset s.reg.latches (latchKey p (off + 4)) (BitVec.ofNat 32 hi) } })
    else match mget s.reg.latches (latchKey p off) with
      | some w => (w.toNat, false, { s with reg := { s.reg with
          latches := mdel s.reg.latches (latchKey p off) } })
      | none => (regWord s k n o, false, s)

/-- A read over PCI Express: the word returned. -/
def pcieRead (s : State) (off : Nat) : State :=
  let (v, _, s) := serveRead s .pcie off
  { s with reg := { s.reg with pcieOut := BitVec.ofNat 32 v } }

end Sys2Proof.Machine
end

