-- ==== Sys2Proof/Machine/Access.lean ====
section
/-!
DEFINITION. Register writes (chapters 16 and 17): fields by access type (R7, R308, R444), the rules
of each block for RW fields, heat-swapped writes and their checks (R310, R313, R20, R40, R199,
R336, R361, R375, R379), the transaction (R312 to R314), and the actions of WO fields.
-/
namespace Sys2Proof.Machine
open Sys2Proof

/-- Clear the counters of a page. -/
def clrCtrs (s : State) (k : PageKind) (n base c : Nat) : State := rzero s k n (ctrOffs base c)

-- Heat-swapped writes -----------------------------------------------------------------------

/-- Values that would be live, with writes laid over (R310, R314). -/
def viewGet (s : State) (extra : List (Nat × Word)) (off : Nat) : Nat :=
  match extra.find? fun e => e.1 = off with
  | some e => e.2.toNat
  | none => futureReg s off

/-- The group entry that will be live in a heat (R40, R258). -/
def groupAt (s : State) (g target : Nat) : Option Group :=
  match mget s.coll.shadow g with
  | some x => if x.target ≤ target then x.entry else groupGet s g
  | none => groupGet s g

/-- Tokens times layers of the enabled descriptors of a view, in bolts (R39). The groups in which the device
is a position but not the root are not in the sum: their sizes stand in descriptors of other devices,
which no rule brings here. DESIGN CHOICE (assumption log 94). -/
def boltsTotal (view : Nat → Nat) : Nat :=
  (List.range 64).foldl (fun n i =>
    let c := view (regOff .sprint 0 (0x100 + 16 * i))
    if dEn c then n + dLayers c * bits (view (regOff .sprint 0 (0x104 + 16 * i))) 10 0 else n) 0

/-- An enabled descriptor keeps R20, R38 to R40 and R199 in a view. DEDUCED (assumption log 32). -/
def descOk (s : State) (view : Nat → Nat) (n target : Nat) : Bool :=
  let c := view (regOff .sprint 0 (0x100 + 16 * n))
  let bolts := bits (view (regOff .sprint 0 (0x104 + 16 * n))) 10 0
  let budget := bits (view (regOff .sprint 0 (0x108 + 16 * n))) 29 0
  !dEn c ||
    (1 ≤ budget && budget ≤ bits (view (regOff .heat 0 0x048)) 29 0
      && 1 ≤ bolts && bolts ≤ 1024 && n < rf s .sprint 0 0x060 6 0
      && (dQpk c = 0 || bolts ≤ 512) && boltsTotal view ≤ 2048
      && (match groupAt s (dGroup c) target with
        | none => false
        | some gr => gr.members.head? = some (ownDev s) && gr.members.length ≤ 64
            && dDepth c = max (treeDepth s gr.members false) (treeDepth s gr.members true)))

/-- A die may be powered off (R37, R336, R361): with ARM of the view, or on an armed device, a die that
holds a unit of a sprint set may not. -/
def dieOffOk (s : State) (view : Nat → Nat) (d : Nat) : Bool :=
  let armed := s.sprint.armedUnits || bit (view (regOff .sprint 0 0x040)) 0
  !(armed && s.sprint.units.any fun e => e.1 % 16384 % 2048 / 256 = d)
    && !(s.grid.shells.any fun e => decide (e.1 / 256 = d) && e.2.running)
    && !((List.range 8).any fun k => rg s .grid d (0x080 + 4 * k) != 0)
    && !(s.tier.objs.any fun e =>
      (e.2.tier = 1 && e.2.die = d) || (e.2.state = 1 && e.2.destTier = 1 && e.2.destDie = d))
    && !(d = 0 && rf s .sprint 0 0x060 6 0 != 0)

/-- A heat-swapped write keeps the rules of its block in a view (R310, R314, R332). DEDUCED
(assumption log 32). -/
def rwhOk (s : State) (view : Nat → Nat) (target off : Nat) : Bool :=
  let o := off % 4096
  let v := view off
  match pageOfOff off with
  | some (.heat, _) =>
    let len := bits v 29 0
    1000 ≤ len && len ≤ 1000000000 && (List.range 64).all fun n =>
      !dEn (view (regOff .sprint 0 (0x100 + 16 * n)))
        || bits (view (regOff .sprint 0 (0x108 + 16 * n))) 29 0 ≤ len
  | some (.sprint, _) =>
    if o = 0x040 then !bit v 0 || 9 ≤ shownStage s
    else
      let n := (o - 0x100) / 16
      descOk s view n target && (o % 16 != 8 || bits v 29 0 ≤ bits (view (regOff .heat 0 0x048)) 29 0)
  | some (.power, _) =>
    o != 0x054 || (onesOf v 8).all fun d => bit (rg s .power 0 0x054) d || dieOffOk s view d
  | some (.parse, _) => !bit v 0 || (loadCheck s).isNone
  | some (.twin, _) => !bit v 0 || !absent s 2
  | _ => true

/-- A refused TBL_SWAP leaves the first failing program or template in PARSE.STATUS (R62). -/
def loadErr (s : State) (off : Nat) : State :=
  if off = regOff .parse 0 0x048 then
    match loadCheck s with
    | some i => rput s .parse 0 0x04C 7 0 (128 + i)
    | none => s
  else s

/-- Record CONFIG for a write, with REFUSED for a heat-swapped field (R310, R444). -/
def writeConfig (s : State) (k : PageKind) (n o : Nat) : State := errConfig s k n (regOff k n o)
def rwhConfig (s : State) (k : PageKind) (n o : Nat) : State := irqRaise (writeConfig s k n o) k n 4

/-- A write refused under R313: recorded in the page, with REFUSED, and counted. -/
def xactRefuse (s : State) (k : PageKind) (n o code : Nat) : State :=
  let s := irqRaise (recordErr s k n code (regOff k n o)) k n 4
  let s := if code = 0x50 then bumpC s .xact 0 4 else s
  bumpC s .xact 0 5

/-- Features not accepted: bits of a heat-swapped write stored as 0 (R375). DEDUCED (assumption
log 33). -/
def rwhAbsent (s : State) (k : PageKind) (o v : Nat) : Nat :=
  if k = .power && o = 0x054 && absent s 5 then 0
  else if k = .sprint && o = 0x040 && absent s 9 then 0
  else v

/-- A value is legal for a field (R444): beside its own range, PORT of NET8 names a port of the fabric
die's station only, 0 to 10 (R236). -/
def legalAt (k : PageKind) (n : Nat) (f : Field) (x : Nat) : Bool :=
  f.legal x && !(k = .net && n = 8 && f.off = 0x100 && f.lo = 4 && 10 < x)

/-- The RWH fields of a write over the values they had; a value out of range keeps the old one and is
recorded (R444). HEAT.LENGTH is judged at the commit (R332). Given with it: the write has a field that
is not refused. DEDUCED (assumption log 32). -/
def rwhWord (s : State) (k : PageKind) (n o v old : Nat) : Nat × Bool × State :=
  let fs := (regFields k o).filter fun f => f.acc = .rwh
  fs.foldl (fun (r : Nat × Bool × State) f =>
    let x := bits v f.hi f.lo
    if f.legal x || k = .heat then (r.1 + x * 2 ^ f.lo, true, r.2.2)
    else (r.1 + bits old f.hi f.lo * 2 ^ f.lo, r.2.1, rwhConfig r.2.2 k n o)) (0, false, s)

/-- A register as the next boundary makes it by standalone writes: its shadow over the live value. -/
def shadowReg (s : State) (off : Nat) : Nat :=
  match mget s.reg.shadows off with
  | some w => w.toNat
  | none => regGet s.regs off

/-- Replace or append a write of the collection. -/
def collPut (l : List (Nat × Word)) (off : Nat) (w : Word) : List (Nat × Word) :=
  if l.any fun e => e.1 = off then l.map fun e => if e.1 = off then (off, w) else e
  else l ++ [(off, w)]

/-- Collect a write in the open transaction (R313). DEDUCED (assumption log 32). -/
def collect (s : State) (off : Nat) (w : Word) : State :=
  let x := s.reg.xact
  let known := x.coll.any fun e => e.1 = off
  let x := if !known && 512 ≤ x.coll.length then { x with full := true }
    else { x with coll := collPut x.coll off w }
  { s with reg := { s.reg with xact := x } }

/-- A standalone write (R310): checked at once; it sets the shadow or is refused. A change of heat
length needs a transaction (R332). -/
def standalone (s : State) (k : PageKind) (n o : Nat) (w : Word) : State :=
  let off := regOff k n o
  if k != .heat && rwhOk s (viewGet s [(off, w)]) (s.heat.num + 1) off then
    { s with reg := { s.reg with shadows := mset s.reg.shadows off w } }
  else rwhConfig (loadErr s off) k n o

/-- The RWH fields of a write (R310, R313): `ow` is the tag of an OP 2 frame. -/
def serveRwh (s : State) (p : Port) (ow : Option Nat) (k : PageKind) (n o v : Nat) : State :=
  let off := regOff k n o
  let x := s.reg.xact
  if accMask k o .rwh = 0 then s
  else
    let go := fun (s : State) (put : State → Word → State) (old : Nat) =>
      let v' := rwhAbsent s k o v
      let s := if v' != v then writeConfig s k n o else s
      let (w, any, s) := rwhWord s k n o v' old
      if any then put s (BitVec.ofNat 32 w) else s
    match x.phase with
    | .opened =>
      if p = x.port && (p = .pcie || ow = some x.owner) then
        go s (fun s w => collect s off w) (viewGet s x.coll off)
      else xactRefuse s k n o 0x50
    | _ =>
      if p = .mgmt && ow.isSome then xactRefuse s k n o 0x51
      else go s (fun s w => standalone s k n o w) (shadowReg s off)

-- RW and RW1C fields ------------------------------------------------------------------------

/-- The RW fields of a write: a value out of range keeps the old one and records CONFIG (R444). -/
def rwPlain (s : State) (k : PageKind) (n o v : Nat) : State :=
  ((regFields k o).filter fun f => f.acc = .rw).foldl (fun s f =>
    let x := bits v f.hi f.lo
    if legalAt k n f x then rput s k n o f.hi f.lo x else writeConfig s k n o) s

/-- The RW1C fields of a write. DEDUCED (assumption log 39). -/
def rw1cPlain (s : State) (k : PageKind) (n o v : Nat) : State :=
  ((regFields k o).filter fun f => f.acc = .rw1c).foldl (fun s f =>
    let old := rf s k n o f.hi f.lo
    rput s k n o f.hi f.lo (old - (old &&& bits v f.hi f.lo))) s

/-- Two slices of a table overlap. -/
def overlaps (a n b m : Nat) : Bool := n != 0 && m != 0 && a < b + m && b < a + n

/-- A slice write keeps R297. -/
def sliceOk (s : State) (o v : Nat) : Bool :=
  let c := (o - 0x100) / 16
  let r := o % 16
  let mask := if r = 0 then (13, 30) else (11, 28)
  !crewEnabled s c && (List.range 16).all fun d =>
    let w := rg s .crew 0 (0x100 + 16 * d + r)
    d = c || !overlaps (bits v mask.1 0) (bits v mask.2 16) (bits w mask.1 0) (bits w mask.2 16)

/-- A crew has a valid object. -/
def hasObject (s : State) (c : Nat) : Bool :=
  s.tier.objs.any fun e => e.1 / 2 ^ 20 = c && e.1 % 2 ^ 20 < objCount s c

/-- The rule of a block for a write to its RW fields: false refuses it with CONFIG (R37, R198, R220,
R256, R297). DESIGN CHOICE (assumption log 34). -/
def rwRule (s : State) (k : PageKind) (o v : Nat) : Bool :=
  match k with
  | .sprint => o != 0x060 || rf s .sprint 0 0x040 0 0 = 0
  | .attn => o != 0x044 || (rf s .sprint 0 0x040 0 0 = 0 && v % 2 = 0)
  | .henac => !(o = 0x040 || o = 0x044 || o = 0x048)
      || (List.range 16).all fun l => (linkGet s l).state = 0
  | .tier => !(0x100 ≤ o && o < 0x300 && 20 ≤ o % 32) || !hasObject s ((o - 0x100) / 32)
  | .crew => o < 0x100 || sliceOk s o v
  | _ => true

/-- A write to SQn_CFG or CQn_CFG (R291, R379): while EN is 1 a change of another field is ignored and
counted; EN 0 resets the queue; EN 1 before stage 7 is stored as 0. DEDUCED (assumption log 25
and 64). -/
def queueCfg (s : State) (c o v : Nat) : State :=
  let on := rf s .crewq c o 0 0 = 1
  let en := bit v 0
  let sq := o < 0x200
  let i := (o - (if sq then 0x108 else 0x208)) / 16
  let other := fun (x : Nat) => x &&& accMask .crewq o .rw &&& (2 ^ 32 - 2)
  let s :=
    if on then (if other v = other (rg s .crewq c o) then s else badDoorbell s c)
    else rwPlain s .crewq c o (v - b2n en)
  if en then
    if on then s
    else if shownStage s < 7 then writeConfig s .crewq c o
    else rput s .crewq c o 0 0 1
  else
    let s := rput s .crewq c o 0 0 0
    let h := s.host
    if sq then { s with host := { h with sqs := mdel h.sqs (c * 8 + i) } }
    else { s with host := { h with cqs := mdel h.cqs (c * 8 + i) } }

/-- A write to ACCEPTk (R330): a bit not offered is stored as 0; after the lock it is ignored. -/
def acceptWrite (s : State) (o v : Nat) : State :=
  if locked s then writeConfig s .feature 0 o
  else rset s .feature 0 o (v &&& (s.power.offer / 2 ^ (8 * (o - 0x050)) % 2 ^ 32))

/-- A write to TARGET (R313). -/
def targetWrite (s : State) (p : Port) (ow : Option Nat) (o v : Nat) : State :=
  let x := s.reg.xact
  if x.phase = .opened && p = x.port && (p = .pcie || ow = some x.owner) then rset s .xact 0 o v
  else xactRefuse s .xact 0 o 0x51

/-- The vector goes out once more when a write to HCTRL, HIRQ_RAW or HIRQ_EN leaves HIRQ_PEND non-zero
(R305), at most once for one write. DEDUCED (assumption log 97). -/
def headerIrq (s : State) (k : PageKind) (n o : Nat) : State :=
  if (o = 0x00C || o = 0x014 || o = 0x018) && irqPend s k n != 0 then irqSend s k n else s

/-- SLICES as written (R198): the units that the new areas do not reach leave the directory. DESIGN CHOICE
(assumption log 34). -/
def slicesWrite (s : State) (v : Nat) : State :=
  let s := rwPlain s .attn 0 0x044 v
  { s with sprint := { s.sprint with
    units := mfilter s.sprint.units fun k _ => k % 16384 < areaUnits s } }

/-- EN of a port as written (R76, R375). DEDUCED (assumption log 33 and 35). -/
def eportEn (s : State) (n v : Nat) : State :=
  let no := bit v 0 && absent s 9
  let s := if no then writeConfig s .eport n 0x040 else s
  let en := bit v 0 && !no
  let s := rput s .eport n 0x040 0 0 (b2n en)
  if en then s else rput s .eport n 0x044 0 0 0

/-- EN of a link as written (R246, R372). -/
def linkEnWrite (s : State) (k : PageKind) (n v : Nat) : State :=
  let s := rput s k n 0x040 0 0 (b2n (bit v 0))
  joinCheck (linkEnable s (if k = .twinlink then 16 else n) (bit v 0))

/-- The RW fields of a write, with what a block does beyond storing them. -/
def serveRw (s : State) (p : Port) (ow : Option Nat) (k : PageKind) (n o v : Nat) : State :=
  if accMask k o .rw = 0 then s
  else if o < 0x40 then rwPlain s k n o v
  else if !rwRule s k o v then writeConfig s k n o
  else match k with
    | .feature => acceptWrite s o v
    | .xact => if o = 0x058 then rwPlain s k n o v else targetWrite s p ow o v
    | .parse => if o = 0x044 then tblWrite s (BitVec.ofNat 32 v) else rwPlain s k n o v
    | .power =>
      if o = 0x050 && v % 256 != 0 && absent s 6 then writeConfig (rput s .power 0 o 7 0 0) .power 0 o
      else rwPlain s k n o v
    | .eport => eportEn s n v
    | .attn => if o = 0x044 then slicesWrite s v else rwPlain s k n o v
    | .link => linkEnWrite s k n v
    | .twinlink => linkEnWrite s k n v
    | .henac => joinCheck (rwPlain s k n o v)
    | .crewq => if o % 16 = 8 then queueCfg s n o v else rwPlain s k n o v
    | _ => rwPlain s k n o v

-- The transaction ---------------------------------------------------------------------------

/-- The port and tag own the open or committed transaction. -/
def ownsXact (s : State) (p : Port) (tag : Nat) : Bool :=
  s.reg.xact.phase != .idle && s.reg.xact.port = p && s.reg.xact.owner = tag

/-- A result of an XACT command other than OK, BUSY counted (R312, R316). -/
def xactAnswer (s : State) (p : Port) (code : Nat) : State :=
  let s := xactResult s p code
  if code = 0x50 then bumpC s .xact 0 4 else s

/-- BEGIN (R312). -/
def xactBegin (s : State) (p : Port) (tag : Nat) : State :=
  if tag = 0 then xactAnswer s p 0x51
  else if s.reg.xact.phase = .idle then
    xactAnswer { s with reg := { s.reg with xact := ⟨.opened, p, tag, false, []⟩ } } p 0
  else xactAnswer s p 0x50

/-- The first write of the collection that breaks a rule (R314). DEDUCED (assumption log 32). -/
def firstFailing (s : State) : Option Nat :=
  let coll := s.reg.xact.coll
  let view := viewGet s coll
  (coll.find? fun e => !rwhOk s view (xactTarget s) e.1).map (·.1)

/-- Judge a COMMIT of the open transaction (R314). DEDUCED (assumption log 32). -/
def xactJudge (s : State) (p : Port) : State :=
  let target := xactTarget s
  if target ≤ s.heat.num then event (bumpC (xactAnswer (xactIdle s) p 0x52) .xact 0 2) .xact 0
  else if s.heat.num + 2 ^ 24 < target then xactAnswer (xactIdle s) p 0x10
  else if s.reg.xact.full then xactAnswer (xactIdle s) p 0x53
  else match firstFailing s with
    | some off =>
      let s := xactIdle (loadErr s off)
      let s := rset s .xact 0 (match p with | .pcie => 0x050 | .mgmt => 0x054) 0x10
      recordErr s .xact 0 0x10 off
    | none =>
      let x := { s.reg.xact with phase := .committed }
      bumpC (xactAnswer { s with reg := { s.reg with xact := x } } p 0) .xact 0 0

/-- COMMIT (R312, R314). -/
def xactCommit (s : State) (p : Port) (tag : Nat) : State :=
  if ownsXact s p tag then
    if s.reg.xact.phase = .opened then xactJudge s p else xactAnswer s p 0x50
  else xactAnswer s p 0x51

/-- ABORT (R312, R315). -/
def xactAbort (s : State) (p : Port) (tag : Nat) : State :=
  if ownsXact s p tag || (tag = 0 && p = .pcie) then
    if s.reg.xact.phase = .idle then xactAnswer s p 0
    else bumpC (xactAnswer (xactIdle s) p 0) .xact 0 3
  else xactAnswer s p 0x51

/-- A write to XACT.CMD. -/
def xactCmd (s : State) (p : Port) (v : Nat) : State :=
  let tag := bits v 13 8
  match bits v 1 0 with
  | 1 => xactBegin s p tag
  | 2 => xactCommit s p tag
  | 3 => xactAbort s p tag
  | _ => s

-- Actions of WO fields ----------------------------------------------------------------------

/-- A write of 1 to FEATURE.CTRL.LOCK (R330, R374). DEDUCED (assumption log 31 and 81). -/
def featureLock (s : State) : State :=
  if locked s || !stageGe s 2 || !bit (rg s .feature 0 0x050) 0 then writeConfig s .feature 0 0x060
  else
    let s := (List.range 4).foldl (fun s k =>
      rset s .feature 0 (0x070 + 4 * k)
        (rg s .feature 0 (0x050 + 4 * k) &&& (s.power.offer / 2 ^ (32 * k) % 2 ^ 32))) s
    stageAdvance (rput s .feature 0 0x064 0 0 1)

/-- ERROR.CTRL.CLR (R338). -/
def errorClear (s : State) : State :=
  rput (clrCtrs { s with reg := { s.reg with log := [] } } .error 0 0x100 5) .error 0 0x044 8 8 0

/-- SPRINT.CTRL.CLR_COUNTERS (R41). -/
def sprintClear (s : State) : State :=
  rzero (rzero s .sprint 0 (ctrOffs 0x048 6)) .sprint 0 ((List.range 64).map fun n => 0x10C + 16 * n)

/-- ATTN.CTRL.CLR (R202). -/
def attnClear (s : State) : State :=
  let s := (List.range 8).foldl (fun s d => clrCtrs s .attn 0 (0x100 + 0x10 * d) 4) s
  { s with att := { s.att with pairs := [] } }

/-- HOST.CTRL.CLR (R340). DESIGN CHOICE (assumption log 20). -/
def hostClear (s : State) : State :=
  rset { s with host := { s.host with peak := s.host.slots.length } } .host 0 0x044 0

/-- LINKn.CTRL's actions (R256). -/
def linkWo (s : State) (k : PageKind) (n v : Nat) : State :=
  let s := if bit v 1 then linkRetrain s (if k = .twinlink then 16 else n) else s
  if bit v 2 then clrCtrs s k n 0x100 10 else s

/-- TWIN.CTRL's actions (R397). -/
def twinWo (s : State) (v : Nat) : State :=
  let s := if bit v 1 then twinDetach s else s
  let s := if bit v 2 then twinReattach s else s
  let s := if bit v 3 then twinUnfence s else s
  if bit v 4 then clrCtrs s .twin 0 0x100 14 else s

/-- GRIDn.CTRL's actions (R102). No rule orders several bits of one write: they act from the lowest bit
up, DRAIN, RESUME, SNAP, CLR. DESIGN CHOICE (assumption log 88). -/
def gridWo (s : State) (n v : Nat) : State :=
  let s := if bit v 0 then drainStart s n else s
  let s := if bit v 1 then drainResume s n else s
  let s := if bit v 2 then gridSnap s n else s
  if bit v 3 then gridClear s n else s

/-- The actions of the WO fields of a write (R7). -/
def serveWo (s : State) (p : Port) (k : PageKind) (n o v : Nat) : State :=
  if accMask k o .wo = 0 then s
  else match k with
    | .global => if v % 256 = 0xA5 then warmReset s else s
    | .feature => if bit v 0 then featureLock s else s
    | .heat => if bit v 0 then clrCtrs s .heat 0 0x100 4 else s
    | .xact => xactCmd s p v
    | .power => if bit v 0 then clrCtrs s .power 0 0x100 4 else s
    | .error => if bit v 0 then errorClear s else s
    | .numf => if bit v 0 then rzero (clrCtrs s .numf 0 0x080 16) .numf 0 [0x0C0] else s
    | .mgmt => if bit v 0 then clrCtrs s .mgmt 0 0x100 7 else s
    | .host => if bit v 0 then hostClear s else s
    | .crew => if o = 0x040 then (onesOf v 16).foldl crewReset s else scrubMask s v
    | .sprint => if bit v 1 then sprintClear s else s
    | .attn => if bit v 0 then attnClear s else s
    | .tier => if bit v 0 then clrCtrs s .tier 0 0x500 11 else s
    | .coll => if bit v 0 then clrCtrs s .coll 0 0x100 8 else s
    | .link => linkWo s k n v
    | .twinlink => linkWo s k n v
    | .twin => twinWo s v
    | .eport => if bit v 4 then clrCtrs s .eport n 0x200 24 else s
    | .grid => gridWo s n v
    | .tile => if bit v 0 then clrCtrs s .tile n 0x100 6 else s
    | .net => if bit v 0 then netClear s n else s
    | .ledger =>
      if o = 0x054 then { s with ud := { s.ud with replayLo := v } } else ledgerReplay s v
    | _ => s

-- Accesses ----------------------------------------------------------------------------------

/-- The write reaches its page's agent (R307, R325): unmapped, reserved and blocked registers, else
what the register does. -/
def atPage (s : State) (off : Nat) (f : PageKind → Nat → Nat → State → State) : State :=
  match pageOfOff off with
  | none => bumpC s .error 0 4
  | some (k, n) =>
    let o := off % 4096
    if (regFields k o).isEmpty then s
    else if 0x40 ≤ o && pageBlocked s k n then recordErr s k n 0x25 off
    else f k n o s

/-- A write of a whole register (R308): each field under its own type. -/
def serveWrite (s : State) (p : Port) (ow : Option Nat) (off : Nat) (val : Word) : State :=
  let v := val.toNat
  atPage s off fun k n o s =>
    let s := rw1cPlain (serveRw s p ow k n o v) k n o v
    let s := serveWo (serveRwh s p ow k n o v) p k n o v
    headerIrq s k n o

/-- A write that sets only the WO bits of a register, its other fields as they are. DEDUCED
(assumption log 36). -/
def serveAction (s : State) (p : Port) (k : PageKind) (n o v : Nat) : State :=
  atPage s (regOff k n o) fun k n o s => serveWo s p k n o v

/-- REGISTER_WRITE (R308). -/
def execRegisterWrite (p : Port) (off : Nat) (val : Word) (s : State) : Out :=
  fab s fun s => serveWrite s p none off val

/-- UNMAPPED_ACCESS (R325). -/
def execUnmappedAccess (p : Port) (write : Bool) (off : Nat) (s : State) : Out :=
  fab s fun s =>
    if (pageOfOff off).isSome then s
    else if write then serveWrite s p none off 0
    else match p with
      | .pcie => pcieRead s off
      | .mgmt => (serveRead s .mgmt off).2.2

/-- LO_LATCH_READ (R327): a read of a register through a port. -/
def execLoLatchRead (p : Port) (off : Nat) (s : State) : Out :=
  fab s fun s =>
    match p with
    | .pcie => pcieRead s off
    | .mgmt => (serveRead s .mgmt off).2.2

/-- BEGIN (R312). -/
def execXactBegin (p : Port) (tag : Nat) (s : State) : Out :=
  fab s fun s => serveAction s p .xact 0 0x040 (1 + 2 ^ 8 * (tag % 64))

/-- COMMIT (R312, R314). -/
def execXactCommit (p : Port) (tag : Nat) (s : State) : Out :=
  fab s fun s => serveAction s p .xact 0 0x040 (2 + 2 ^ 8 * (tag % 64))

/-- ABORT (R312). -/
def execXactAbort (p : Port) (tag : Nat) (s : State) : Out :=
  fab s fun s => serveAction s p .xact 0 0x040 (3 + 2 ^ 8 * (tag % 64))

/-- XACT_IDLE_EXPIRY (R312). -/
def execXactIdleExpiry (s : State) : Out :=
  fab s fun s =>
    if s.reg.xact.phase = .opened then
      let p := s.reg.xact.port
      bumpC (xactResult (xactIdle s) p 0x54) .xact 0 3
    else s

/-- WARM_RESET (R328, R363): a write to GLOBAL.CTRL. -/
def execWarmReset (p : Port) (val : Word) (s : State) : Out :=
  fab s fun s => serveAction s p .global 0 0x058 val.toNat

/-- FEATURE_LOCK (R330, R374). -/
def execFeatureLock (p : Port) (s : State) : Out := fab s fun s => serveAction s p .feature 0 0x060 1

/-- PARSE_TBL_DATA_ACCESS (R57, R340). -/
def execParseTblDataAccess (p : Port) (write : Bool) (val : Word) (s : State) : Out :=
  fab s fun s =>
    let off := regOff .parse 0 0x044
    if write then serveWrite s p none off val
    else match p with
      | .pcie => pcieRead s off
      | .mgmt => (serveRead s .mgmt off).2.2

/-- TBL_SWAP (R57, R62). -/
def execTblSwap (p : Port) (val : Word) (s : State) : Out :=
  fab s fun s => serveWrite s p none (regOff .parse 0 0x048) val

/-- DRAIN (R103). -/
def execDrain (p : Port) (d : Nat) (s : State) : Out := fab s fun s => serveAction s p .grid (d % 8) 0x040 1

/-- RESUME (R105). -/
def execResume (p : Port) (d : Nat) (s : State) : Out := fab s fun s => serveAction s p .grid (d % 8) 0x040 2

/-- SNAP (R102). -/
def execSnap (p : Port) (d : Nat) (s : State) : Out := fab s fun s => serveAction s p .grid (d % 8) 0x040 4

/-- GRID_CLR (R102). -/
def execGridClr (p : Port) (d : Nat) (s : State) : Out := fab s fun s => serveAction s p .grid (d % 8) 0x040 8

/-- TILE_CLR (R125). -/
def execTileClr (p : Port) (d : Nat) (s : State) : Out := fab s fun s => serveAction s p .tile (d % 8) 0x040 1

/-- NUMF_CLR (R140). -/
def execNumfClr (p : Port) (s : State) : Out := fab s fun s => serveAction s p .numf 0 0x040 1

/-- ATTN_CLR (R202). -/
def execAttnClr (p : Port) (s : State) : Out := fab s fun s => serveAction s p .attn 0 0x040 1

/-- TIER_CLR (R220). -/
def execTierClr (p : Port) (s : State) : Out := fab s fun s => serveAction s p .tier 0 0x040 1

/-- NET_CLR (R237). -/
def execNetClr (p : Port) (d : Nat) (s : State) : Out := fab s fun s => serveAction s p .net (d % 9) 0x040 1

/-- LINK_ENABLE (R246, R372): a write of 1 to EN; 16 is the twin port. -/
def execLinkEnable (p : Port) (l : Nat) (s : State) : Out :=
  fab s fun s => serveWrite s p none (regOff (linkPage l).1 (linkPage l).2 0x040) 1

/-- RETRAIN (R246, R256). -/
def execRetrain (p : Port) (l : Nat) (s : State) : Out :=
  fab s fun s => serveAction s p (linkPage l).1 (linkPage l).2 0x040 2

/-- LINK_CLR (R256). -/
def execLinkClr (p : Port) (l : Nat) (s : State) : Out :=
  fab s fun s => serveAction s p (linkPage l).1 (linkPage l).2 0x040 4

/-- COLL_CLR (R275). -/
def execCollClr (p : Port) (s : State) : Out := fab s fun s => serveAction s p .coll 0 0x040 1

/-- HOST_CLR (R340). -/
def execHostClr (p : Port) (s : State) : Out := fab s fun s => serveAction s p .host 0 0x04C 1

/-- CREW_RESET (R298). -/
def execCrewReset (p : Port) (mask : Nat) (s : State) : Out := fab s fun s => serveAction s p .crew 0 0x040 mask

/-- SCRUB (R302). -/
def execScrub (p : Port) (mask : Nat) (s : State) : Out := fab s fun s => serveAction s p .crew 0 0x044 mask

/-- MGMT_CLR (R323). -/
def execMgmtClr (p : Port) (s : State) : Out := fab s fun s => serveAction s p .mgmt 0 0x040 1

/-- HEAT_CLR (R331). -/
def execHeatClr (p : Port) (s : State) : Out := fab s fun s => serveAction s p .heat 0 0x060 1

/-- POWER_CLR (R334). -/
def execPowerClr (p : Port) (s : State) : Out := fab s fun s => serveAction s p .power 0 0x060 1

/-- ERROR_CLR (R338). -/
def execErrorClr (p : Port) (s : State) : Out := fab s fun s => serveAction s p .error 0 0x040 1

/-- SPRINT_CLR_COUNTERS (R41). -/
def execSprintClrCounters (p : Port) (s : State) : Out := fab s fun s => serveAction s p .sprint 0 0x040 2

/-- EPORT_CLR_COUNTERS (R76). -/
def execEportClrCounters (p : Port) (n : Nat) (s : State) : Out :=
  fab s fun s => serveAction s p .eport (n % 2) 0x040 16

/-- DETACH (R389). -/
def execDetach (p : Port) (s : State) : Out := fab s fun s => serveAction s p .twin 0 0x040 2

/-- REATTACH (R391). -/
def execReattach (p : Port) (s : State) : Out := fab s fun s => serveAction s p .twin 0 0x040 4

/-- UNFENCE (R387). -/
def execUnfence (p : Port) (s : State) : Out := fab s fun s => serveAction s p .twin 0 0x040 8

/-- TWIN_CLR (R397). -/
def execTwinClr (p : Port) (s : State) : Out := fab s fun s => serveAction s p .twin 0 0x040 16

/-- LEDGER_REPLAY (R417): a write to REPLAY_HI. -/
def execLedgerReplay (p : Port) (val : Word) (s : State) : Out :=
  fab s fun s => serveWrite s p none (regOff .ledger 0 0x058) val

/-- REG_RD (R223): a register word is read for an initiator of the package. DESIGN CHOICE
(assumption log 37). -/
def execRegRd (p : Pkt) (s : State) : Out :=
  request 0x0C none p s fun s =>
    let (v, _, s) := serveRead s .pcie p.addr
    respond s p 0x0D (toLE v 4)

/-- REG_WR (R223). DESIGN CHOICE (assumption log 37). -/
def execRegWr (p : Pkt) (s : State) : Out :=
  request 0x0E none p s fun s =>
    respond (serveWrite s .pcie none p.addr (BitVec.ofNat 32 (fld p.data 0 4))) p 0x0F []

end Sys2Proof.Machine
end

