-- ==== Sys2Proof/Machine/Boundary.lean ====
section
/-!
DEFINITION. The heat boundary (R21) and what the rise of TIME_OK does (R333): the heat number and
length (R18), shadows and the transaction (R310, R311, R314), sprint sets (R24), held packets (R25),
the pair (R26, R386 to R391), the throttle (R335), powered-off dies (R361) and stage 10 (R366).
-/
namespace Sys2Proof.Machine
open Sys2Proof

/-- One heat-swapped write becomes live: the RWH bits of its register, a die's power bit, the table
swap; ARM written on a returning twin waits for pairing (R391). DEDUCED (assumption log 40 and
41). -/
def liveOne (s : State) (e : Nat × Word) : State :=
  match pageOfOff e.1 with
  | none => s
  | some (k, n) =>
    let o := e.1 % 4096
    let v := e.2.toNat
    let mask := accMask k o .rwh
    let old := rg s k n o
    let next := (old - (old &&& mask)) + (v &&& mask)
    if k = .parse && o = 0x048 then
      let s := rset s k n o next
      if bit v 0 then tablesSwap s else s
    else if k = .sprint && o = 0x040 && awaitsPair s then
      let s := { s with twin := { s.twin with armAtPair := bit v 0 } }
      if bit v 0 then s else rset s k n o next
    else if k = .power && o = 0x054 then
      (onesOf (v &&& 255) 8).foldl (fun s d => if bit old d then s else dieOff s d)
        (rset s k n o next)
    else rset s k n o next

/-- SWAP on each page of some offsets (R304, R314). -/
def swapPages (s : State) (offs : List Nat) : State :=
  (offs.map (· / 4096)).eraseDups.foldl (fun s pg =>
    match pageAt pg with
    | some k => raiseSwap s k (pg - (pageInfo k).1 / 4096)
    | none => s) s

/-- The words of the sprint descriptors and ARM as they were in the heat that ends (R22, R45). -/
def keepOld (s : State) : State :=
  let offs := (List.range 64).flatMap fun n => [0x100 + 16 * n, 0x104 + 16 * n, 0x108 + 16 * n]
  let old := offs.foldl (fun (m : AMap Word) o =>
    match mget s.regs (regOff .sprint 0 o) with
    | some w => mset m (regOff .sprint 0 o) w
    | none => m) []
  { s with sprint := { s.sprint with oldDesc := old, armedPrev := rf s .sprint 0 0x040 0 0 = 1 } }

/-- Standalone shadows become live (R310). -/
def shadowsLive (s : State) : State :=
  let sh := s.reg.shadows
  let s := sh.foldl liveOne { s with reg := { s.reg with shadows := [] } }
  swapPages s (sh.map (·.1))

/-- A committed transaction whose target heat begins becomes live (R314). -/
def transactionLive (s : State) : State :=
  if s.reg.xact.phase = .committed && xactTarget s = s.heat.num then
    let coll := s.reg.xact.coll
    let s := coll.foldl liveOne (xactIdle s)
    let s := rset (rset s .xact 0 0x060 (loWord s.heat.num)) .xact 0 0x064 (hiWord s.heat.num)
    bumpC (swapPages s (coll.map (·.1))) .xact 0 1
  else s

/-- A group's shadow entry becomes live (R258). Where EPOCH and DIGEST stay, so does SEQ; else the
collectives in flight end, and number again from 0 (R264, R268). DEDUCED (assumption log 62). -/
def groupLive (s : State) (g : Nat) (x : GroupShadow) : State :=
  let same := match groupGet s g, x.entry with
    | some old, some gr => decide (old.epoch = gr.epoch) && decide (groupDigest old = groupDigest gr)
    | _, _ => false
  let s := if same then s else groupLeaves s g
  let live := match x.entry with
    | some gr => mset s.coll.live g
        { gr with seq := if same then (mgetD s.coll.live g gr).seq else 0 }
    | none => mdel s.coll.live g
  { s with coll := { s.coll with live := live, shadow := mdel s.coll.shadow g } }

/-- Shadow group entries whose target has come become live (R258). -/
def groupsLive (s : State) : State :=
  (s.coll.shadow.filter fun e => decide (e.2.target ≤ s.heat.num)).foldl
    (fun s e => groupLive s e.1 e.2) s

/-- A change of heat length moves the origin and the base to this boundary (R18, R333). -/
def lengthChange (old : Nat) (b : Time) (s : State) : State :=
  let s := if rf s .heat 0 0x048 29 0 = old then s
    else { s with heat := { s.heat with origin := b, base := s.heat.num } }
  heatNext s

/-- Sets exchange on a sprint-armed device (R21, R24) at the end `b` of a heat of `len` ns; the groups that
exchanged are given. DEDUCED (assumption log 48). -/
def setsExchange (s : State) (heat : Nat) (b : Time) (len : Nat) : List Nat × State :=
  let gs := s.sprint.sets.map (·.1)
  let ready := (s.sprint.sets.filter fun e => e.2.frozen).map (·.1)
  (ready, gs.foldl (fun s g => exchangeSet s g heat (lastDeadline s g heat b len)) s)

/-- A held packet is released (R25): it goes on from the queue it waited in. -/
def releaseHeld (s : State) (h : Held) : State :=
  match h.link with
  | some (l, c) => returnCredits (forward s h.pkt (some (l / (2 * setLen s), bit c 0))) h.link h.flits
  | none => { s with net := { s.net with arrived := s.net.arrived ++ [h.pkt] } }

/-- Held packets are released in arrival order (R21, R25); those of a ring station stand at their place
in its queue and are held no longer. -/
def heldReleased (s : State) : State :=
  s.net.held.foldl releaseHeld { s with net := { s.net with held := [] } }

/-- The throttle at a boundary (R335, R355). DEDUCED (assumption log 80). -/
def throttleAt (s : State) : State :=
  let p := s.power
  let on := p.warnSince || (p.throttled && p.dirtyHeat)
  let warm := !p.sagWarnN || rf s .power 0 0x040 2 2 = 1
  let s := { s with power := { p with throttled := on, warnSince := false, dirtyHeat := warm } }
  if on then bumpC s .power 0 2 else s

/-- The sprint at a boundary: INTERNAL_ECC clears ARM (R437); a device whose ARM is live is armed (R50,
R51); what concerns heats before the last is over. DEDUCED (assumption log 72). -/
def sprintAt (s : State) : State :=
  let s := if s.sprint.eccFence then rput s .sprint 0 0x040 0 0 0 else s
  let armed := rf s .sprint 0 0x040 0 0 = 1
  let jobs := s.sprint.jobs.filter fun j => decide (s.heat.num ≤ j.heat + 1)
  let nodes := s.sprint.nodes.filter fun n => !n.sprint || decide (s.heat.num ≤ n.heat + 1)
  { s with sprint := { s.sprint with
    armedUnits := s.sprint.armedUnits || armed, jobs := jobs, nodes := nodes } }

/-- The ports' ordinals count from the boundary (R383). -/
def portsAt (s : State) : State :=
  let step := fun (e : EPort) => { e with prevBase := e.ordBase, ordBase := e.count }
  { s with ports := { s.ports with p0 := step s.ports.p0, p1 := step s.ports.p1 } }

/-- The heat number becomes `n` and the hold window closes (R21). -/
def heatBegin (s : State) (b : Time) (n : Nat) : State :=
  { s with heat := { s.heat with num := n, hold := false }, now := max s.now b }

/-- The exchange of R21 on a sprint-armed device; the groups that exchanged are given. -/
def setsAt (armed : Bool) (s : State) (n : Nat) (b : Time) (len : Nat) : List Nat × State :=
  if armed then setsExchange s (n - 1) b len else ([], s)

/-- The pair at a boundary (R387, R389, R391, R386, R395, R388). -/
def pairEvents (s : State) (gs : List Nat) (b : Time) : State :=
  cbeAt (driftAt (exchangeAt (pairAt (swapAt (fenceAt (detachAt s b)) gs)) b))

/-- The slack window of the heat that ended is over (R427). -/
def slackOver (s : State) : State := { s with back := { s.back with slack := false } }

/-- The first boundary in stage 9 ends start-up (R366). DEDUCED (assumption log 25). -/
def stageTen (s : State) : State :=
  if s.power.stage = 9 && !s.power.diesReset then { s with power := { s.power with stage := 10 } } else s

/-- The settings at a boundary: heat number, shadows, the transaction, group entries, the length. -/
def settingsAt (s : State) (b : Time) (n : Nat) : State :=
  let oldLen := rf s .heat 0 0x048 29 0
  let s := heatBegin (keepOld (cfgAt s)) b n
  lengthChange oldLen b (groupsLive (transactionLive (shadowsLive s)))

/-- One boundary event (R21) at seal time `b`, beginning heat `n`. -/
def boundary (s : State) (b : Time) (n : Nat) : State :=
  let r := setsAt (setsSwap s) (settingsAt s b n) n b (rf s .heat 0 0x048 29 0)
  let s := pairEvents (portsAt (heldReleased r.2)) r.1 b
  stageTen (slackOver (throttleAt (sprintAt s)))

/-- HEAT_BOUNDARY (R17, R21): the boundary planned, while TIME_OK is 1 (R333). -/
def execHeatBoundary (s : State) : Out :=
  fab s fun s => if s.heat.timeOk then boundary s s.heat.next (s.heat.num + 1) else s

/-- NUM is computed again from the origin and base (R333, R380): above NUM one boundary event begins
that heat, and a transaction it passes is late; otherwise boundaries go on at the next multiple
above NUM. -/
def heatRecompute (s : State) (t : Time) : State :=
  let c := heatAt s t
  if s.heat.num < c then
    let s := if xactTarget s ≤ c then xactLate s else s
    let s := boundary s t c
    heatNext s
  else heatNext s

/-- TIME_OK_RISE (R333, R366): the fabric die holds a valid copy of seal time. -/
def execTimeOkRise (t : Time) (s : State) : Out :=
  fab s fun s =>
    if s.ud.copyValid && !s.heat.timeOk then
      let s := { seen s t with heat := { s.heat with timeOk := true } }
      stageAdvance (heatRecompute s t)
    else s

end Sys2Proof.Machine
end

