-- ==== Sys2Proof/Machine/Mgmt.lean ====
section
/-!
DEFINITION. The management port (R317 to R323): frames, their discard, reads, and the bus timeout.
A frame is given as the bytes that the port saw on the wire.
-/
namespace Sys2Proof.Machine
open Sys2Proof

/-- The port's address byte (R317, R318), with R/W = 0. -/
def mgmtAddr (s : State) : Nat := 2 * (0x58 + s.power.straps % 8)

/-- OP and TAG of a frame's CMD byte (R318). -/
def frameOp (f : List Byte) : Nat := bits (fld f 1 1) 7 6
def frameTag (f : List Byte) : Nat := bits (fld f 1 1) 5 0

/-- The BAR0 offset of a frame's word address. -/
def frameOff (f : List Byte) : Nat := 4 * (beNat (slice f 2 3) % 2 ^ 23)

/-- The length of a whole frame of an OP (R318). -/
def frameLen (op : Nat) : Nat := if op = 1 then 6 else 10

/-- The frame is addressed to this port. -/
def forPort (s : State) (f : List Byte) : Bool := f.length != 0 && fld f 0 1 = mgmtAddr s

/-- A byte of the frame was not acknowledged (R319). -/
def frameNacked (f : List Byte) : Bool :=
  (2 ≤ f.length && (frameOp f = 3 || (frameOp f ≤ 1 && frameTag f != 0)))
    || (3 ≤ f.length && bit (fld f 2 1) 7)
    || (2 ≤ f.length && frameLen (frameOp f) < f.length)

/-- The frame is whole and acknowledged. -/
def frameWhole (f : List Byte) : Bool :=
  !frameNacked f && 2 ≤ f.length && f.length = frameLen (frameOp f)

/-- The CRC of a whole frame is right (R318). -/
def frameCrcOk (f : List Byte) : Bool :=
  f.getLastD 0 = crc8 f.dropLast

/-- The read pointer ends with the STOP of its transfer (R321). -/
def noPointer (s : State) : State := { s with reg := { s.reg with readPtr := none, ptrCrcBad := false } }

/-- A frame of kind OP 1 whose CRC is wrong spoils the read that follows it (R321). DEDUCED
(assumption log 38). -/
def badPointer (s : State) : State := { s with reg := { s.reg with readPtr := none, ptrCrcBad := true } }

/-- A frame is discarded (R320): counted under j, with EVENT. -/
def frameDrop (s : State) (j : Nat) : State := event (bumpC (noPointer s) .mgmt 0 j) .mgmt 0

/-- A write frame of an OP is committed at its STOP (R320): one whole write, counted in WRITES. -/
def mgmtCommit (s : State) (op : Nat) (ow : Option Nat) (f : List Byte) : State :=
  if forPort s f && frameWhole f && frameOp f = op && frameCrcOk f then
    let s := bumpC (noPointer s) .mgmt 0 0
    serveWrite s .mgmt ow (frameOff f) (BitVec.ofNat 32 (fld f 5 4))
  else s

/-- MGMT_WRITE (R320). -/
def execMgmtWrite (f : List Byte) (s : State) : Out := fab s fun s => mgmtCommit s 0 none f

/-- MGMT_TRANSACTIONAL_WRITE (R313, R320): the frame carries an owner tag. -/
def execMgmtTransactionalWrite (f : List Byte) (s : State) : Out :=
  fab s fun s => mgmtCommit s 2 (some (frameTag f)) f

/-- MGMT_SET_READ_POINTER (R321): the pointer holds until the STOP of its transfer. -/
def execMgmtSetReadPointer (f : List Byte) (s : State) : Out :=
  fab s fun s =>
    if forPort s f && frameWhole f && frameOp f = 1 then
      if frameCrcOk f then
        { s with reg := { s.reg with readPtr := some (frameOff f), ptrCrcBad := false } }
      else badPointer (frameDrop s 3)
    else s

/-- MGMT_FRAME_DISCARD (R319, R320): a frame with a byte not acknowledged, cut short or interrupted, or
with a wrong CRC; `cut` says that a START or repeated START ended it. -/
def execMgmtFrameDiscard (f : List Byte) (cut : Bool) (s : State) : Out :=
  fab s fun s =>
    if !forPort s f then s
    else if frameNacked f then frameDrop s 4
    else if !frameWhole f || (cut && frameOp f != 1) then frameDrop s 2
    else if !frameCrcOk f then
      let s := frameDrop s 3
      if frameOp f = 1 && cut then badPointer s else s
    else s

/-- The six bytes of a read transfer (R321): data, status, and a CRC over the address byte and those. -/
def readBytes (addr : Byte) (data status : Nat) : List Byte :=
  let b := toLE data 4 ++ [BitVec.ofNat 8 status]
  b ++ [crc8 (addr :: b)]

/-- A read transfer answers (R321); with a status other than 0 the data bytes are 0xFF. DEDUCED
(assumption log 38). -/
def mgmtAnswer (s : State) (addr : Byte) (data status : Nat) : State :=
  let d := if status = 0 then data else 2 ^ 32 - 1
  let s := noPointer s
  { s with reg := { s.reg with mgmtOut := readBytes addr d status } }

/-- MGMT_READ (R321). DEDUCED (assumption log 38). -/
def execMgmtRead (addr : Byte) (s : State) : Out :=
  fab s fun s =>
    if addr.toNat != mgmtAddr s + 1 then s
    else match s.reg.readPtr with
      | some off =>
        let (v, blocked, s) := serveRead s .mgmt off
        mgmtAnswer (bumpC s .mgmt 0 1) addr v (if blocked then 4 else 0)
      | none =>
        if s.reg.ptrCrcBad then mgmtAnswer s addr 0 2
        else mgmtAnswer (bumpC s .mgmt 0 6) addr 0 3

/-- MGMT_READ_TIMEOUT (R321): 25 µs without an answer. DEDUCED (assumption log 38). -/
def execMgmtReadTimeout (addr : Byte) (s : State) : Out :=
  fab s fun s =>
    if addr.toNat = mgmtAddr s + 1 && s.reg.readPtr.isSome then
      mgmtAnswer (bumpC s .mgmt 0 5) addr 0 1
    else s

/-- MGMT_BUS_TIMEOUT (R317): the port releases SDA and is idle, with no pointer. -/
def execMgmtBusTimeout (s : State) : Out := fab s fun s => noPointer s

end Sys2Proof.Machine
end

