-- ==== Sys2Proof/Machine/Dispatch.lean ====
section
/-!
DEFINITION. One arm for each command: a direct call of its meaning.
-/
namespace Sys2Proof.Machine
open Sys2Proof

def exec (i : Instr) (s : State) : Host.Outcome State Fault Refusal :=
  match i with
  | .heatBoundary => Sys2Proof.Machine.execHeatBoundary s
  | .holdWindowOpen => Sys2Proof.Machine.execHoldWindowOpen s
  | .retiringSetRelease group t => Sys2Proof.Machine.execRetiringSetRelease group t s
  | .timeOkRise t => Sys2Proof.Machine.execTimeOkRise t s
  | .cut heat count0 count1 tx rx => Sys2Proof.Machine.execCut heat count0 count1 tx rx s
  | .cutLate t => Sys2Proof.Machine.execCutLate t s
  | .frameIngress port t => Sys2Proof.Machine.execFrameIngress port t s
  | .frameHeaderParse port bytes => Sys2Proof.Machine.execFrameHeaderParse port bytes s
  | .parserSkip port => Sys2Proof.Machine.execParserSkip port s
  | .parserLoad port => Sys2Proof.Machine.execParserLoad port s
  | .parserAlu port => Sys2Proof.Machine.execParserAlu port s
  | .parserField port => Sys2Proof.Machine.execParserField port s
  | .parserMeta port => Sys2Proof.Machine.execParserMeta port s
  | .parserBranch port => Sys2Proof.Machine.execParserBranch port s
  | .parserEmit port t => Sys2Proof.Machine.execParserEmit port t s
  | .parserEnd port => Sys2Proof.Machine.execParserEnd port s
  | .frameCheck port fcs t => Sys2Proof.Machine.execFrameCheck port fcs t s
  | .streamLookup t => Sys2Proof.Machine.execStreamLookup t s
  | .sprintQueryForm tag => Sys2Proof.Machine.execSprintQueryForm tag s
  | .sprintPartialCompute group tag weft unit ecc => Sys2Proof.Machine.execSprintPartialCompute group tag weft unit ecc s
  | .sprintPartialReady group tag weft => Sys2Proof.Machine.execSprintPartialReady group tag weft s
  | .treeFold node => Sys2Proof.Machine.execTreeFold node s
  | .sprintLayerComplete tag => Sys2Proof.Machine.execSprintLayerComplete tag s
  | .decisionBuild tag => Sys2Proof.Machine.execDecisionBuild tag s
  | .decisionReady tag t => Sys2Proof.Machine.execDecisionReady tag t s
  | .deadlinePass tag t => Sys2Proof.Machine.execDeadlinePass tag t s
  | .vc0WindowStart t => Sys2Proof.Machine.execVc0WindowStart t s
  | .sprintDisarmDone => Sys2Proof.Machine.execSprintDisarmDone s
  | .egressStamp port t => Sys2Proof.Machine.execEgressStamp port t s
  | .parseTblDataAccess p write val => Sys2Proof.Machine.execParseTblDataAccess p write val s
  | .tblSwap p val => Sys2Proof.Machine.execTblSwap p val s
  | .parseRefillDone => Sys2Proof.Machine.execParseRefillDone s
  | .oarNop die oar => Sys2Proof.Machine.execOarNop die oar s
  | .oarMma die oar => Sys2Proof.Machine.execOarMma die oar s
  | .oarVec die oar => Sys2Proof.Machine.execOarVec die oar s
  | .oarSfn die oar => Sys2Proof.Machine.execOarSfn die oar s
  | .oarMove die oar => Sys2Proof.Machine.execOarMove die oar s
  | .oarLoop die oar => Sys2Proof.Machine.execOarLoop die oar s
  | .oarSync die oar => Sys2Proof.Machine.execOarSync die oar s
  | .oarSetcr die oar => Sys2Proof.Machine.execOarSetcr die oar s
  | .oarCond die oar => Sys2Proof.Machine.execOarCond die oar s
  | .oarSeat die oar => Sys2Proof.Machine.execOarSeat die oar s
  | .oarHalt die oar => Sys2Proof.Machine.execOarHalt die oar s
  | .oarUnitDone die oar unit ecc => Sys2Proof.Machine.execOarUnitDone die oar unit ecc s
  | .steeringMove die shell entry => Sys2Proof.Machine.execSteeringMove die shell entry s
  | .seatImageArrival die oar => Sys2Proof.Machine.execSeatImageArrival die oar s
  | .seatSwitch die shell => Sys2Proof.Machine.execSeatSwitch die shell s
  | .watchdogExpiry die shell => Sys2Proof.Machine.execWatchdogExpiry die shell s
  | .drain p die => Sys2Proof.Machine.execDrain p die s
  | .drainComplete die => Sys2Proof.Machine.execDrainComplete die s
  | .drainTimeout die => Sys2Proof.Machine.execDrainTimeout die s
  | .resume p die => Sys2Proof.Machine.execResume p die s
  | .snap p die => Sys2Proof.Machine.execSnap p die s
  | .gridClr p die => Sys2Proof.Machine.execGridClr p die s
  | .creditReturn die oar iq => Sys2Proof.Machine.execCreditReturn die oar iq s
  | .xferUnit die list ecc => Sys2Proof.Machine.execXferUnit die list ecc s
  | .storeUnit die list => Sys2Proof.Machine.execStoreUnit die list s
  | .cacheLineFill die crew addr => Sys2Proof.Machine.execCacheLineFill die crew addr s
  | .tileClr p die => Sys2Proof.Machine.execTileClr p die s
  | .numfClr p => Sys2Proof.Machine.execNumfClr p s
  | .passStart die shell => Sys2Proof.Machine.execPassStart die shell s
  | .passComplete die shell => Sys2Proof.Machine.execPassComplete die shell s
  | .probabilityTileWrite die shell => Sys2Proof.Machine.execProbabilityTileWrite die shell s
  | .walkComplete die shell bolt => Sys2Proof.Machine.execWalkComplete die shell bolt s
  | .attnClr p => Sys2Proof.Machine.execAttnClr p s
  | .migrationCopyDone slot => Sys2Proof.Machine.execMigrationCopyDone slot s
  | .sourceRelease crew obj => Sys2Proof.Machine.execSourceRelease crew obj s
  | .tierTimerExpiry slot => Sys2Proof.Machine.execTierTimerExpiry slot s
  | .tierReply slot write unit bad => Sys2Proof.Machine.execTierReply slot write unit bad s
  | .channelOutOfService tier ch => Sys2Proof.Machine.execChannelOutOfService tier ch s
  | .loomWearLevelling worn least ch t => Sys2Proof.Machine.execLoomWearLevelling worn least ch t s
  | .loomReadDisturbRefresh block fresh reads corrected ch t => Sys2Proof.Machine.execLoomReadDisturbRefresh block fresh reads corrected ch t s
  | .loomProgramFail block spare => Sys2Proof.Machine.execLoomProgramFail block spare s
  | .tierClr p => Sys2Proof.Machine.execTierClr p s
  | .meshHop die router inp vc ecc => Sys2Proof.Machine.execMeshHop die router inp vc ecc s
  | .ringHop stop down vc dl ecc => Sys2Proof.Machine.execRingHop stop down vc dl ecc s
  | .linkCreditReturn queue => Sys2Proof.Machine.execLinkCreditReturn queue s
  | .qdata pkt => Sys2Proof.Machine.execQdata pkt s
  | .qend pkt => Sys2Proof.Machine.execQend pkt s
  | .rdReq slot pkt => Sys2Proof.Machine.execRdReq slot pkt s
  | .rdResp pkt => Sys2Proof.Machine.execRdResp pkt s
  | .wrReq slot pkt => Sys2Proof.Machine.execWrReq slot pkt s
  | .wrAck pkt => Sys2Proof.Machine.execWrAck pkt s
  | .regRd pkt => Sys2Proof.Machine.execRegRd pkt s
  | .regRdResp pkt => Sys2Proof.Machine.execRegRdResp pkt s
  | .regWr pkt => Sys2Proof.Machine.execRegWr pkt s
  | .regWrAck pkt => Sys2Proof.Machine.execRegWrAck pkt s
  | .sprintPacket pkt => Sys2Proof.Machine.execSprintPacket pkt s
  | .collPacket pkt => Sys2Proof.Machine.execCollPacket pkt s
  | .xchgPacket pkt => Sys2Proof.Machine.execXchgPacket pkt s
  | .faultNotice pkt => Sys2Proof.Machine.execFaultNotice pkt s
  | .errResp pkt => Sys2Proof.Machine.execErrResp pkt s
  | .netTimeout die tag => Sys2Proof.Machine.execNetTimeout die tag s
  | .tagQuarantineEnd die tag => Sys2Proof.Machine.execTagQuarantineEnd die tag s
  | .domainWake die shell => Sys2Proof.Machine.execDomainWake die shell s
  | .domainSleep die shell => Sys2Proof.Machine.execDomainSleep die shell s
  | .netClr p die => Sys2Proof.Machine.execNetClr p die s
  | .henacFrameSend link => Sys2Proof.Machine.execHenacFrameSend link s
  | .henacFrameReceive link lanes errs => Sys2Proof.Machine.execHenacFrameReceive link lanes errs s
  | .linkEnable p link => Sys2Proof.Machine.execLinkEnable p link s
  | .retrain p link => Sys2Proof.Machine.execRetrain p link s
  | .receiverAdaptationDone link laneBad farRefuse => Sys2Proof.Machine.execReceiverAdaptationDone link laneBad farRefuse s
  | .frameLock link => Sys2Proof.Machine.execFrameLock link s
  | .identityExchange link far farRefuse => Sys2Proof.Machine.execIdentityExchange link far farRefuse s
  | .recalibration link t => Sys2Proof.Machine.execRecalibration link t s
  | .recalibrationEnd link far => Sys2Proof.Machine.execRecalibrationEnd link far s
  | .linkClr p link => Sys2Proof.Machine.execLinkClr p link s
  | .groupWrite slot => Sys2Proof.Machine.execGroupWrite slot s
  | .sumRoot slot => Sys2Proof.Machine.execSumRoot slot s
  | .sumAll slot => Sys2Proof.Machine.execSumAll slot s
  | .bcast slot => Sys2Proof.Machine.execBcast slot s
  | .barrier slot => Sys2Proof.Machine.execBarrier slot s
  | .xchgEq slot => Sys2Proof.Machine.execXchgEq slot s
  | .xchgCounts slot => Sys2Proof.Machine.execXchgCounts slot s
  | .xchgPad slot => Sys2Proof.Machine.execXchgPad slot s
  | .rotate slot => Sys2Proof.Machine.execRotate slot s
  | .treeOpStart slot => Sys2Proof.Machine.execTreeOpStart slot s
  | .collAbort p => Sys2Proof.Machine.execCollAbort p s
  | .collTimerExpiry slot => Sys2Proof.Machine.execCollTimerExpiry slot s
  | .collClr p => Sys2Proof.Machine.execCollClr p s
  | .sqDoorbell crew sq val => Sys2Proof.Machine.execSqDoorbell crew sq val s
  | .cqDoorbell crew cq val => Sys2Proof.Machine.execCqDoorbell crew cq val s
  | .commandFetch entry ecc => Sys2Proof.Machine.execCommandFetch entry ecc s
  | .waitMet slot => Sys2Proof.Machine.execWaitMet slot s
  | .completionWrite slot => Sys2Proof.Machine.execCompletionWrite slot s
  | .progStart slot => Sys2Proof.Machine.execProgStart slot s
  | .xfer slot => Sys2Proof.Machine.execXfer slot s
  | .attn slot => Sys2Proof.Machine.execAttn slot s
  | .alloc slot => Sys2Proof.Machine.execAlloc slot s
  | .free slot => Sys2Proof.Machine.execFree slot s
  | .migrate slot => Sys2Proof.Machine.execMigrate slot s
  | .tierCopy slot => Sys2Proof.Machine.execTierCopy slot s
  | .sprintWrite slot => Sys2Proof.Machine.execSprintWrite slot s
  | .sprintReady slot => Sys2Proof.Machine.execSprintReady slot s
  | .boltInval slot => Sys2Proof.Machine.execBoltInval slot s
  | .hostCopy slot data => Sys2Proof.Machine.execHostCopy slot data s
  | .readoutLoad slot => Sys2Proof.Machine.execReadoutLoad slot s
  | .streamOpen slot => Sys2Proof.Machine.execStreamOpen slot s
  | .streamAdv slot => Sys2Proof.Machine.execStreamAdv slot s
  | .streamClose slot => Sys2Proof.Machine.execStreamClose slot s
  | .ctrSet slot => Sys2Proof.Machine.execCtrSet slot s
  | .ctrAdd slot => Sys2Proof.Machine.execCtrAdd slot s
  | .ctrRead slot => Sys2Proof.Machine.execCtrRead slot s
  | .nopCommand slot => Sys2Proof.Machine.execNopCommand slot s
  | .tableLoad slot => Sys2Proof.Machine.execTableLoad slot s
  | .hostClr p => Sys2Proof.Machine.execHostClr p s
  | .perst level => Sys2Proof.Machine.execPerst level s
  | .functionLevelReset crew => Sys2Proof.Machine.execFunctionLevelReset crew s
  | .crewReset p mask => Sys2Proof.Machine.execCrewReset p mask s
  | .crewResetFinish crew => Sys2Proof.Machine.execCrewResetFinish crew s
  | .crewResetForce crew => Sys2Proof.Machine.execCrewResetForce crew s
  | .scrub p mask => Sys2Proof.Machine.execScrub p mask s
  | .registerWrite p off val => Sys2Proof.Machine.execRegisterWrite p off val s
  | .unmappedAccess p write off => Sys2Proof.Machine.execUnmappedAccess p write off s
  | .loLatchRead p off => Sys2Proof.Machine.execLoLatchRead p off s
  | .xactBegin p tag => Sys2Proof.Machine.execXactBegin p tag s
  | .xactCommit p tag => Sys2Proof.Machine.execXactCommit p tag s
  | .xactAbort p tag => Sys2Proof.Machine.execXactAbort p tag s
  | .xactIdleExpiry => Sys2Proof.Machine.execXactIdleExpiry s
  | .mgmtWrite frame => Sys2Proof.Machine.execMgmtWrite frame s
  | .mgmtTransactionalWrite frame => Sys2Proof.Machine.execMgmtTransactionalWrite frame s
  | .mgmtSetReadPointer frame => Sys2Proof.Machine.execMgmtSetReadPointer frame s
  | .mgmtRead addr => Sys2Proof.Machine.execMgmtRead addr s
  | .mgmtFrameDiscard frame cut => Sys2Proof.Machine.execMgmtFrameDiscard frame cut s
  | .mgmtReadTimeout addr => Sys2Proof.Machine.execMgmtReadTimeout addr s
  | .mgmtBusTimeout => Sys2Proof.Machine.execMgmtBusTimeout s
  | .mgmtClr p => Sys2Proof.Machine.execMgmtClr p s
  | .warmReset p val => Sys2Proof.Machine.execWarmReset p val s
  | .featureLock p => Sys2Proof.Machine.execFeatureLock p s
  | .heatClr p => Sys2Proof.Machine.execHeatClr p s
  | .powerClr p => Sys2Proof.Machine.execPowerClr p s
  | .errorClr p => Sys2Proof.Machine.execErrorClr p s
  | .sprintClrCounters p => Sys2Proof.Machine.execSprintClrCounters p s
  | .eportClrCounters p port => Sys2Proof.Machine.execEportClrCounters p port s
  | .resetNAssert => Sys2Proof.Machine.execResetNAssert s
  | .resetRelease straps => Sys2Proof.Machine.execResetRelease straps s
  | .railsOkFall => Sys2Proof.Machine.execRailsOkFall s
  | .vddFabLow => Sys2Proof.Machine.execVddFabLow s
  | .sealVddLoss t => Sys2Proof.Machine.execSealVddLoss t s
  | .sagWarning dies => Sys2Proof.Machine.execSagWarning dies s
  | .sagWarningRelease => Sys2Proof.Machine.execSagWarningRelease s
  | .sagReset dies => Sys2Proof.Machine.execSagReset dies s
  | .sagResetRelease => Sys2Proof.Machine.execSagResetRelease s
  | .thermalTrip t => Sys2Proof.Machine.execThermalTrip t s
  | .telemetrySampling temps t => Sys2Proof.Machine.execTelemetrySampling temps t s
  | .clockLoss bit => Sys2Proof.Machine.execClockLoss bit s
  | .referenceReturn => Sys2Proof.Machine.execReferenceReturn s
  | .diePowerUpDone die => Sys2Proof.Machine.execDiePowerUpDone die s
  | .firmwareBoot slotA slotB => Sys2Proof.Machine.execFirmwareBoot slotA slotB s
  | .memoryTrainingDone hbmBad ddrBad onfiBad ddrUnits rawUnits rawBlocks spares makerBad => Sys2Proof.Machine.execMemoryTrainingDone hbmBad ddrBad onfiBad ddrUnits rawUnits rawBlocks spares makerBad s
  | .computeReady => Sys2Proof.Machine.execComputeReady s
  | .twinStageTimeout => Sys2Proof.Machine.execTwinStageTimeout s
  | .digest msg rx => Sys2Proof.Machine.execDigest msg rx s
  | .digestMissing => Sys2Proof.Machine.execDigestMissing s
  | .cbeDigest id emit entry t => Sys2Proof.Machine.execCbeDigest id emit entry t s
  | .cbeLate id t => Sys2Proof.Machine.execCbeLate id t s
  | .cbeTimeout tag t => Sys2Proof.Machine.execCbeTimeout tag t s
  | .swap exchanged => Sys2Proof.Machine.execSwap exchanged s
  | .control c stern slices => Sys2Proof.Machine.execControl c stern slices s
  | .resyncUnit area unit group layer bolt kvhead slice => Sys2Proof.Machine.execResyncUnit area unit group layer bolt kvhead slice s
  | .detach p => Sys2Proof.Machine.execDetach p s
  | .reattach p => Sys2Proof.Machine.execReattach p s
  | .unfence p => Sys2Proof.Machine.execUnfence p s
  | .twinClr p => Sys2Proof.Machine.execTwinClr p s
  | .peerTimeRead reads => Sys2Proof.Machine.execPeerTimeRead reads s
  | .tapMessage t => Sys2Proof.Machine.execTapMessage t s
  | .aggregateReport t => Sys2Proof.Machine.execAggregateReport t s
  | .recordFormation t => Sys2Proof.Machine.execRecordFormation t s
  | .blockAgeExpiry t => Sys2Proof.Machine.execBlockAgeExpiry t s
  | .blockSigned => Sys2Proof.Machine.execBlockSigned s
  | .ledgerReplay p val => Sys2Proof.Machine.execLedgerReplay p val s
  | .summaryRecord t => Sys2Proof.Machine.execSummaryRecord t s
  | .sealMeasurement t offset => Sys2Proof.Machine.execSealMeasurement t offset s
  | .referenceTimeout t => Sys2Proof.Machine.execReferenceTimeout t s
  | .timeCopyValid t => Sys2Proof.Machine.execTimeCopyValid t s
  | .sealStatus q => Sys2Proof.Machine.execSealStatus q s
  | .sealReadBlock q number => Sys2Proof.Machine.execSealReadBlock q number s
  | .sealReadKey q => Sys2Proof.Machine.execSealReadKey q s
  | .sealWriteConfig q image => Sys2Proof.Machine.execSealWriteConfig q image s
  | .sealFwChunk q offset body => Sys2Proof.Machine.execSealFwChunk q offset body s
  | .sealFwCommit q => Sys2Proof.Machine.execSealFwCommit q s
  | .sealTod q second => Sys2Proof.Machine.execSealTod q second s
  | .sealReset t => Sys2Proof.Machine.execSealReset t s
  | .sealRestart t kept => Sys2Proof.Machine.execSealRestart t kept s
  | .slackWindowOpen t => Sys2Proof.Machine.execSlackWindowOpen t s
  | .activityOverdue activity unit t => Sys2Proof.Machine.execActivityOverdue activity unit t s
  | .t1EccScrub die bad t => Sys2Proof.Machine.execT1EccScrub die bad t s
  | .t2EccScrub site bad t => Sys2Proof.Machine.execT2EccScrub site bad t s
  | .thermalCalibration die t => Sys2Proof.Machine.execThermalCalibration die t s
  | .eportLinkUp port => Sys2Proof.Machine.execEportLinkUp port s
  | .hostLinkUp width speed => Sys2Proof.Machine.execHostLinkUp width speed s
  | .oarPllLockTimeout die => Sys2Proof.Machine.execOarPllLockTimeout die s
  | .sealPpsOutFall => Sys2Proof.Machine.execSealPpsOutFall s

end Sys2Proof.Machine
end

