-- ==== Sys2Proof/Machine/Step.lean ====
section
/-!
DEFINITION. One step of the block: the command at the front of the queue is executed with the rest of
the queue; on an empty queue the block idles.
-/
namespace Sys2Proof.Machine
open Sys2Proof

/-- One step. DESIGN CHOICE (assumption log 1). -/
def step (s : State) : Host.Outcome State Fault Refusal :=
  match s.pending with
  | [] => .next s
  | c :: r => exec c { s with pending := r }

/-- A state with the command that a word spells at the front of its queue; no word spells one.
DESIGN CHOICE (assumption log 8). -/
def State.withFetchWord (s : State) (nbits w : Nat) : State :=
  match decodeTableWord nbits w with
  | some c => { s with pending := c :: s.pending }
  | none => s

end Sys2Proof.Machine
end

