-- ==== Sys2Proof/WellFormed.lean ====
section
/-!
DEFINITION. Well-formed commands: every operand within the range that the specification gives the
unit, the field or the image it stands for. `exec` does not assume it.
-/
namespace Sys2Proof

/-- Fields of a place within their widths (R221, R222). -/
def Place.wf (p : Place) : Bool :=
  p.die < 16 && p.sx < 16 && p.sy < 16 && p.unit < 16 && p.sub < 4096

/-- Fields of a packet inside the module within their widths (R221): whole data flits, at most 8. -/
def Pkt.wf (p : Pkt) : Bool :=
  p.dest.wf && p.src.wf && p.cmd < 256 && p.vc < 5 && p.crew < 32 && p.status < 256
    && p.heat < 65536 && p.tag < 65536 && p.addr < 2 ^ 64 && p.arg < 2 ^ 64
    && p.data.length % 32 = 0 && p.data.length ≤ 256

/-- Fields of a packet on a link within their widths (R221, R242). -/
def HPkt.wf (p : HPkt) : Bool :=
  p.dest < 2048 && p.ctx < 4096 && p.src < 2048 && p.cmd < 256 && p.vc < 5 && p.crew < 32
    && p.status < 256 && p.heat < 65536 && p.tag < 65536 && p.addr < 2 ^ 64 && p.arg < 2 ^ 64
    && p.data.length % 32 = 0 && p.data.length ≤ 256

/-- What a far end announces, within the widths of the registers it comes from (R246, R256). -/
def Identity.wf (i : Identity) : Bool :=
  i.system < 2 ^ 32 && i.dev < 2048 && i.link ≤ 16 && i.features < 2 ^ 128 && i.stage < 16

/-- A digest record within the widths of R382. -/
def DigestMsg.wf (m : DigestMsg) : Bool :=
  m.heat < 2 ^ 64 && m.nDec < 2 ^ 32 && m.nSum < 2 ^ 32 && m.dec < 2 ^ 64 && m.sum < 2 ^ 64
    && m.cfg < 2 ^ 64

/-- A token's identity within the widths of R383. -/
def TokenId.wf (i : TokenId) : Bool := i.heat < 65536 && i.port < 2 && i.ordinal < 2 ^ 32 && i.msg < 32

/-- A service datagram's REQID within its width (R417). -/
def Svc.wf (q : Svc) : Bool := q.reqid < 65536

/-- Every operand of a command within its range. DESIGN CHOICE (assumption log 2). -/
def Instr.wf : Instr → Bool
  | .heatBoundary => true
  | .holdWindowOpen => true
  | .retiringSetRelease group _ => group < 4096
  | .timeOkRise _ => true
  | .cut heat count0 count1 tx rx =>
      heat < 2 ^ 64 && count0 < 2 ^ 32 && count1 < 2 ^ 32 && tx < 2 ^ 64 && rx < 2 ^ 64
  | .cutLate _ => true
  | .frameIngress port _ => port < 2
  | .frameHeaderParse port _ => port < 2
  | .parserSkip port => port < 2
  | .parserLoad port => port < 2
  | .parserAlu port => port < 2
  | .parserField port => port < 2
  | .parserMeta port => port < 2
  | .parserBranch port => port < 2
  | .parserEmit port _ => port < 2
  | .parserEnd port => port < 2
  | .frameCheck port _ _ => port < 2
  | .streamLookup _ => true
  | .sprintQueryForm tag => tag < 2 ^ 64
  | .sprintPartialCompute group tag _ unit _ => group < 4096 && tag < 2 ^ 64 && unit < 16384
  | .sprintPartialReady group tag _ => group < 4096 && tag < 2 ^ 64
  | .treeFold _ => true
  | .sprintLayerComplete tag => tag < 2 ^ 64
  | .decisionBuild tag => tag < 2 ^ 64
  | .decisionReady tag _ => tag < 2 ^ 64
  | .deadlinePass tag _ => tag < 2 ^ 64
  | .vc0WindowStart _ => true
  | .sprintDisarmDone => true
  | .egressStamp port _ => port < 2
  | .parseTblDataAccess _ _ _ => true
  | .tblSwap _ _ => true
  | .parseRefillDone => true
  | .oarNop die oar => die < 8 && oar < 2048
  | .oarMma die oar => die < 8 && oar < 2048
  | .oarVec die oar => die < 8 && oar < 2048
  | .oarSfn die oar => die < 8 && oar < 2048
  | .oarMove die oar => die < 8 && oar < 2048
  | .oarLoop die oar => die < 8 && oar < 2048
  | .oarSync die oar => die < 8 && oar < 2048
  | .oarSetcr die oar => die < 8 && oar < 2048
  | .oarCond die oar => die < 8 && oar < 2048
  | .oarSeat die oar => die < 8 && oar < 2048
  | .oarHalt die oar => die < 8 && oar < 2048
  | .oarUnitDone die oar unit _ => die < 8 && oar < 2048 && unit < 4
  | .steeringMove die shell entry => die < 8 && shell < 256 && entry < 16
  | .seatImageArrival die oar => die < 8 && oar < 2048
  | .seatSwitch die shell => die < 8 && shell < 256
  | .watchdogExpiry die shell => die < 8 && shell < 256
  | .drain _ die => die < 8
  | .drainComplete die => die < 8
  | .drainTimeout die => die < 8
  | .resume _ die => die < 8
  | .snap _ die => die < 8
  | .gridClr _ die => die < 8
  | .creditReturn die oar iq => die < 8 && oar < 2048 && iq < 4
  | .xferUnit die list _ => die < 8 && list < 64
  | .storeUnit die list => die < 8 && list < 64
  | .cacheLineFill die crew addr => die < 8 && crew < 16 && addr < 2 ^ 60
  | .tileClr _ die => die < 8
  | .numfClr _ => true
  | .passStart die shell => die < 8 && shell < 256
  | .passComplete die shell => die < 8 && shell < 256
  | .probabilityTileWrite die shell => die < 8 && shell < 256
  | .walkComplete die shell bolt => die < 8 && shell < 256 && bolt < 2 ^ 48
  | .attnClr _ => true
  | .migrationCopyDone slot => slot < 4096
  | .sourceRelease crew obj => crew < 16 && obj < 2 ^ 20
  | .tierTimerExpiry slot => slot < 4096
  | .tierReply slot _ unit _ => slot < 4096 && unit < 2 ^ 32
  | .channelOutOfService tier ch => 2 ≤ tier && tier ≤ 4 && ch < 32
  | .loomWearLevelling _ _ ch _ => ch < 32
  | .loomReadDisturbRefresh _ _ _ _ ch _ => ch < 32
  | .loomProgramFail _ _ => true
  | .tierClr _ => true
  | .meshHop die router inp vc ecc => die < 9 && router ≤ 256 && inp < 5 && vc < 5 && ecc < 20
  | .ringHop stop _ vc _ ecc => stop < 9 && vc < 5 && ecc < 20
  | .linkCreditReturn queue => queue < 2 ^ 32
  | .qdata pkt => pkt.wf
  | .qend pkt => pkt.wf
  | .rdReq _ pkt => pkt.wf
  | .rdResp pkt => pkt.wf
  | .wrReq _ pkt => pkt.wf
  | .wrAck pkt => pkt.wf
  | .regRd pkt => pkt.wf
  | .regRdResp pkt => pkt.wf
  | .regWr pkt => pkt.wf
  | .regWrAck pkt => pkt.wf
  | .sprintPacket pkt => pkt.wf
  | .collPacket pkt => pkt.wf
  | .xchgPacket pkt => pkt.wf
  | .faultNotice pkt => pkt.wf
  | .errResp pkt => pkt.wf
  | .netTimeout die tag => die < 9 && tag < 2 ^ 16
  | .tagQuarantineEnd die tag => die < 9 && tag < 2 ^ 16
  | .domainWake die shell => die < 8 && shell < 256
  | .domainSleep die shell => die < 8 && shell < 256
  | .netClr _ die => die < 9
  | .henacFrameSend link => link ≤ 16
  | .henacFrameReceive link _ _ => link ≤ 16
  | .linkEnable _ link => link ≤ 16
  | .retrain _ link => link ≤ 16
  | .receiverAdaptationDone link _ farRefuse => link ≤ 16 && farRefuse < 8
  | .frameLock link => link ≤ 16
  | .identityExchange link far farRefuse => link ≤ 16 && far.wf && farRefuse < 8
  | .recalibration link _ => link ≤ 16
  | .recalibrationEnd link _ => link ≤ 16
  | .linkClr _ link => link ≤ 16
  | .groupWrite slot => slot < 4096
  | .sumRoot slot => slot < 4096
  | .sumAll slot => slot < 4096
  | .bcast slot => slot < 4096
  | .barrier slot => slot < 4096
  | .xchgEq slot => slot < 4096
  | .xchgCounts slot => slot < 4096
  | .xchgPad slot => slot < 4096
  | .rotate slot => slot < 4096
  | .treeOpStart slot => slot < 4096
  | .collAbort pkt => pkt.wf
  | .collTimerExpiry slot => slot < 4096
  | .collClr _ => true
  | .sqDoorbell crew sq val => crew < 16 && sq < 8 && val < 2 ^ 32
  | .cqDoorbell crew cq val => crew < 16 && cq < 8 && val < 2 ^ 32
  | .commandFetch entry _ => entry.length = 64
  | .waitMet slot => slot < 4096
  | .completionWrite slot => slot < 4096
  | .progStart slot => slot < 4096
  | .xfer slot => slot < 4096
  | .attn slot => slot < 4096
  | .alloc slot => slot < 4096
  | .free slot => slot < 4096
  | .migrate slot => slot < 4096
  | .tierCopy slot => slot < 4096
  | .sprintWrite slot => slot < 4096
  | .sprintReady slot => slot < 4096
  | .boltInval slot => slot < 4096
  | .hostCopy slot _ => slot < 4096
  | .readoutLoad slot => slot < 4096
  | .streamOpen slot => slot < 4096
  | .streamAdv slot => slot < 4096
  | .streamClose slot => slot < 4096
  | .ctrSet slot => slot < 4096
  | .ctrAdd slot => slot < 4096
  | .ctrRead slot => slot < 4096
  | .nopCommand slot => slot < 4096
  | .tableLoad slot => slot < 4096
  | .hostClr _ => true
  | .perst _ => true
  | .functionLevelReset crew => crew < 16
  | .crewReset _ mask => mask < 2 ^ 16
  | .crewResetFinish crew => crew < 16
  | .crewResetForce crew => crew < 16
  | .scrub _ mask => mask < 2 ^ 16
  | .registerWrite _ off _ => off < 2 ^ 25
  | .unmappedAccess _ _ off => off < 2 ^ 25
  | .loLatchRead _ off => off < 2 ^ 25
  | .xactBegin _ tag => tag < 64
  | .xactCommit _ tag => tag < 64
  | .xactAbort _ tag => tag < 64
  | .xactIdleExpiry => true
  | .mgmtWrite _ => true
  | .mgmtTransactionalWrite _ => true
  | .mgmtSetReadPointer _ => true
  | .mgmtRead _ => true
  | .mgmtFrameDiscard _ _ => true
  | .mgmtReadTimeout _ => true
  | .mgmtBusTimeout => true
  | .mgmtClr _ => true
  | .warmReset _ _ => true
  | .featureLock _ => true
  | .heatClr _ => true
  | .powerClr _ => true
  | .errorClr _ => true
  | .sprintClrCounters _ => true
  | .eportClrCounters _ port => port < 2
  | .resetNAssert => true
  | .resetRelease straps => straps < 2 ^ 16
  | .railsOkFall => true
  | .vddFabLow => true
  | .sealVddLoss _ => true
  | .sagWarning dies => dies < 2 ^ 9
  | .sagWarningRelease => true
  | .sagReset dies => dies < 2 ^ 8
  | .sagResetRelease => true
  | .thermalTrip _ => true
  | .telemetrySampling temps _ => temps.length = 9 && temps.all (· < 4096)
  | .clockLoss bit => bit ≤ 25 && bit != 22 && bit != 23
  | .referenceReturn => true
  | .diePowerUpDone die => die < 8
  | .firmwareBoot _ _ => true
  | .memoryTrainingDone hbmBad ddrBad onfiBad ddrUnits rawUnits rawBlocks spares makerBad =>
      hbmBad < 2 ^ 8 && ddrBad < 2 ^ 8 && onfiBad < 2 ^ 32 && ddrUnits ≤ 2 ^ 25 && rawUnits ≤ 2 ^ 30
        && spares ≤ rawBlocks / 8 && makerBad < 2 ^ rawBlocks
  | .computeReady => true
  | .twinStageTimeout => true
  | .digest msg _ => msg.wf
  | .digestMissing => true
  | .cbeDigest id _ _ _ => id.wf
  | .cbeLate id _ => id.wf
  | .cbeTimeout tag _ => tag < 2 ^ 64
  | .swap exchanged => exchanged.all (· < 4096)
  | .control _ _ slices => slices ≤ 16
  | .resyncUnit area unit group layer bolt kvhead slice =>
      area < 2 && unit < 16384 && group ≤ 4096 && layer < 4 && bolt < 1024 && kvhead < 8 && slice.length = 34816
  | .detach _ => true
  | .reattach _ => true
  | .unfence _ => true
  | .twinClr _ => true
  | .peerTimeRead _ => true
  | .tapMessage _ => true
  | .aggregateReport _ => true
  | .recordFormation _ => true
  | .blockAgeExpiry _ => true
  | .blockSigned => true
  | .ledgerReplay _ _ => true
  | .summaryRecord _ => true
  | .sealMeasurement _ _ => true
  | .referenceTimeout _ => true
  | .timeCopyValid _ => true
  | .sealStatus q => q.wf
  | .sealReadBlock q number => q.wf && number < 2 ^ 64
  | .sealReadKey q => q.wf
  | .sealWriteConfig q image => q.wf && image.length = 256
  | .sealFwChunk q offset body => q.wf && offset < 2 ^ 32 && body.length ≤ 1400
  | .sealFwCommit q => q.wf
  | .sealTod q second => q.wf && second < 2 ^ 48
  | .sealReset _ => true
  | .sealRestart _ _ => true
  | .slackWindowOpen _ => true
  | .activityOverdue activity unit _ => 1 ≤ activity && activity ≤ 4 && unit < 4096
  | .t1EccScrub die _ _ => die < 8
  | .t2EccScrub site _ _ => site < 8
  | .thermalCalibration die _ => die < 9
  | .eportLinkUp port => port < 2
  | .hostLinkUp width speed => width < 32 && speed < 16
  | .oarPllLockTimeout die => die < 8
  | .sealPpsOutFall => true

end Sys2Proof
end

