-- ==== Sys2Proof/Laws/PerInstr.lean ====
section
/-!
SUPPORT. A statement made per command: the numbers by which a well-formed command names an event port,
a die, a crew, a slot of the slot table and a link are numbers of units that exist.
-/
namespace Sys2Proof

/-- The event port that a command names (R76). -/
def Instr.portOp : Instr → Option Nat
  | .frameIngress port _ => some port
  | .frameHeaderParse port _ => some port
  | .parserSkip port => some port
  | .parserLoad port => some port
  | .parserAlu port => some port
  | .parserField port => some port
  | .parserMeta port => some port
  | .parserBranch port => some port
  | .parserEmit port _ => some port
  | .parserEnd port => some port
  | .frameCheck port _ _ => some port
  | .egressStamp port _ => some port
  | .eportClrCounters _ port => some port
  | .eportLinkUp port => some port
  | _ => none

/-- The die that a command names; 8 is the fabric die (R222). -/
def Instr.dieOp : Instr → Option Nat
  | .oarNop die _ => some die
  | .oarMma die _ => some die
  | .oarVec die _ => some die
  | .oarSfn die _ => some die
  | .oarMove die _ => some die
  | .oarLoop die _ => some die
  | .oarSync die _ => some die
  | .oarSetcr die _ => some die
  | .oarCond die _ => some die
  | .oarSeat die _ => some die
  | .oarHalt die _ => some die
  | .oarUnitDone die _ _ _ => some die
  | .steeringMove die _ _ => some die
  | .seatImageArrival die _ => some die
  | .seatSwitch die _ => some die
  | .watchdogExpiry die _ => some die
  | .drain _ die => some die
  | .drainComplete die => some die
  | .drainTimeout die => some die
  | .resume _ die => some die
  | .snap _ die => some die
  | .gridClr _ die => some die
  | .creditReturn die _ _ => some die
  | .xferUnit die _ _ => some die
  | .storeUnit die _ => some die
  | .cacheLineFill die _ _ => some die
  | .tileClr _ die => some die
  | .passStart die _ => some die
  | .passComplete die _ => some die
  | .probabilityTileWrite die _ => some die
  | .walkComplete die _ _ => some die
  | .meshHop die _ _ _ _ => some die
  | .netTimeout die _ => some die
  | .tagQuarantineEnd die _ => some die
  | .domainWake die _ => some die
  | .domainSleep die _ => some die
  | .netClr _ die => some die
  | .diePowerUpDone die => some die
  | .t1EccScrub die _ _ => some die
  | .thermalCalibration die _ => some die
  | .oarPllLockTimeout die => some die
  | _ => none

/-- The crew that a command names (R292). -/
def Instr.crewOp : Instr → Option Nat
  | .cacheLineFill _ crew _ => some crew
  | .sourceRelease crew _ => some crew
  | .sqDoorbell crew _ _ => some crew
  | .cqDoorbell crew _ _ => some crew
  | .functionLevelReset crew => some crew
  | .crewResetFinish crew => some crew
  | .crewResetForce crew => some crew
  | _ => none

/-- The slot of the slot table that a command names (R287). -/
def Instr.slotOp : Instr → Option Nat
  | .migrationCopyDone slot => some slot
  | .tierTimerExpiry slot => some slot
  | .tierReply slot _ _ _ => some slot
  | .groupWrite slot => some slot
  | .sumRoot slot => some slot
  | .sumAll slot => some slot
  | .bcast slot => some slot
  | .barrier slot => some slot
  | .xchgEq slot => some slot
  | .xchgCounts slot => some slot
  | .xchgPad slot => some slot
  | .rotate slot => some slot
  | .treeOpStart slot => some slot
  | .collTimerExpiry slot => some slot
  | .waitMet slot => some slot
  | .completionWrite slot => some slot
  | .progStart slot => some slot
  | .xfer slot => some slot
  | .attn slot => some slot
  | .alloc slot => some slot
  | .free slot => some slot
  | .migrate slot => some slot
  | .tierCopy slot => some slot
  | .sprintWrite slot => some slot
  | .sprintReady slot => some slot
  | .boltInval slot => some slot
  | .hostCopy slot _ => some slot
  | .readoutLoad slot => some slot
  | .streamOpen slot => some slot
  | .streamAdv slot => some slot
  | .streamClose slot => some slot
  | .ctrSet slot => some slot
  | .ctrAdd slot => some slot
  | .ctrRead slot => some slot
  | .nopCommand slot => some slot
  | .tableLoad slot => some slot
  | _ => none

/-- The link that a command names; 16 is the twin port (R256). -/
def Instr.linkOp : Instr → Option Nat
  | .henacFrameSend link => some link
  | .henacFrameReceive link _ _ => some link
  | .linkEnable _ link => some link
  | .retrain _ link => some link
  | .receiverAdaptationDone link _ _ => some link
  | .frameLock link => some link
  | .identityExchange link _ _ => some link
  | .recalibration link _ => some link
  | .recalibrationEnd link _ => some link
  | .linkClr _ link => some link
  | _ => none

end Sys2Proof

namespace Sys2Proof.Laws.WellFormed
open Sys2Proof

/-- The units that a well-formed command names exist. -/
def Statement (i : Instr) : Prop :=
  i.wf = true →
    (∀ n, i.portOp = some n → n < 2) ∧ (∀ n, i.dieOp = some n → n < 9)
      ∧ (∀ n, i.crewOp = some n → n < 16) ∧ (∀ n, i.slotOp = some n → n < 4096)
      ∧ ∀ n, i.linkOp = some n → n < 17

/-- A command without such an operand. -/
theorem noOperand {k : Nat} (n : Nat) (e : (none : Option Nat) = some n) : n < k := nomatch e

theorem heatBoundary : Statement .heatBoundary := by
  intro _
  exact ⟨noOperand, noOperand, noOperand, noOperand, noOperand⟩

theorem holdWindowOpen : Statement .holdWindowOpen := by
  intro _
  exact ⟨noOperand, noOperand, noOperand, noOperand, noOperand⟩

theorem retiringSetRelease (group : Nat) (t : Time) : Statement (.retiringSetRelease group t) := by
  intro _
  exact ⟨noOperand, noOperand, noOperand, noOperand, noOperand⟩

theorem timeOkRise (t : Time) : Statement (.timeOkRise t) := by
  intro _
  exact ⟨noOperand, noOperand, noOperand, noOperand, noOperand⟩

theorem cut (heat : Nat) (count0 : Nat) (count1 : Nat) (tx : Nat) (rx : Nat) : Statement (.cut heat count0 count1 tx rx) := by
  intro _
  exact ⟨noOperand, noOperand, noOperand, noOperand, noOperand⟩

theorem cutLate (t : Time) : Statement (.cutLate t) := by
  intro _
  exact ⟨noOperand, noOperand, noOperand, noOperand, noOperand⟩

theorem frameIngress (port : Nat) (t : Time) : Statement (.frameIngress port t) := by
  intro h
  have h : ((port < 2 : Bool) = true) := h
  simp only [decide_eq_true_eq] at h
  exact ⟨fun n e => Option.some.inj (show some port = some n from e) ▸ (by omega), noOperand, noOperand, noOperand, noOperand⟩

theorem frameHeaderParse (port : Nat) (bytes : List Byte) : Statement (.frameHeaderParse port bytes) := by
  intro h
  have h : ((port < 2 : Bool) = true) := h
  simp only [decide_eq_true_eq] at h
  exact ⟨fun n e => Option.some.inj (show some port = some n from e) ▸ (by omega), noOperand, noOperand, noOperand, noOperand⟩

theorem parserSkip (port : Nat) : Statement (.parserSkip port) := by
  intro h
  have h : ((port < 2 : Bool) = true) := h
  simp only [decide_eq_true_eq] at h
  exact ⟨fun n e => Option.some.inj (show some port = some n from e) ▸ (by omega), noOperand, noOperand, noOperand, noOperand⟩

theorem parserLoad (port : Nat) : Statement (.parserLoad port) := by
  intro h
  have h : ((port < 2 : Bool) = true) := h
  simp only [decide_eq_true_eq] at h
  exact ⟨fun n e => Option.some.inj (show some port = some n from e) ▸ (by omega), noOperand, noOperand, noOperand, noOperand⟩

theorem parserAlu (port : Nat) : Statement (.parserAlu port) := by
  intro h
  have h : ((port < 2 : Bool) = true) := h
  simp only [decide_eq_true_eq] at h
  exact ⟨fun n e => Option.some.inj (show some port = some n from e) ▸ (by omega), noOperand, noOperand, noOperand, noOperand⟩

theorem parserField (port : Nat) : Statement (.parserField port) := by
  intro h
  have h : ((port < 2 : Bool) = true) := h
  simp only [decide_eq_true_eq] at h
  exact ⟨fun n e => Option.some.inj (show some port = some n from e) ▸ (by omega), noOperand, noOperand, noOperand, noOperand⟩

theorem parserMeta (port : Nat) : Statement (.parserMeta port) := by
  intro h
  have h : ((port < 2 : Bool) = true) := h
  simp only [decide_eq_true_eq] at h
  exact ⟨fun n e => Option.some.inj (show some port = some n from e) ▸ (by omega), noOperand, noOperand, noOperand, noOperand⟩

theorem parserBranch (port : Nat) : Statement (.parserBranch port) := by
  intro h
  have h : ((port < 2 : Bool) = true) := h
  simp only [decide_eq_true_eq] at h
  exact ⟨fun n e => Option.some.inj (show some port = some n from e) ▸ (by omega), noOperand, noOperand, noOperand, noOperand⟩

theorem parserEmit (port : Nat) (t : Time) : Statement (.parserEmit port t) := by
  intro h
  have h : ((port < 2 : Bool) = true) := h
  simp only [decide_eq_true_eq] at h
  exact ⟨fun n e => Option.some.inj (show some port = some n from e) ▸ (by omega), noOperand, noOperand, noOperand, noOperand⟩

theorem parserEnd (port : Nat) : Statement (.parserEnd port) := by
  intro h
  have h : ((port < 2 : Bool) = true) := h
  simp only [decide_eq_true_eq] at h
  exact ⟨fun n e => Option.some.inj (show some port = some n from e) ▸ (by omega), noOperand, noOperand, noOperand, noOperand⟩

theorem frameCheck (port : Nat) (fcs : Word) (t : Time) : Statement (.frameCheck port fcs t) := by
  intro h
  have h : ((port < 2 : Bool) = true) := h
  simp only [decide_eq_true_eq] at h
  exact ⟨fun n e => Option.some.inj (show some port = some n from e) ▸ (by omega), noOperand, noOperand, noOperand, noOperand⟩

theorem streamLookup (t : Time) : Statement (.streamLookup t) := by
  intro _
  exact ⟨noOperand, noOperand, noOperand, noOperand, noOperand⟩

theorem sprintQueryForm (tag : Nat) : Statement (.sprintQueryForm tag) := by
  intro _
  exact ⟨noOperand, noOperand, noOperand, noOperand, noOperand⟩

theorem sprintPartialCompute (group : Nat) (tag : Nat) (weft : Bool) (unit : Nat) (ecc : Bool) : Statement (.sprintPartialCompute group tag weft unit ecc) := by
  intro _
  exact ⟨noOperand, noOperand, noOperand, noOperand, noOperand⟩

theorem sprintPartialReady (group : Nat) (tag : Nat) (weft : Bool) : Statement (.sprintPartialReady group tag weft) := by
  intro _
  exact ⟨noOperand, noOperand, noOperand, noOperand, noOperand⟩

theorem treeFold (node : Nat) : Statement (.treeFold node) := by
  intro _
  exact ⟨noOperand, noOperand, noOperand, noOperand, noOperand⟩

theorem sprintLayerComplete (tag : Nat) : Statement (.sprintLayerComplete tag) := by
  intro _
  exact ⟨noOperand, noOperand, noOperand, noOperand, noOperand⟩

theorem decisionBuild (tag : Nat) : Statement (.decisionBuild tag) := by
  intro _
  exact ⟨noOperand, noOperand, noOperand, noOperand, noOperand⟩

theorem decisionReady (tag : Nat) (t : Time) : Statement (.decisionReady tag t) := by
  intro _
  exact ⟨noOperand, noOperand, noOperand, noOperand, noOperand⟩

theorem deadlinePass (tag : Nat) (t : Time) : Statement (.deadlinePass tag t) := by
  intro _
  exact ⟨noOperand, noOperand, noOperand, noOperand, noOperand⟩

theorem vc0WindowStart (t : Time) : Statement (.vc0WindowStart t) := by
  intro _
  exact ⟨noOperand, noOperand, noOperand, noOperand, noOperand⟩

theorem sprintDisarmDone : Statement .sprintDisarmDone := by
  intro _
  exact ⟨noOperand, noOperand, noOperand, noOperand, noOperand⟩

theorem egressStamp (port : Nat) (t : Time) : Statement (.egressStamp port t) := by
  intro h
  have h : ((port < 2 : Bool) = true) := h
  simp only [decide_eq_true_eq] at h
  exact ⟨fun n e => Option.some.inj (show some port = some n from e) ▸ (by omega), noOperand, noOperand, noOperand, noOperand⟩

theorem parseTblDataAccess (p : Port) (write : Bool) (val : Word) : Statement (.parseTblDataAccess p write val) := by
  intro _
  exact ⟨noOperand, noOperand, noOperand, noOperand, noOperand⟩

theorem tblSwap (p : Port) (val : Word) : Statement (.tblSwap p val) := by
  intro _
  exact ⟨noOperand, noOperand, noOperand, noOperand, noOperand⟩

theorem parseRefillDone : Statement .parseRefillDone := by
  intro _
  exact ⟨noOperand, noOperand, noOperand, noOperand, noOperand⟩

theorem oarNop (die : Nat) (oar : Nat) : Statement (.oarNop die oar) := by
  intro h
  have h : ((die < 8 && oar < 2048 : Bool) = true) := h
  simp only [Bool.and_eq_true, decide_eq_true_eq] at h
  exact ⟨noOperand, fun n e => Option.some.inj (show some die = some n from e) ▸ (by omega), noOperand, noOperand, noOperand⟩

theorem oarMma (die : Nat) (oar : Nat) : Statement (.oarMma die oar) := by
  intro h
  have h : ((die < 8 && oar < 2048 : Bool) = true) := h
  simp only [Bool.and_eq_true, decide_eq_true_eq] at h
  exact ⟨noOperand, fun n e => Option.some.inj (show some die = some n from e) ▸ (by omega), noOperand, noOperand, noOperand⟩

theorem oarVec (die : Nat) (oar : Nat) : Statement (.oarVec die oar) := by
  intro h
  have h : ((die < 8 && oar < 2048 : Bool) = true) := h
  simp only [Bool.and_eq_true, decide_eq_true_eq] at h
  exact ⟨noOperand, fun n e => Option.some.inj (show some die = some n from e) ▸ (by omega), noOperand, noOperand, noOperand⟩

theorem oarSfn (die : Nat) (oar : Nat) : Statement (.oarSfn die oar) := by
  intro h
  have h : ((die < 8 && oar < 2048 : Bool) = true) := h
  simp only [Bool.and_eq_true, decide_eq_true_eq] at h
  exact ⟨noOperand, fun n e => Option.some.inj (show some die = some n from e) ▸ (by omega), noOperand, noOperand, noOperand⟩

theorem oarMove (die : Nat) (oar : Nat) : Statement (.oarMove die oar) := by
  intro h
  have h : ((die < 8 && oar < 2048 : Bool) = true) := h
  simp only [Bool.and_eq_true, decide_eq_true_eq] at h
  exact ⟨noOperand, fun n e => Option.some.inj (show some die = some n from e) ▸ (by omega), noOperand, noOperand, noOperand⟩

theorem oarLoop (die : Nat) (oar : Nat) : Statement (.oarLoop die oar) := by
  intro h
  have h : ((die < 8 && oar < 2048 : Bool) = true) := h
  simp only [Bool.and_eq_true, decide_eq_true_eq] at h
  exact ⟨noOperand, fun n e => Option.some.inj (show some die = some n from e) ▸ (by omega), noOperand, noOperand, noOperand⟩

theorem oarSync (die : Nat) (oar : Nat) : Statement (.oarSync die oar) := by
  intro h
  have h : ((die < 8 && oar < 2048 : Bool) = true) := h
  simp only [Bool.and_eq_true, decide_eq_true_eq] at h
  exact ⟨noOperand, fun n e => Option.some.inj (show some die = some n from e) ▸ (by omega), noOperand, noOperand, noOperand⟩

theorem oarSetcr (die : Nat) (oar : Nat) : Statement (.oarSetcr die oar) := by
  intro h
  have h : ((die < 8 && oar < 2048 : Bool) = true) := h
  simp only [Bool.and_eq_true, decide_eq_true_eq] at h
  exact ⟨noOperand, fun n e => Option.some.inj (show some die = some n from e) ▸ (by omega), noOperand, noOperand, noOperand⟩

theorem oarCond (die : Nat) (oar : Nat) : Statement (.oarCond die oar) := by
  intro h
  have h : ((die < 8 && oar < 2048 : Bool) = true) := h
  simp only [Bool.and_eq_true, decide_eq_true_eq] at h
  exact ⟨noOperand, fun n e => Option.some.inj (show some die = some n from e) ▸ (by omega), noOperand, noOperand, noOperand⟩

theorem oarSeat (die : Nat) (oar : Nat) : Statement (.oarSeat die oar) := by
  intro h
  have h : ((die < 8 && oar < 2048 : Bool) = true) := h
  simp only [Bool.and_eq_true, decide_eq_true_eq] at h
  exact ⟨noOperand, fun n e => Option.some.inj (show some die = some n from e) ▸ (by omega), noOperand, noOperand, noOperand⟩

theorem oarHalt (die : Nat) (oar : Nat) : Statement (.oarHalt die oar) := by
  intro h
  have h : ((die < 8 && oar < 2048 : Bool) = true) := h
  simp only [Bool.and_eq_true, decide_eq_true_eq] at h
  exact ⟨noOperand, fun n e => Option.some.inj (show some die = some n from e) ▸ (by omega), noOperand, noOperand, noOperand⟩

theorem oarUnitDone (die : Nat) (oar : Nat) (unit : Nat) (ecc : Bool) : Statement (.oarUnitDone die oar unit ecc) := by
  intro h
  have h : ((die < 8 && oar < 2048 && unit < 4 : Bool) = true) := h
  simp only [Bool.and_eq_true, decide_eq_true_eq] at h
  exact ⟨noOperand, fun n e => Option.some.inj (show some die = some n from e) ▸ (by omega), noOperand, noOperand, noOperand⟩

theorem steeringMove (die : Nat) (shell : Nat) (entry : Nat) : Statement (.steeringMove die shell entry) := by
  intro h
  have h : ((die < 8 && shell < 256 && entry < 16 : Bool) = true) := h
  simp only [Bool.and_eq_true, decide_eq_true_eq] at h
  exact ⟨noOperand, fun n e => Option.some.inj (show some die = some n from e) ▸ (by omega), noOperand, noOperand, noOperand⟩

theorem seatImageArrival (die : Nat) (oar : Nat) : Statement (.seatImageArrival die oar) := by
  intro h
  have h : ((die < 8 && oar < 2048 : Bool) = true) := h
  simp only [Bool.and_eq_true, decide_eq_true_eq] at h
  exact ⟨noOperand, fun n e => Option.some.inj (show some die = some n from e) ▸ (by omega), noOperand, noOperand, noOperand⟩

theorem seatSwitch (die : Nat) (shell : Nat) : Statement (.seatSwitch die shell) := by
  intro h
  have h : ((die < 8 && shell < 256 : Bool) = true) := h
  simp only [Bool.and_eq_true, decide_eq_true_eq] at h
  exact ⟨noOperand, fun n e => Option.some.inj (show some die = some n from e) ▸ (by omega), noOperand, noOperand, noOperand⟩

theorem watchdogExpiry (die : Nat) (shell : Nat) : Statement (.watchdogExpiry die shell) := by
  intro h
  have h : ((die < 8 && shell < 256 : Bool) = true) := h
  simp only [Bool.and_eq_true, decide_eq_true_eq] at h
  exact ⟨noOperand, fun n e => Option.some.inj (show some die = some n from e) ▸ (by omega), noOperand, noOperand, noOperand⟩

theorem drain (p : Port) (die : Nat) : Statement (.drain p die) := by
  intro h
  have h : ((die < 8 : Bool) = true) := h
  simp only [decide_eq_true_eq] at h
  exact ⟨noOperand, fun n e => Option.some.inj (show some die = some n from e) ▸ (by omega), noOperand, noOperand, noOperand⟩

theorem drainComplete (die : Nat) : Statement (.drainComplete die) := by
  intro h
  have h : ((die < 8 : Bool) = true) := h
  simp only [decide_eq_true_eq] at h
  exact ⟨noOperand, fun n e => Option.some.inj (show some die = some n from e) ▸ (by omega), noOperand, noOperand, noOperand⟩

theorem drainTimeout (die : Nat) : Statement (.drainTimeout die) := by
  intro h
  have h : ((die < 8 : Bool) = true) := h
  simp only [decide_eq_true_eq] at h
  exact ⟨noOperand, fun n e => Option.some.inj (show some die = some n from e) ▸ (by omega), noOperand, noOperand, noOperand⟩

theorem resume (p : Port) (die : Nat) : Statement (.resume p die) := by
  intro h
  have h : ((die < 8 : Bool) = true) := h
  simp only [decide_eq_true_eq] at h
  exact ⟨noOperand, fun n e => Option.some.inj (show some die = some n from e) ▸ (by omega), noOperand, noOperand, noOperand⟩

theorem snap (p : Port) (die : Nat) : Statement (.snap p die) := by
  intro h
  have h : ((die < 8 : Bool) = true) := h
  simp only [decide_eq_true_eq] at h
  exact ⟨noOperand, fun n e => Option.some.inj (show some die = some n from e) ▸ (by omega), noOperand, noOperand, noOperand⟩

theorem gridClr (p : Port) (die : Nat) : Statement (.gridClr p die) := by
  intro h
  have h : ((die < 8 : Bool) = true) := h
  simp only [decide_eq_true_eq] at h
  exact ⟨noOperand, fun n e => Option.some.inj (show some die = some n from e) ▸ (by omega), noOperand, noOperand, noOperand⟩

theorem creditReturn (die : Nat) (oar : Nat) (iq : Nat) : Statement (.creditReturn die oar iq) := by
  intro h
  have h : ((die < 8 && oar < 2048 && iq < 4 : Bool) = true) := h
  simp only [Bool.and_eq_true, decide_eq_true_eq] at h
  exact ⟨noOperand, fun n e => Option.some.inj (show some die = some n from e) ▸ (by omega), noOperand, noOperand, noOperand⟩

theorem xferUnit (die : Nat) (list : Nat) (ecc : Bool) : Statement (.xferUnit die list ecc) := by
  intro h
  have h : ((die < 8 && list < 64 : Bool) = true) := h
  simp only [Bool.and_eq_true, decide_eq_true_eq] at h
  exact ⟨noOperand, fun n e => Option.some.inj (show some die = some n from e) ▸ (by omega), noOperand, noOperand, noOperand⟩

theorem storeUnit (die : Nat) (list : Nat) : Statement (.storeUnit die list) := by
  intro h
  have h : ((die < 8 && list < 64 : Bool) = true) := h
  simp only [Bool.and_eq_true, decide_eq_true_eq] at h
  exact ⟨noOperand, fun n e => Option.some.inj (show some die = some n from e) ▸ (by omega), noOperand, noOperand, noOperand⟩

theorem cacheLineFill (die : Nat) (crew : Nat) (addr : Nat) : Statement (.cacheLineFill die crew addr) := by
  intro h
  have h : ((die < 8 && crew < 16 && addr < 2 ^ 60 : Bool) = true) := h
  simp only [Bool.and_eq_true, decide_eq_true_eq] at h
  exact ⟨noOperand, fun n e => Option.some.inj (show some die = some n from e) ▸ (by omega), fun n e => Option.some.inj (show some crew = some n from e) ▸ (by omega), noOperand, noOperand⟩

theorem tileClr (p : Port) (die : Nat) : Statement (.tileClr p die) := by
  intro h
  have h : ((die < 8 : Bool) = true) := h
  simp only [decide_eq_true_eq] at h
  exact ⟨noOperand, fun n e => Option.some.inj (show some die = some n from e) ▸ (by omega), noOperand, noOperand, noOperand⟩

theorem numfClr (p : Port) : Statement (.numfClr p) := by
  intro _
  exact ⟨noOperand, noOperand, noOperand, noOperand, noOperand⟩

theorem passStart (die : Nat) (shell : Nat) : Statement (.passStart die shell) := by
  intro h
  have h : ((die < 8 && shell < 256 : Bool) = true) := h
  simp only [Bool.and_eq_true, decide_eq_true_eq] at h
  exact ⟨noOperand, fun n e => Option.some.inj (show some die = some n from e) ▸ (by omega), noOperand, noOperand, noOperand⟩

theorem passComplete (die : Nat) (shell : Nat) : Statement (.passComplete die shell) := by
  intro h
  have h : ((die < 8 && shell < 256 : Bool) = true) := h
  simp only [Bool.and_eq_true, decide_eq_true_eq] at h
  exact ⟨noOperand, fun n e => Option.some.inj (show some die = some n from e) ▸ (by omega), noOperand, noOperand, noOperand⟩

theorem probabilityTileWrite (die : Nat) (shell : Nat) : Statement (.probabilityTileWrite die shell) := by
  intro h
  have h : ((die < 8 && shell < 256 : Bool) = true) := h
  simp only [Bool.and_eq_true, decide_eq_true_eq] at h
  exact ⟨noOperand, fun n e => Option.some.inj (show some die = some n from e) ▸ (by omega), noOperand, noOperand, noOperand⟩

theorem walkComplete (die : Nat) (shell : Nat) (bolt : Nat) : Statement (.walkComplete die shell bolt) := by
  intro h
  have h : ((die < 8 && shell < 256 && bolt < 2 ^ 48 : Bool) = true) := h
  simp only [Bool.and_eq_true, decide_eq_true_eq] at h
  exact ⟨noOperand, fun n e => Option.some.inj (show some die = some n from e) ▸ (by omega), noOperand, noOperand, noOperand⟩

theorem attnClr (p : Port) : Statement (.attnClr p) := by
  intro _
  exact ⟨noOperand, noOperand, noOperand, noOperand, noOperand⟩

theorem migrationCopyDone (slot : Nat) : Statement (.migrationCopyDone slot) := by
  intro h
  have h : ((slot < 4096 : Bool) = true) := h
  simp only [decide_eq_true_eq] at h
  exact ⟨noOperand, noOperand, noOperand, fun n e => Option.some.inj (show some slot = some n from e) ▸ (by omega), noOperand⟩

theorem sourceRelease (crew : Nat) (obj : Nat) : Statement (.sourceRelease crew obj) := by
  intro h
  have h : ((crew < 16 && obj < 2 ^ 20 : Bool) = true) := h
  simp only [Bool.and_eq_true, decide_eq_true_eq] at h
  exact ⟨noOperand, noOperand, fun n e => Option.some.inj (show some crew = some n from e) ▸ (by omega), noOperand, noOperand⟩

theorem tierTimerExpiry (slot : Nat) : Statement (.tierTimerExpiry slot) := by
  intro h
  have h : ((slot < 4096 : Bool) = true) := h
  simp only [decide_eq_true_eq] at h
  exact ⟨noOperand, noOperand, noOperand, fun n e => Option.some.inj (show some slot = some n from e) ▸ (by omega), noOperand⟩

theorem tierReply (slot : Nat) (write : Bool) (unit : Nat) (bad : Bool) : Statement (.tierReply slot write unit bad) := by
  intro h
  have h : ((slot < 4096 && unit < 2 ^ 32 : Bool) = true) := h
  simp only [Bool.and_eq_true, decide_eq_true_eq] at h
  exact ⟨noOperand, noOperand, noOperand, fun n e => Option.some.inj (show some slot = some n from e) ▸ (by omega), noOperand⟩

theorem channelOutOfService (tier : Nat) (ch : Nat) : Statement (.channelOutOfService tier ch) := by
  intro _
  exact ⟨noOperand, noOperand, noOperand, noOperand, noOperand⟩

theorem loomWearLevelling (worn : Nat) (least : Nat) (ch : Nat) (t : Time) : Statement (.loomWearLevelling worn least ch t) := by
  intro _
  exact ⟨noOperand, noOperand, noOperand, noOperand, noOperand⟩

theorem loomReadDisturbRefresh (block : Nat) (fresh : Nat) (reads : Nat) (corrected : Nat) (ch : Nat) (t : Time) : Statement (.loomReadDisturbRefresh block fresh reads corrected ch t) := by
  intro _
  exact ⟨noOperand, noOperand, noOperand, noOperand, noOperand⟩

theorem loomProgramFail (block : Nat) (spare : Nat) : Statement (.loomProgramFail block spare) := by
  intro _
  exact ⟨noOperand, noOperand, noOperand, noOperand, noOperand⟩

theorem tierClr (p : Port) : Statement (.tierClr p) := by
  intro _
  exact ⟨noOperand, noOperand, noOperand, noOperand, noOperand⟩

theorem meshHop (die : Nat) (router : Nat) (inp : Nat) (vc : Nat) (ecc : Nat) : Statement (.meshHop die router inp vc ecc) := by
  intro h
  have h : ((die < 9 && router ≤ 256 && inp < 5 && vc < 5 && ecc < 20 : Bool) = true) := h
  simp only [Bool.and_eq_true, decide_eq_true_eq] at h
  exact ⟨noOperand, fun n e => Option.some.inj (show some die = some n from e) ▸ (by omega), noOperand, noOperand, noOperand⟩

theorem ringHop (stop : Nat) (down : Bool) (vc : Nat) (dl : Bool) (ecc : Nat) : Statement (.ringHop stop down vc dl ecc) := by
  intro _
  exact ⟨noOperand, noOperand, noOperand, noOperand, noOperand⟩

theorem linkCreditReturn (queue : Nat) : Statement (.linkCreditReturn queue) := by
  intro _
  exact ⟨noOperand, noOperand, noOperand, noOperand, noOperand⟩

theorem qdata (pkt : Pkt) : Statement (.qdata pkt) := by
  intro _
  exact ⟨noOperand, noOperand, noOperand, noOperand, noOperand⟩

theorem qend (pkt : Pkt) : Statement (.qend pkt) := by
  intro _
  exact ⟨noOperand, noOperand, noOperand, noOperand, noOperand⟩

theorem rdReq (slot : Option Nat) (pkt : Pkt) : Statement (.rdReq slot pkt) := by
  intro _
  exact ⟨noOperand, noOperand, noOperand, noOperand, noOperand⟩

theorem rdResp (pkt : Pkt) : Statement (.rdResp pkt) := by
  intro _
  exact ⟨noOperand, noOperand, noOperand, noOperand, noOperand⟩

theorem wrReq (slot : Option Nat) (pkt : Pkt) : Statement (.wrReq slot pkt) := by
  intro _
  exact ⟨noOperand, noOperand, noOperand, noOperand, noOperand⟩

theorem wrAck (pkt : Pkt) : Statement (.wrAck pkt) := by
  intro _
  exact ⟨noOperand, noOperand, noOperand, noOperand, noOperand⟩

theorem regRd (pkt : Pkt) : Statement (.regRd pkt) := by
  intro _
  exact ⟨noOperand, noOperand, noOperand, noOperand, noOperand⟩

theorem regRdResp (pkt : Pkt) : Statement (.regRdResp pkt) := by
  intro _
  exact ⟨noOperand, noOperand, noOperand, noOperand, noOperand⟩

theorem regWr (pkt : Pkt) : Statement (.regWr pkt) := by
  intro _
  exact ⟨noOperand, noOperand, noOperand, noOperand, noOperand⟩

theorem regWrAck (pkt : Pkt) : Statement (.regWrAck pkt) := by
  intro _
  exact ⟨noOperand, noOperand, noOperand, noOperand, noOperand⟩

theorem sprintPacket (pkt : HPkt) : Statement (.sprintPacket pkt) := by
  intro _
  exact ⟨noOperand, noOperand, noOperand, noOperand, noOperand⟩

theorem collPacket (pkt : HPkt) : Statement (.collPacket pkt) := by
  intro _
  exact ⟨noOperand, noOperand, noOperand, noOperand, noOperand⟩

theorem xchgPacket (pkt : HPkt) : Statement (.xchgPacket pkt) := by
  intro _
  exact ⟨noOperand, noOperand, noOperand, noOperand, noOperand⟩

theorem faultNotice (pkt : Pkt) : Statement (.faultNotice pkt) := by
  intro _
  exact ⟨noOperand, noOperand, noOperand, noOperand, noOperand⟩

theorem errResp (pkt : Pkt) : Statement (.errResp pkt) := by
  intro _
  exact ⟨noOperand, noOperand, noOperand, noOperand, noOperand⟩

theorem netTimeout (die : Nat) (tag : Nat) : Statement (.netTimeout die tag) := by
  intro h
  have h : ((die < 9 && tag < 2 ^ 16 : Bool) = true) := h
  simp only [Bool.and_eq_true, decide_eq_true_eq] at h
  exact ⟨noOperand, fun n e => Option.some.inj (show some die = some n from e) ▸ (by omega), noOperand, noOperand, noOperand⟩

theorem tagQuarantineEnd (die : Nat) (tag : Nat) : Statement (.tagQuarantineEnd die tag) := by
  intro h
  have h : ((die < 9 && tag < 2 ^ 16 : Bool) = true) := h
  simp only [Bool.and_eq_true, decide_eq_true_eq] at h
  exact ⟨noOperand, fun n e => Option.some.inj (show some die = some n from e) ▸ (by omega), noOperand, noOperand, noOperand⟩

theorem domainWake (die : Nat) (shell : Nat) : Statement (.domainWake die shell) := by
  intro h
  have h : ((die < 8 && shell < 256 : Bool) = true) := h
  simp only [Bool.and_eq_true, decide_eq_true_eq] at h
  exact ⟨noOperand, fun n e => Option.some.inj (show some die = some n from e) ▸ (by omega), noOperand, noOperand, noOperand⟩

theorem domainSleep (die : Nat) (shell : Nat) : Statement (.domainSleep die shell) := by
  intro h
  have h : ((die < 8 && shell < 256 : Bool) = true) := h
  simp only [Bool.and_eq_true, decide_eq_true_eq] at h
  exact ⟨noOperand, fun n e => Option.some.inj (show some die = some n from e) ▸ (by omega), noOperand, noOperand, noOperand⟩

theorem netClr (p : Port) (die : Nat) : Statement (.netClr p die) := by
  intro h
  have h : ((die < 9 : Bool) = true) := h
  simp only [decide_eq_true_eq] at h
  exact ⟨noOperand, fun n e => Option.some.inj (show some die = some n from e) ▸ (by omega), noOperand, noOperand, noOperand⟩

theorem henacFrameSend (link : Nat) : Statement (.henacFrameSend link) := by
  intro h
  have h : ((link ≤ 16 : Bool) = true) := h
  simp only [decide_eq_true_eq] at h
  exact ⟨noOperand, noOperand, noOperand, noOperand, fun n e => Option.some.inj (show some link = some n from e) ▸ (by omega)⟩

theorem henacFrameReceive (link : Nat) (lanes : List (List Byte)) (errs : List Nat) : Statement (.henacFrameReceive link lanes errs) := by
  intro h
  have h : ((link ≤ 16 : Bool) = true) := h
  simp only [decide_eq_true_eq] at h
  exact ⟨noOperand, noOperand, noOperand, noOperand, fun n e => Option.some.inj (show some link = some n from e) ▸ (by omega)⟩

theorem linkEnable (p : Port) (link : Nat) : Statement (.linkEnable p link) := by
  intro h
  have h : ((link ≤ 16 : Bool) = true) := h
  simp only [decide_eq_true_eq] at h
  exact ⟨noOperand, noOperand, noOperand, noOperand, fun n e => Option.some.inj (show some link = some n from e) ▸ (by omega)⟩

theorem retrain (p : Port) (link : Nat) : Statement (.retrain p link) := by
  intro h
  have h : ((link ≤ 16 : Bool) = true) := h
  simp only [decide_eq_true_eq] at h
  exact ⟨noOperand, noOperand, noOperand, noOperand, fun n e => Option.some.inj (show some link = some n from e) ▸ (by omega)⟩

theorem receiverAdaptationDone (link : Nat) (laneBad : Bool) (farRefuse : Nat) : Statement (.receiverAdaptationDone link laneBad farRefuse) := by
  intro h
  have h : ((link ≤ 16 && farRefuse < 8 : Bool) = true) := h
  simp only [Bool.and_eq_true, decide_eq_true_eq] at h
  exact ⟨noOperand, noOperand, noOperand, noOperand, fun n e => Option.some.inj (show some link = some n from e) ▸ (by omega)⟩

theorem frameLock (link : Nat) : Statement (.frameLock link) := by
  intro h
  have h : ((link ≤ 16 : Bool) = true) := h
  simp only [decide_eq_true_eq] at h
  exact ⟨noOperand, noOperand, noOperand, noOperand, fun n e => Option.some.inj (show some link = some n from e) ▸ (by omega)⟩

theorem identityExchange (link : Nat) (far : Identity) (farRefuse : Nat) : Statement (.identityExchange link far farRefuse) := by
  intro h
  have h : ((link ≤ 16 && far.wf && farRefuse < 8 : Bool) = true) := h
  simp only [Bool.and_eq_true, decide_eq_true_eq] at h
  exact ⟨noOperand, noOperand, noOperand, noOperand, fun n e => Option.some.inj (show some link = some n from e) ▸ (by omega)⟩

theorem recalibration (link : Nat) (t : Time) : Statement (.recalibration link t) := by
  intro h
  have h : ((link ≤ 16 : Bool) = true) := h
  simp only [decide_eq_true_eq] at h
  exact ⟨noOperand, noOperand, noOperand, noOperand, fun n e => Option.some.inj (show some link = some n from e) ▸ (by omega)⟩

theorem recalibrationEnd (link : Nat) (far : Bool) : Statement (.recalibrationEnd link far) := by
  intro h
  have h : ((link ≤ 16 : Bool) = true) := h
  simp only [decide_eq_true_eq] at h
  exact ⟨noOperand, noOperand, noOperand, noOperand, fun n e => Option.some.inj (show some link = some n from e) ▸ (by omega)⟩

theorem linkClr (p : Port) (link : Nat) : Statement (.linkClr p link) := by
  intro h
  have h : ((link ≤ 16 : Bool) = true) := h
  simp only [decide_eq_true_eq] at h
  exact ⟨noOperand, noOperand, noOperand, noOperand, fun n e => Option.some.inj (show some link = some n from e) ▸ (by omega)⟩

theorem groupWrite (slot : Nat) : Statement (.groupWrite slot) := by
  intro h
  have h : ((slot < 4096 : Bool) = true) := h
  simp only [decide_eq_true_eq] at h
  exact ⟨noOperand, noOperand, noOperand, fun n e => Option.some.inj (show some slot = some n from e) ▸ (by omega), noOperand⟩

theorem sumRoot (slot : Nat) : Statement (.sumRoot slot) := by
  intro h
  have h : ((slot < 4096 : Bool) = true) := h
  simp only [decide_eq_true_eq] at h
  exact ⟨noOperand, noOperand, noOperand, fun n e => Option.some.inj (show some slot = some n from e) ▸ (by omega), noOperand⟩

theorem sumAll (slot : Nat) : Statement (.sumAll slot) := by
  intro h
  have h : ((slot < 4096 : Bool) = true) := h
  simp only [decide_eq_true_eq] at h
  exact ⟨noOperand, noOperand, noOperand, fun n e => Option.some.inj (show some slot = some n from e) ▸ (by omega), noOperand⟩

theorem bcast (slot : Nat) : Statement (.bcast slot) := by
  intro h
  have h : ((slot < 4096 : Bool) = true) := h
  simp only [decide_eq_true_eq] at h
  exact ⟨noOperand, noOperand, noOperand, fun n e => Option.some.inj (show some slot = some n from e) ▸ (by omega), noOperand⟩

theorem barrier (slot : Nat) : Statement (.barrier slot) := by
  intro h
  have h : ((slot < 4096 : Bool) = true) := h
  simp only [decide_eq_true_eq] at h
  exact ⟨noOperand, noOperand, noOperand, fun n e => Option.some.inj (show some slot = some n from e) ▸ (by omega), noOperand⟩

theorem xchgEq (slot : Nat) : Statement (.xchgEq slot) := by
  intro h
  have h : ((slot < 4096 : Bool) = true) := h
  simp only [decide_eq_true_eq] at h
  exact ⟨noOperand, noOperand, noOperand, fun n e => Option.some.inj (show some slot = some n from e) ▸ (by omega), noOperand⟩

theorem xchgCounts (slot : Nat) : Statement (.xchgCounts slot) := by
  intro h
  have h : ((slot < 4096 : Bool) = true) := h
  simp only [decide_eq_true_eq] at h
  exact ⟨noOperand, noOperand, noOperand, fun n e => Option.some.inj (show some slot = some n from e) ▸ (by omega), noOperand⟩

theorem xchgPad (slot : Nat) : Statement (.xchgPad slot) := by
  intro h
  have h : ((slot < 4096 : Bool) = true) := h
  simp only [decide_eq_true_eq] at h
  exact ⟨noOperand, noOperand, noOperand, fun n e => Option.some.inj (show some slot = some n from e) ▸ (by omega), noOperand⟩

theorem rotate (slot : Nat) : Statement (.rotate slot) := by
  intro h
  have h : ((slot < 4096 : Bool) = true) := h
  simp only [decide_eq_true_eq] at h
  exact ⟨noOperand, noOperand, noOperand, fun n e => Option.some.inj (show some slot = some n from e) ▸ (by omega), noOperand⟩

theorem treeOpStart (slot : Nat) : Statement (.treeOpStart slot) := by
  intro h
  have h : ((slot < 4096 : Bool) = true) := h
  simp only [decide_eq_true_eq] at h
  exact ⟨noOperand, noOperand, noOperand, fun n e => Option.some.inj (show some slot = some n from e) ▸ (by omega), noOperand⟩

theorem collAbort (p : HPkt) : Statement (.collAbort p) := by
  intro _
  exact ⟨noOperand, noOperand, noOperand, noOperand, noOperand⟩

theorem collTimerExpiry (slot : Nat) : Statement (.collTimerExpiry slot) := by
  intro h
  have h : ((slot < 4096 : Bool) = true) := h
  simp only [decide_eq_true_eq] at h
  exact ⟨noOperand, noOperand, noOperand, fun n e => Option.some.inj (show some slot = some n from e) ▸ (by omega), noOperand⟩

theorem collClr (p : Port) : Statement (.collClr p) := by
  intro _
  exact ⟨noOperand, noOperand, noOperand, noOperand, noOperand⟩

theorem sqDoorbell (crew : Nat) (sq : Nat) (val : Nat) : Statement (.sqDoorbell crew sq val) := by
  intro h
  have h : ((crew < 16 && sq < 8 && val < 2 ^ 32 : Bool) = true) := h
  simp only [Bool.and_eq_true, decide_eq_true_eq] at h
  exact ⟨noOperand, noOperand, fun n e => Option.some.inj (show some crew = some n from e) ▸ (by omega), noOperand, noOperand⟩

theorem cqDoorbell (crew : Nat) (cq : Nat) (val : Nat) : Statement (.cqDoorbell crew cq val) := by
  intro h
  have h : ((crew < 16 && cq < 8 && val < 2 ^ 32 : Bool) = true) := h
  simp only [Bool.and_eq_true, decide_eq_true_eq] at h
  exact ⟨noOperand, noOperand, fun n e => Option.some.inj (show some crew = some n from e) ▸ (by omega), noOperand, noOperand⟩

theorem commandFetch (entry : List Byte) (ecc : Bool) : Statement (.commandFetch entry ecc) := by
  intro _
  exact ⟨noOperand, noOperand, noOperand, noOperand, noOperand⟩

theorem waitMet (slot : Nat) : Statement (.waitMet slot) := by
  intro h
  have h : ((slot < 4096 : Bool) = true) := h
  simp only [decide_eq_true_eq] at h
  exact ⟨noOperand, noOperand, noOperand, fun n e => Option.some.inj (show some slot = some n from e) ▸ (by omega), noOperand⟩

theorem completionWrite (slot : Nat) : Statement (.completionWrite slot) := by
  intro h
  have h : ((slot < 4096 : Bool) = true) := h
  simp only [decide_eq_true_eq] at h
  exact ⟨noOperand, noOperand, noOperand, fun n e => Option.some.inj (show some slot = some n from e) ▸ (by omega), noOperand⟩

theorem progStart (slot : Nat) : Statement (.progStart slot) := by
  intro h
  have h : ((slot < 4096 : Bool) = true) := h
  simp only [decide_eq_true_eq] at h
  exact ⟨noOperand, noOperand, noOperand, fun n e => Option.some.inj (show some slot = some n from e) ▸ (by omega), noOperand⟩

theorem xfer (slot : Nat) : Statement (.xfer slot) := by
  intro h
  have h : ((slot < 4096 : Bool) = true) := h
  simp only [decide_eq_true_eq] at h
  exact ⟨noOperand, noOperand, noOperand, fun n e => Option.some.inj (show some slot = some n from e) ▸ (by omega), noOperand⟩

theorem attn (slot : Nat) : Statement (.attn slot) := by
  intro h
  have h : ((slot < 4096 : Bool) = true) := h
  simp only [decide_eq_true_eq] at h
  exact ⟨noOperand, noOperand, noOperand, fun n e => Option.some.inj (show some slot = some n from e) ▸ (by omega), noOperand⟩

theorem alloc (slot : Nat) : Statement (.alloc slot) := by
  intro h
  have h : ((slot < 4096 : Bool) = true) := h
  simp only [decide_eq_true_eq] at h
  exact ⟨noOperand, noOperand, noOperand, fun n e => Option.some.inj (show some slot = some n from e) ▸ (by omega), noOperand⟩

theorem free (slot : Nat) : Statement (.free slot) := by
  intro h
  have h : ((slot < 4096 : Bool) = true) := h
  simp only [decide_eq_true_eq] at h
  exact ⟨noOperand, noOperand, noOperand, fun n e => Option.some.inj (show some slot = some n from e) ▸ (by omega), noOperand⟩

theorem migrate (slot : Nat) : Statement (.migrate slot) := by
  intro h
  have h : ((slot < 4096 : Bool) = true) := h
  simp only [decide_eq_true_eq] at h
  exact ⟨noOperand, noOperand, noOperand, fun n e => Option.some.inj (show some slot = some n from e) ▸ (by omega), noOperand⟩

theorem tierCopy (slot : Nat) : Statement (.tierCopy slot) := by
  intro h
  have h : ((slot < 4096 : Bool) = true) := h
  simp only [decide_eq_true_eq] at h
  exact ⟨noOperand, noOperand, noOperand, fun n e => Option.some.inj (show some slot = some n from e) ▸ (by omega), noOperand⟩

theorem sprintWrite (slot : Nat) : Statement (.sprintWrite slot) := by
  intro h
  have h : ((slot < 4096 : Bool) = true) := h
  simp only [decide_eq_true_eq] at h
  exact ⟨noOperand, noOperand, noOperand, fun n e => Option.some.inj (show some slot = some n from e) ▸ (by omega), noOperand⟩

theorem sprintReady (slot : Nat) : Statement (.sprintReady slot) := by
  intro h
  have h : ((slot < 4096 : Bool) = true) := h
  simp only [decide_eq_true_eq] at h
  exact ⟨noOperand, noOperand, noOperand, fun n e => Option.some.inj (show some slot = some n from e) ▸ (by omega), noOperand⟩

theorem boltInval (slot : Nat) : Statement (.boltInval slot) := by
  intro h
  have h : ((slot < 4096 : Bool) = true) := h
  simp only [decide_eq_true_eq] at h
  exact ⟨noOperand, noOperand, noOperand, fun n e => Option.some.inj (show some slot = some n from e) ▸ (by omega), noOperand⟩

theorem hostCopy (slot : Nat) (data : List Byte) : Statement (.hostCopy slot data) := by
  intro h
  have h : ((slot < 4096 : Bool) = true) := h
  simp only [decide_eq_true_eq] at h
  exact ⟨noOperand, noOperand, noOperand, fun n e => Option.some.inj (show some slot = some n from e) ▸ (by omega), noOperand⟩

theorem readoutLoad (slot : Nat) : Statement (.readoutLoad slot) := by
  intro h
  have h : ((slot < 4096 : Bool) = true) := h
  simp only [decide_eq_true_eq] at h
  exact ⟨noOperand, noOperand, noOperand, fun n e => Option.some.inj (show some slot = some n from e) ▸ (by omega), noOperand⟩

theorem streamOpen (slot : Nat) : Statement (.streamOpen slot) := by
  intro h
  have h : ((slot < 4096 : Bool) = true) := h
  simp only [decide_eq_true_eq] at h
  exact ⟨noOperand, noOperand, noOperand, fun n e => Option.some.inj (show some slot = some n from e) ▸ (by omega), noOperand⟩

theorem streamAdv (slot : Nat) : Statement (.streamAdv slot) := by
  intro h
  have h : ((slot < 4096 : Bool) = true) := h
  simp only [decide_eq_true_eq] at h
  exact ⟨noOperand, noOperand, noOperand, fun n e => Option.some.inj (show some slot = some n from e) ▸ (by omega), noOperand⟩

theorem streamClose (slot : Nat) : Statement (.streamClose slot) := by
  intro h
  have h : ((slot < 4096 : Bool) = true) := h
  simp only [decide_eq_true_eq] at h
  exact ⟨noOperand, noOperand, noOperand, fun n e => Option.some.inj (show some slot = some n from e) ▸ (by omega), noOperand⟩

theorem ctrSet (slot : Nat) : Statement (.ctrSet slot) := by
  intro h
  have h : ((slot < 4096 : Bool) = true) := h
  simp only [decide_eq_true_eq] at h
  exact ⟨noOperand, noOperand, noOperand, fun n e => Option.some.inj (show some slot = some n from e) ▸ (by omega), noOperand⟩

theorem ctrAdd (slot : Nat) : Statement (.ctrAdd slot) := by
  intro h
  have h : ((slot < 4096 : Bool) = true) := h
  simp only [decide_eq_true_eq] at h
  exact ⟨noOperand, noOperand, noOperand, fun n e => Option.some.inj (show some slot = some n from e) ▸ (by omega), noOperand⟩

theorem ctrRead (slot : Nat) : Statement (.ctrRead slot) := by
  intro h
  have h : ((slot < 4096 : Bool) = true) := h
  simp only [decide_eq_true_eq] at h
  exact ⟨noOperand, noOperand, noOperand, fun n e => Option.some.inj (show some slot = some n from e) ▸ (by omega), noOperand⟩

theorem nopCommand (slot : Nat) : Statement (.nopCommand slot) := by
  intro h
  have h : ((slot < 4096 : Bool) = true) := h
  simp only [decide_eq_true_eq] at h
  exact ⟨noOperand, noOperand, noOperand, fun n e => Option.some.inj (show some slot = some n from e) ▸ (by omega), noOperand⟩

theorem tableLoad (slot : Nat) : Statement (.tableLoad slot) := by
  intro h
  have h : ((slot < 4096 : Bool) = true) := h
  simp only [decide_eq_true_eq] at h
  exact ⟨noOperand, noOperand, noOperand, fun n e => Option.some.inj (show some slot = some n from e) ▸ (by omega), noOperand⟩

theorem hostClr (p : Port) : Statement (.hostClr p) := by
  intro _
  exact ⟨noOperand, noOperand, noOperand, noOperand, noOperand⟩

theorem perst (level : Bool) : Statement (.perst level) := by
  intro _
  exact ⟨noOperand, noOperand, noOperand, noOperand, noOperand⟩

theorem functionLevelReset (crew : Nat) : Statement (.functionLevelReset crew) := by
  intro h
  have h : ((crew < 16 : Bool) = true) := h
  simp only [decide_eq_true_eq] at h
  exact ⟨noOperand, noOperand, fun n e => Option.some.inj (show some crew = some n from e) ▸ (by omega), noOperand, noOperand⟩

theorem crewReset (p : Port) (mask : Nat) : Statement (.crewReset p mask) := by
  intro _
  exact ⟨noOperand, noOperand, noOperand, noOperand, noOperand⟩

theorem crewResetFinish (crew : Nat) : Statement (.crewResetFinish crew) := by
  intro h
  have h : ((crew < 16 : Bool) = true) := h
  simp only [decide_eq_true_eq] at h
  exact ⟨noOperand, noOperand, fun n e => Option.some.inj (show some crew = some n from e) ▸ (by omega), noOperand, noOperand⟩

theorem crewResetForce (crew : Nat) : Statement (.crewResetForce crew) := by
  intro h
  have h : ((crew < 16 : Bool) = true) := h
  simp only [decide_eq_true_eq] at h
  exact ⟨noOperand, noOperand, fun n e => Option.some.inj (show some crew = some n from e) ▸ (by omega), noOperand, noOperand⟩

theorem scrub (p : Port) (mask : Nat) : Statement (.scrub p mask) := by
  intro _
  exact ⟨noOperand, noOperand, noOperand, noOperand, noOperand⟩

theorem registerWrite (p : Port) (off : Nat) (val : Word) : Statement (.registerWrite p off val) := by
  intro _
  exact ⟨noOperand, noOperand, noOperand, noOperand, noOperand⟩

theorem unmappedAccess (p : Port) (write : Bool) (off : Nat) : Statement (.unmappedAccess p write off) := by
  intro _
  exact ⟨noOperand, noOperand, noOperand, noOperand, noOperand⟩

theorem loLatchRead (p : Port) (off : Nat) : Statement (.loLatchRead p off) := by
  intro _
  exact ⟨noOperand, noOperand, noOperand, noOperand, noOperand⟩

theorem xactBegin (p : Port) (tag : Nat) : Statement (.xactBegin p tag) := by
  intro _
  exact ⟨noOperand, noOperand, noOperand, noOperand, noOperand⟩

theorem xactCommit (p : Port) (tag : Nat) : Statement (.xactCommit p tag) := by
  intro _
  exact ⟨noOperand, noOperand, noOperand, noOperand, noOperand⟩

theorem xactAbort (p : Port) (tag : Nat) : Statement (.xactAbort p tag) := by
  intro _
  exact ⟨noOperand, noOperand, noOperand, noOperand, noOperand⟩

theorem xactIdleExpiry : Statement .xactIdleExpiry := by
  intro _
  exact ⟨noOperand, noOperand, noOperand, noOperand, noOperand⟩

theorem mgmtWrite (frame : List Byte) : Statement (.mgmtWrite frame) := by
  intro _
  exact ⟨noOperand, noOperand, noOperand, noOperand, noOperand⟩

theorem mgmtTransactionalWrite (frame : List Byte) : Statement (.mgmtTransactionalWrite frame) := by
  intro _
  exact ⟨noOperand, noOperand, noOperand, noOperand, noOperand⟩

theorem mgmtSetReadPointer (frame : List Byte) : Statement (.mgmtSetReadPointer frame) := by
  intro _
  exact ⟨noOperand, noOperand, noOperand, noOperand, noOperand⟩

theorem mgmtRead (addr : Byte) : Statement (.mgmtRead addr) := by
  intro _
  exact ⟨noOperand, noOperand, noOperand, noOperand, noOperand⟩

theorem mgmtFrameDiscard (frame : List Byte) (cut : Bool) : Statement (.mgmtFrameDiscard frame cut) := by
  intro _
  exact ⟨noOperand, noOperand, noOperand, noOperand, noOperand⟩

theorem mgmtReadTimeout (addr : Byte) : Statement (.mgmtReadTimeout addr) := by
  intro _
  exact ⟨noOperand, noOperand, noOperand, noOperand, noOperand⟩

theorem mgmtBusTimeout : Statement .mgmtBusTimeout := by
  intro _
  exact ⟨noOperand, noOperand, noOperand, noOperand, noOperand⟩

theorem mgmtClr (p : Port) : Statement (.mgmtClr p) := by
  intro _
  exact ⟨noOperand, noOperand, noOperand, noOperand, noOperand⟩

theorem warmReset (p : Port) (val : Word) : Statement (.warmReset p val) := by
  intro _
  exact ⟨noOperand, noOperand, noOperand, noOperand, noOperand⟩

theorem featureLock (p : Port) : Statement (.featureLock p) := by
  intro _
  exact ⟨noOperand, noOperand, noOperand, noOperand, noOperand⟩

theorem heatClr (p : Port) : Statement (.heatClr p) := by
  intro _
  exact ⟨noOperand, noOperand, noOperand, noOperand, noOperand⟩

theorem powerClr (p : Port) : Statement (.powerClr p) := by
  intro _
  exact ⟨noOperand, noOperand, noOperand, noOperand, noOperand⟩

theorem errorClr (p : Port) : Statement (.errorClr p) := by
  intro _
  exact ⟨noOperand, noOperand, noOperand, noOperand, noOperand⟩

theorem sprintClrCounters (p : Port) : Statement (.sprintClrCounters p) := by
  intro _
  exact ⟨noOperand, noOperand, noOperand, noOperand, noOperand⟩

theorem eportClrCounters (p : Port) (port : Nat) : Statement (.eportClrCounters p port) := by
  intro h
  have h : ((port < 2 : Bool) = true) := h
  simp only [decide_eq_true_eq] at h
  exact ⟨fun n e => Option.some.inj (show some port = some n from e) ▸ (by omega), noOperand, noOperand, noOperand, noOperand⟩

theorem resetNAssert : Statement .resetNAssert := by
  intro _
  exact ⟨noOperand, noOperand, noOperand, noOperand, noOperand⟩

theorem resetRelease (straps : Nat) : Statement (.resetRelease straps) := by
  intro _
  exact ⟨noOperand, noOperand, noOperand, noOperand, noOperand⟩

theorem railsOkFall : Statement .railsOkFall := by
  intro _
  exact ⟨noOperand, noOperand, noOperand, noOperand, noOperand⟩

theorem vddFabLow : Statement .vddFabLow := by
  intro _
  exact ⟨noOperand, noOperand, noOperand, noOperand, noOperand⟩

theorem sealVddLoss (t : Time) : Statement (.sealVddLoss t) := by
  intro _
  exact ⟨noOperand, noOperand, noOperand, noOperand, noOperand⟩

theorem sagWarning (dies : Nat) : Statement (.sagWarning dies) := by
  intro _
  exact ⟨noOperand, noOperand, noOperand, noOperand, noOperand⟩

theorem sagWarningRelease : Statement .sagWarningRelease := by
  intro _
  exact ⟨noOperand, noOperand, noOperand, noOperand, noOperand⟩

theorem sagReset (dies : Nat) : Statement (.sagReset dies) := by
  intro _
  exact ⟨noOperand, noOperand, noOperand, noOperand, noOperand⟩

theorem sagResetRelease : Statement .sagResetRelease := by
  intro _
  exact ⟨noOperand, noOperand, noOperand, noOperand, noOperand⟩

theorem thermalTrip (t : Time) : Statement (.thermalTrip t) := by
  intro _
  exact ⟨noOperand, noOperand, noOperand, noOperand, noOperand⟩

theorem telemetrySampling (temps : List Nat) (t : Time) : Statement (.telemetrySampling temps t) := by
  intro _
  exact ⟨noOperand, noOperand, noOperand, noOperand, noOperand⟩

theorem clockLoss (bit : Nat) : Statement (.clockLoss bit) := by
  intro _
  exact ⟨noOperand, noOperand, noOperand, noOperand, noOperand⟩

theorem referenceReturn : Statement .referenceReturn := by
  intro _
  exact ⟨noOperand, noOperand, noOperand, noOperand, noOperand⟩

theorem diePowerUpDone (die : Nat) : Statement (.diePowerUpDone die) := by
  intro h
  have h : ((die < 8 : Bool) = true) := h
  simp only [decide_eq_true_eq] at h
  exact ⟨noOperand, fun n e => Option.some.inj (show some die = some n from e) ▸ (by omega), noOperand, noOperand, noOperand⟩

theorem firmwareBoot (slotA : List Byte) (slotB : List Byte) : Statement (.firmwareBoot slotA slotB) := by
  intro _
  exact ⟨noOperand, noOperand, noOperand, noOperand, noOperand⟩

theorem memoryTrainingDone (hbmBad : Nat) (ddrBad : Nat) (onfiBad : Nat) (ddrUnits : Nat) (rawUnits : Nat) (rawBlocks : Nat) (spares : Nat) (makerBad : Nat) : Statement (.memoryTrainingDone hbmBad ddrBad onfiBad ddrUnits rawUnits rawBlocks spares makerBad) := by
  intro _
  exact ⟨noOperand, noOperand, noOperand, noOperand, noOperand⟩

theorem computeReady : Statement .computeReady := by
  intro _
  exact ⟨noOperand, noOperand, noOperand, noOperand, noOperand⟩

theorem twinStageTimeout : Statement .twinStageTimeout := by
  intro _
  exact ⟨noOperand, noOperand, noOperand, noOperand, noOperand⟩

theorem digest (msg : DigestMsg) (rx : Time) : Statement (.digest msg rx) := by
  intro _
  exact ⟨noOperand, noOperand, noOperand, noOperand, noOperand⟩

theorem digestMissing : Statement .digestMissing := by
  intro _
  exact ⟨noOperand, noOperand, noOperand, noOperand, noOperand⟩

theorem cbeDigest (id : TokenId) (emit : Bool) (entry : DWord) (t : Time) : Statement (.cbeDigest id emit entry t) := by
  intro _
  exact ⟨noOperand, noOperand, noOperand, noOperand, noOperand⟩

theorem cbeLate (id : TokenId) (t : Time) : Statement (.cbeLate id t) := by
  intro _
  exact ⟨noOperand, noOperand, noOperand, noOperand, noOperand⟩

theorem cbeTimeout (tag : Nat) (t : Time) : Statement (.cbeTimeout tag t) := by
  intro _
  exact ⟨noOperand, noOperand, noOperand, noOperand, noOperand⟩

theorem swap (exchanged : List Nat) : Statement (.swap exchanged) := by
  intro _
  exact ⟨noOperand, noOperand, noOperand, noOperand, noOperand⟩

theorem control (c : Control) (stern : Bool) (slices : Nat) : Statement (.control c stern slices) := by
  intro _
  exact ⟨noOperand, noOperand, noOperand, noOperand, noOperand⟩

theorem resyncUnit (area : Nat) (unit : Nat) (group : Nat) (layer : Nat) (bolt : Nat) (kvhead : Nat) (slice : List Byte) : Statement (.resyncUnit area unit group layer bolt kvhead slice) := by
  intro _
  exact ⟨noOperand, noOperand, noOperand, noOperand, noOperand⟩

theorem detach (p : Port) : Statement (.detach p) := by
  intro _
  exact ⟨noOperand, noOperand, noOperand, noOperand, noOperand⟩

theorem reattach (p : Port) : Statement (.reattach p) := by
  intro _
  exact ⟨noOperand, noOperand, noOperand, noOperand, noOperand⟩

theorem unfence (p : Port) : Statement (.unfence p) := by
  intro _
  exact ⟨noOperand, noOperand, noOperand, noOperand, noOperand⟩

theorem twinClr (p : Port) : Statement (.twinClr p) := by
  intro _
  exact ⟨noOperand, noOperand, noOperand, noOperand, noOperand⟩

theorem peerTimeRead (reads : List (Nat × Nat × Nat × Nat)) : Statement (.peerTimeRead reads) := by
  intro _
  exact ⟨noOperand, noOperand, noOperand, noOperand, noOperand⟩

theorem tapMessage (t : Time) : Statement (.tapMessage t) := by
  intro _
  exact ⟨noOperand, noOperand, noOperand, noOperand, noOperand⟩

theorem aggregateReport (t : Time) : Statement (.aggregateReport t) := by
  intro _
  exact ⟨noOperand, noOperand, noOperand, noOperand, noOperand⟩

theorem recordFormation (t : Time) : Statement (.recordFormation t) := by
  intro _
  exact ⟨noOperand, noOperand, noOperand, noOperand, noOperand⟩

theorem blockAgeExpiry (t : Time) : Statement (.blockAgeExpiry t) := by
  intro _
  exact ⟨noOperand, noOperand, noOperand, noOperand, noOperand⟩

theorem blockSigned : Statement .blockSigned := by
  intro _
  exact ⟨noOperand, noOperand, noOperand, noOperand, noOperand⟩

theorem ledgerReplay (p : Port) (val : Word) : Statement (.ledgerReplay p val) := by
  intro _
  exact ⟨noOperand, noOperand, noOperand, noOperand, noOperand⟩

theorem summaryRecord (t : Time) : Statement (.summaryRecord t) := by
  intro _
  exact ⟨noOperand, noOperand, noOperand, noOperand, noOperand⟩

theorem sealMeasurement (t : Time) (offset : Int) : Statement (.sealMeasurement t offset) := by
  intro _
  exact ⟨noOperand, noOperand, noOperand, noOperand, noOperand⟩

theorem referenceTimeout (t : Time) : Statement (.referenceTimeout t) := by
  intro _
  exact ⟨noOperand, noOperand, noOperand, noOperand, noOperand⟩

theorem timeCopyValid (t : Time) : Statement (.timeCopyValid t) := by
  intro _
  exact ⟨noOperand, noOperand, noOperand, noOperand, noOperand⟩

theorem sealStatus (q : Svc) : Statement (.sealStatus q) := by
  intro _
  exact ⟨noOperand, noOperand, noOperand, noOperand, noOperand⟩

theorem sealReadBlock (q : Svc) (number : Nat) : Statement (.sealReadBlock q number) := by
  intro _
  exact ⟨noOperand, noOperand, noOperand, noOperand, noOperand⟩

theorem sealReadKey (q : Svc) : Statement (.sealReadKey q) := by
  intro _
  exact ⟨noOperand, noOperand, noOperand, noOperand, noOperand⟩

theorem sealWriteConfig (q : Svc) (image : List Byte) : Statement (.sealWriteConfig q image) := by
  intro _
  exact ⟨noOperand, noOperand, noOperand, noOperand, noOperand⟩

theorem sealFwChunk (q : Svc) (offset : Nat) (body : List Byte) : Statement (.sealFwChunk q offset body) := by
  intro _
  exact ⟨noOperand, noOperand, noOperand, noOperand, noOperand⟩

theorem sealFwCommit (q : Svc) : Statement (.sealFwCommit q) := by
  intro _
  exact ⟨noOperand, noOperand, noOperand, noOperand, noOperand⟩

theorem sealTod (q : Svc) (second : Nat) : Statement (.sealTod q second) := by
  intro _
  exact ⟨noOperand, noOperand, noOperand, noOperand, noOperand⟩

theorem sealReset (t : Time) : Statement (.sealReset t) := by
  intro _
  exact ⟨noOperand, noOperand, noOperand, noOperand, noOperand⟩

theorem sealRestart (t : Time) (kept : Bool) : Statement (.sealRestart t kept) := by
  intro _
  exact ⟨noOperand, noOperand, noOperand, noOperand, noOperand⟩

theorem slackWindowOpen (t : Time) : Statement (.slackWindowOpen t) := by
  intro _
  exact ⟨noOperand, noOperand, noOperand, noOperand, noOperand⟩

theorem activityOverdue (activity : Nat) (unit : Nat) (t : Time) : Statement (.activityOverdue activity unit t) := by
  intro _
  exact ⟨noOperand, noOperand, noOperand, noOperand, noOperand⟩

theorem t1EccScrub (die : Nat) (bad : Option Nat) (t : Time) : Statement (.t1EccScrub die bad t) := by
  intro h
  have h : ((die < 8 : Bool) = true) := h
  simp only [decide_eq_true_eq] at h
  exact ⟨noOperand, fun n e => Option.some.inj (show some die = some n from e) ▸ (by omega), noOperand, noOperand, noOperand⟩

theorem t2EccScrub (site : Nat) (bad : Option Nat) (t : Time) : Statement (.t2EccScrub site bad t) := by
  intro _
  exact ⟨noOperand, noOperand, noOperand, noOperand, noOperand⟩

theorem thermalCalibration (die : Nat) (t : Time) : Statement (.thermalCalibration die t) := by
  intro h
  have h : ((die < 9 : Bool) = true) := h
  simp only [decide_eq_true_eq] at h
  exact ⟨noOperand, fun n e => Option.some.inj (show some die = some n from e) ▸ (by omega), noOperand, noOperand, noOperand⟩

theorem eportLinkUp (port : Nat) : Statement (.eportLinkUp port) := by
  intro h
  have h : ((port < 2 : Bool) = true) := h
  simp only [decide_eq_true_eq] at h
  exact ⟨fun n e => Option.some.inj (show some port = some n from e) ▸ (by omega), noOperand, noOperand, noOperand, noOperand⟩

theorem hostLinkUp (width : Nat) (speed : Nat) : Statement (.hostLinkUp width speed) := by
  intro _
  exact ⟨noOperand, noOperand, noOperand, noOperand, noOperand⟩

theorem oarPllLockTimeout (die : Nat) : Statement (.oarPllLockTimeout die) := by
  intro h
  have h : ((die < 8 : Bool) = true) := h
  simp only [decide_eq_true_eq] at h
  exact ⟨noOperand, fun n e => Option.some.inj (show some die = some n from e) ▸ (by omega), noOperand, noOperand, noOperand⟩

theorem sealPpsOutFall : Statement .sealPpsOutFall := by
  intro _
  exact ⟨noOperand, noOperand, noOperand, noOperand, noOperand⟩

end Sys2Proof.Laws.WellFormed
end

