-- ==== Sys2Proof/Safety.lean ====
section
/-!
DEFINITION. What the statements are said in: the seven byte memories of the device and their canonical
form, what a command may leave unchanged (frames), and the commands that can reset the whole device.
-/
namespace Sys2Proof.Machine
open Sys2Proof

/-- Every byte of one memory reads as in another. -/
def SameBytes (m m' : Memory) : Prop := ∀ a, rdB m' a = rdB m a

/-- Every byte of the readout slots (R24, R37) reads as before. -/
def SameSprintBytes (s t : State) : Prop := SameBytes s.sprint.readout t.sprint.readout

/-- Every byte of both copies of the parser tables (R57) reads as before. -/
def SameTableBytes (s t : State) : Prop :=
  SameBytes s.ports.live t.ports.live ∧ SameBytes s.ports.shadow t.ports.shadow

/-- Every byte of T0 (R78), the sprint areas (R197) among them, of the objects of T1 to T4 (R205) and of
host memory as the device wrote it (R276) reads as before. -/
def SameDataBytes (s t : State) : Prop :=
  SameBytes s.grid.scratch t.grid.scratch ∧ SameBytes s.tier.data t.tier.data
    ∧ SameBytes s.host.mem t.host.mem

/-- Every byte of every memory of the device reads as before. -/
def SameMemories (s t : State) : Prop :=
  SameSprintBytes s t ∧ SameTableBytes s t ∧ SameDataBytes s t
    ∧ SameBytes s.ud.staging t.ud.staging

/-- Every memory of the device has its canonical form: addresses strictly rising, no byte 0 listed. -/
def MemoriesCanonical (s : State) : Prop :=
  memWf s.sprint.readout = true ∧ memWf s.ports.live = true
    ∧ memWf s.ports.shadow = true ∧ memWf s.grid.scratch = true ∧ memWf s.tier.data = true
    ∧ memWf s.host.mem = true ∧ memWf s.ud.staging = true

/-- The compute side of the device is as before: grid, tiles, attention, tiers and the host port. -/
def SameBulk (s t : State) : Prop :=
  t.grid = s.grid ∧ t.tile = s.tile ∧ t.att = s.att ∧ t.tier = s.tier

/-- The device-wide state is as before: heat, power and start-up, the seal, background activities. -/
def SameCore (s t : State) : Prop :=
  t.heat = s.heat ∧ t.power = s.power ∧ t.ud = s.ud ∧ t.back = s.back

/-- Only registers differ, and only those at the BAR0 offsets listed. -/
def OnlyRegs (s t : State) (offs : List Nat) : Prop :=
  t = { s with regs := t.regs } ∧ ∀ off, off ∉ offs → regGet t.regs off = regGet s.regs off

/-- Some registers read 0, and nothing else differs. -/
def RegsCleared (s t : State) (offs : List Nat) : Prop :=
  OnlyRegs s t offs ∧ ∀ off ∈ offs, regGet t.regs off = 0

/-- BAR0 offsets of `c` counters of a page from an offset on. -/
def counterOffs (k : PageKind) (n base c : Nat) : List Nat :=
  (List.range c).map fun j => regOff k n (base + 4 * j)

/-- A register of a page can be accessed: the fabric die runs and the page is not blocked (R307). -/
def pageOpen (s : State) (k : PageKind) (n : Nat) : Prop :=
  fabOn s = true ∧ pageBlocked s k n = false

/-- The events that can take a cold reset (R341, R347, R351, R363). -/
def coldResets : Instr → Bool
  | .resetNAssert => true
  | .railsOkFall => true
  | .vddFabLow => true
  | .clockLoss bit => bit = 8
  | _ => false

/-- The seal measures: its supply stands and it is not in reset (R348, R419). -/
def sealOn (s : State) : Prop := s.ud.running = true ∧ s.ud.inReset = false

end Sys2Proof.Machine
end

