-- ==== Sys2Proof/Certificates/Slice0/Obligations.lean ====
section
/-!
DEFINITION. The statements for the provers.
-/
open Sys2Proof Sys2Proof.Machine

/-- The step of the block (assumption log 1): the command at the front of the queue is executed with
the rest of the queue, and on an empty queue the block idles. -/
def Obligations.StepRunsFrontCommand : Prop :=
  (∀ (c : Instr) (r : List Instr) (s : State),
    s.pending = c :: r → step s = exec c { s with pending := r })
  ∧ ∀ s : State, s.pending = [] → step s = .next s

/-- Every command, in every state, completes and leaves the queue of waiting commands alone:
ordinary data, a refused write or an error of the hardware never ends a run (assumption logs 1 and
3). -/
def Obligations.EveryCommandCompletesAndKeepsQueue : Prop :=
  ∀ (c : Instr) (s : State), ∃ t, exec c s = .next t ∧ t.pending = s.pending

/-- What reset leaves: heat number, origin and base 0 and TIME_OK 0 (R331, R333), heat length 1 ms
(R331), no pair (R377), no transaction (R312), stage 0 and nothing waiting; RESET_CAUSE.COLD 1
(R328) and the queue sizes of R291. The memories of the machine after reset have the canonical form.
-/
def Obligations.ResetValues : Prop :=
  (State.reset.heat.num = 0 ∧ State.reset.heat.origin = 0 ∧ State.reset.heat.base = 0
     ∧ State.reset.heat.timeOk = false ∧ rg State.reset .heat 0 0x048 = 1000000
     ∧ rg State.reset .global 0 0x054 = 1 ∧ rf State.reset .crewq 0 0x108 5 1 = 4
     ∧ rf State.reset .power 0 0x044 6 0 = 100 ∧ State.reset.reg.xact.phase = .idle
     ∧ State.reset.twin.pair = 0 ∧ State.reset.power.stage = 0 ∧ State.reset.pending = [])
  ∧ (MemoriesCanonical State.reset)

/-- Every step keeps the canonical form of every memory of the device: readout slots, both copies of
the parser tables, T0 with the sprint areas, the objects of T1 to T4, host memory and the seal's
staging area. The model's readings of assumption log 5 are part of it. -/
def Obligations.StepKeepsMemoriesCanonical : Prop :=
  ∀ s t : State, MemoriesCanonical s → step s = .next t → MemoriesCanonical t

/-- R333: no command, a cold reset of the device apart, makes the heat number smaller; and
HEAT_BOUNDARY, the event that begins a heat, makes it greater. -/
def Obligations.HeatNumberNeverDecreases : Prop :=
  (∀ (c : Instr) (s t : State), coldResets c = false → exec c s = .next t → s.heat.num ≤ t.heat.num)
  ∧ ∀ s t : State, fabOn s = true → s.heat.timeOk = true →
      exec .heatBoundary s = .next t → s.heat.num < t.heat.num

/-- R417: no command makes the verification counter of the seal smaller, the cold resets of the
other dies included (R341, R400); only WRITE_CONFIG and FW_COMMIT change it, by one. -/
def Obligations.VerificationCounterOnlyCounts : Prop :=
  ∀ (c : Instr) (s t : State), exec c s = .next t →
    t.ud.vcount = s.ud.vcount
    ∨ (t.ud.vcount = s.ud.vcount + 1
        ∧ ((∃ q image, c = .sealWriteConfig q image) ∨ ∃ q, c = .sealFwCommit q))

/-- The commands that can write ERROR.CTRL.CLR (R338). -/
def writesRegisters : Instr → Bool
  | .errorClr _ => true
  | .registerWrite _ _ _ => true
  | .mgmtWrite _ => true
  | .mgmtTransactionalWrite _ => true
  | .regWr _ => true
  | _ => false

/-- R339: the error log keeps its first 64 entries. From a log of at most 64 entries every command
leaves a log of at most 64; and a command that neither takes a cold reset nor can write
ERROR.CTRL.CLR keeps every entry in its place, new ones behind them. -/
def Obligations.ErrorLogKeepsFirst64 : Prop :=
  ∀ (c : Instr) (s t : State), s.reg.log.length ≤ 64 → exec c s = .next t →
    t.reg.log.length ≤ 64
      ∧ (coldResets c = false → writesRegisters c = false → s.reg.log <+: t.reg.log)

/-- R21, R17, R310, R25: HEAT_BOUNDARY, while TIME_OK is 1, begins the next heat at the boundary
planned: the number counts one, the hold window closes, no standalone shadow waits any more, no
packet is held at a link or its device any more, the slack window of the heat that ended is over. R333, R380:
TIME_OK_RISE with a valid copy of seal time. With C = BASE + floor((seal time − ORIGIN) ÷ length):
above NUM, NUM takes C and no shadow waits any more; otherwise NUM is held and the next boundary
falls where C becomes NUM + 1. -/
def Obligations.BoundariesBeginHeats : Prop :=
  (∀ s : State, fabOn s = true → s.heat.timeOk = true →
     ∃ t, exec .heatBoundary s = .next t ∧ t.heat.num = s.heat.num + 1 ∧ t.heat.hold = false
       ∧ t.heat.timeOk = true ∧ t.reg.shadows = [] ∧ t.net.held = []
       ∧ t.now = max s.now s.heat.next ∧ t.back.slack = false
       ∧ t.ports.p0.prevBase = s.ports.p0.ordBase ∧ t.ports.p1.prevBase = s.ports.p1.ordBase)
  ∧ (∀ (s : State) (t : Time), fabOn s = true → s.ud.copyValid = true → s.heat.timeOk = false →
     (s.heat.num < s.heat.base + (t - s.heat.origin) / heatLen s →
       ∃ u, exec (.timeOkRise t) s = .next u ∧ u.heat.timeOk = true ∧ u.reg.shadows = []
         ∧ u.heat.num = s.heat.base + (t - s.heat.origin) / heatLen s)
     ∧ (s.heat.base + (t - s.heat.origin) / heatLen s ≤ s.heat.num →
       ∃ u, exec (.timeOkRise t) s = .next u ∧ u.heat.timeOk = true ∧ u.heat.num = s.heat.num
         ∧ u.heat.origin = s.heat.origin ∧ u.heat.base = s.heat.base
         ∧ u.reg.shadows = s.reg.shadows ∧ SameMemories s u
         ∧ u.heat.next = s.heat.origin + (s.heat.num + 1 - s.heat.base) * heatLen s))

/-- R21, R24: HOLD_WINDOW_OPEN, while TIME_OK is 1 and the window is closed, opens it, and on an
armed device, but a twin in RESYNC or READY, freezes every set marked ready and takes its mark;
nothing else changes. R23:
RETIRING_SET_RELEASE of a group with a retiring set, which no token in flight still needs or whose
last deadline has come, ends that set; only that group's set and the latest instant seen change. The
model's readings of assumption log 48 are part of it. -/
def Obligations.ReadySetsFreezeAndRetire : Prop :=
  (∀ s : State, fabOn s = true → s.heat.timeOk = true → s.heat.hold = false →
     ∃ t, exec .holdWindowOpen s = .next t
       ∧ t = { s with heat := { s.heat with hold := true }
                      sprint := { s.sprint with sets := t.sprint.sets } }
       ∧ ∀ g, mget t.sprint.sets g =
           if rf s .sprint 0 0x040 0 0 = 1 ∧ s.twin.pair ≠ 3 ∧ s.twin.pair ≠ 4 then
             (mget s.sprint.sets g).map fun x => { x with frozen := x.frozen || x.ready, ready := false }
           else mget s.sprint.sets g)
  ∧ (∀ (s : State) (g : Nat) (t : Time), fabOn s = true →
     (setGet s g).retiring = true →
     oldInFlight s g (setGet s g).liveFrom = false ∨ (setGet s g).lastAt ≤ t →
     ∃ u, exec (.retiringSetRelease g t) s = .next u
       ∧ setGet u g = { setGet s g with retiring := false }
       ∧ (∀ g', g' ≠ g → setGet u g' = setGet s g')
       ∧ u = { s with now := max s.now t, sprint := { s.sprint with sets := u.sprint.sets } })

/-- The frames of a port after a cut (R384): each held frame by its place in the port's count, the
others as they were. `a` is the place of the first held frame, `d` how many of the held frames lie
before the boundary. -/
def cutFrames (e : EPort) (n a d count : Nat) : List RxFrame :=
  e.frames.map fun f =>
    match f.heat with
    | some _ => f
    | none =>
      if ordFrom f.ordinal a < d then
        { f with heat := some (n - 1), ordinal := ordFrom f.ordinal e.prevBase }
      else { f with heat := some n, ordinal := ordFrom f.ordinal count }

/-- R26, R27, R384: CUT on the stern of a pair, no later than 60 ns after the boundary. One for the
boundary just passed, whose counts lie among the held frames, gives every held frame and token its
heat by its place in the port's count, and the ordinals of the live heat begin at the counts; one
for the next boundary waits for it. R29, R386: without a cut 60 ns after the boundary, which
CUT_LATE or a later cut finds, the held frames take their heats from their own stamps and the case
is counted; CUT_LATE raises the twin alarm. The model's readings of assumption log 53 are part of
it. -/
def Obligations.CutAssignsHeldFrames : Prop :=
  (∀ (s : State) (c0 c1 tx rx : Nat), fabOn s = true → s.twin.pair = 1 → isStern s = true →
     (s.twin.cutWait = true → rx ≤ s.twin.cutTime + 240 →
       ordFrom c0 (ordFrom s.ports.p0.count s.ports.p0.heldN) ≤ s.ports.p0.heldN →
       ordFrom c1 (ordFrom s.ports.p1.count s.ports.p1.heldN) ≤ s.ports.p1.heldN →
       ∃ t, exec (.cut s.heat.num c0 c1 tx rx) s = .next t ∧ t.twin.cutWait = false
         ∧ t.ports.p0.ordBase = c0 ∧ t.ports.p1.ordBase = c1
         ∧ t.ports.p0.heldN = 0 ∧ t.ports.p1.heldN = 0
         ∧ t.ports.p0.frames = cutFrames s.ports.p0 s.heat.num
             (ordFrom s.ports.p0.count s.ports.p0.heldN)
             (ordFrom c0 (ordFrom s.ports.p0.count s.ports.p0.heldN)) c0
         ∧ t.ports.p1.frames = cutFrames s.ports.p1 s.heat.num
             (ordFrom s.ports.p1.count s.ports.p1.heldN)
             (ordFrom c1 (ordFrom s.ports.p1.count s.ports.p1.heldN)) c1
         ∧ ∀ k ∈ t.ports.tokQ, k.port < 2 → k.heat ≠ none)
     ∧ (s.twin.cutWait = false ∨ rx ≤ s.twin.cutTime + 240 →
       ∃ t, exec (.cut (s.heat.num + 1) c0 c1 tx rx) s = .next t ∧ t.ports = s.ports
         ∧ t.twin.cutEarly = some (s.heat.num + 1, c0, c1))
     ∧ (s.twin.cutWait = true → s.twin.cutTime + 240 < rx →
       ∃ t, exec (.cut s.heat.num c0 c1 tx rx) s = .next t ∧ t.twin.cutWait = false
         ∧ t.ports = (assignAll s s.twin.cutTime).ports
         ∧ rg t .twin 0 0x124 = satAdd 32 (rg s .twin 0 0x124) 1))
  ∧ (∀ (s : State) (t : Time), fabOn s = true → s.twin.cutWait = true → s.twin.cutTime + 240 ≤ t →
     ∃ u, exec (.cutLate t) s = .next u ∧ u.twin.cutWait = false
       ∧ rf u .twin 0 0x044 6 6 = 1
       ∧ rg u .twin 0 0x124 = satAdd 32 (rg s .twin 0 0x124) 1
       ∧ (∀ f ∈ u.ports.p0.frames ++ u.ports.p1.frames, f.heat ≠ none)
       ∧ (∀ f ∈ s.ports.p0.frames, f.heat = none →
           ∃ f' ∈ u.ports.p0.frames, f'.stamp = f.stamp
             ∧ f'.heat = some (if f.stamp < s.twin.cutTime then s.heat.num - 1 else s.heat.num))
       ∧ ∀ f ∈ s.ports.p1.frames, f.heat = none →
           ∃ f' ∈ u.ports.p1.frames, f'.stamp = f.stamp
             ∧ f'.heat = some (if f.stamp < s.twin.cutTime then s.heat.num - 1 else s.heat.num))

/-- R71, R406: FRAME_INGRESS on an enabled port whose link is up, with a seal stamp. With room for
32 entries the frame is admitted and reserves them, stamped, with its heat unless it is held for the
cut; without, it is dropped and counted. Of two frames in one fabric cycle with room for one,
EPORT0's is judged first: it is admitted and EPORT1's is dropped. Every frame counts in FRAMES and
in the port's count. The model's readings of assumption log 42 are part of it. -/
def Obligations.FrameIngressAdmitsOrDrops : Prop :=
  ∀ (s : State) (p : Nat) (t : Time), fabOn s = true → portUp s p = true → s.ud.copyValid = true →
    s.ud.inReset = false →
    (queueTaken s + 32 ≤ 256 → ∃ u f, exec (.frameIngress p t) s = .next u
        ∧ (epGet u p).frames = (epGet s p).frames ++ [f] ∧ f.stamp = t ∧ f.reserved = 32
        ∧ f.heat = (if heldForCut s t then none else some (heatOfStamp s t))
        ∧ (epGet u p).count = ((epGet s p).count + 1) % 2 ^ 32 ∧ u.ports.tokQ = s.ports.tokQ
        ∧ rg u .eport p 0x200 = satAdd 32 (rg s .eport p 0x200) 1
        ∧ rg u .eport p 0x250 = rg s .eport p 0x250)
    ∧ (256 < queueTaken s + 32 → ingressTie s p t = none → ∃ u, exec (.frameIngress p t) s = .next u
        ∧ (epGet u p).frames = (epGet s p).frames ∧ u.ports.tokQ = s.ports.tokQ
        ∧ (epGet u p).count = ((epGet s p).count + 1) % 2 ^ 32
        ∧ rg u .eport p 0x200 = satAdd 32 (rg s .eport p 0x200) 1
        ∧ rg u .eport p 0x250 = satAdd 32 (rg s .eport p 0x250) 1)
    ∧ (256 < queueTaken s + 32 → queueTaken s ≤ 256 → p = 0 →
      ∀ g, ingressTie s 0 t = some g → g.reserved = 32 →
      ∃ u f, exec (.frameIngress 0 t) s = .next u
        ∧ u.ports.p0.frames = s.ports.p0.frames ++ [f] ∧ f.stamp = t ∧ f.reserved = 32
        ∧ u.ports.p1.frames = s.ports.p1.frames.dropLast
        ∧ rg u .eport 0 0x250 = rg s .eport 0 0x250
        ∧ rg u .eport 1 0x250 = satAdd 32 (rg s .eport 1 0x250) 1)

/-- R52, R55, R58, R63, R65: FRAME_HEADER_PARSE of the first admitted frame not yet parsed. A UDP
datagram of a flow starts the flow's program on the payload; a frame of a size outside R52, a MAC
control frame, and a frame the header rules refuse are counted, and no program runs. The model's
readings of assumption logs 42, 43 and 44 are part of it. -/
def Obligations.HeaderRulesSelectTheProgram : Prop :=
  ∀ (s : State) (p : Nat) (b : List Byte) (f : RxFrame), fabOn s = true → p < 2 →
    (epGet s p).frames.find? (fun x => !x.parsed) = some f → (epGet s p).run = none →
    (9216 < b.length ∨ b.length < 60 →
      ∃ t, exec (.frameHeaderParse p b) s = .next t ∧ (epGet t p).run = none
        ∧ rg t .eport p 0x258 = satAdd 32 (rg s .eport p 0x258) 1)
    ∧ (60 ≤ b.length → b.length ≤ 9216 →
      (beNat (slice b 12 2) = 0x8808 →
        ∃ t, exec (.frameHeaderParse p b) s = .next t ∧ (epGet t p).run = none
          ∧ rg t .eport p 0x254 = satAdd 32 (rg s .eport p 0x254) 1)
      ∧ (beNat (slice b 12 2) ≠ 0x8808 → macOk s p b = true →
        (∀ c, parseTags b = .drop c → c = 3 ∨ c = 4 ∨ c = 5 ∨ c = 23 →
          ∃ t, exec (.frameHeaderParse p b) s = .next t ∧ (epGet t p).run = none
            ∧ rg t .eport p (0x200 + 4 * c) = satAdd 32 (rg s .eport p (0x200 + 4 * c)) 1)
        ∧ ∀ layers h u claim v6 src dst i, parseTags b = .udp layers h u claim v6 src dst →
          8 ≤ beNat (slice b (u + 4) 2) → beNat (slice b (u + 4) 2) ≤ claim - (u - h) →
          (v6 = true → beNat (slice b (u + 6) 2) ≠ 0 ∨ epCfg s p 2 = true) →
          flowMatch s p v6 dst (beNat (slice b (u + 2) 2)) = some i →
          ∃ t, exec (.frameHeaderParse p b) s = .next t
            ∧ (epGet t p).run = some (startRun f.stamp
                (bits (rdLE s.ports.live (flowAddr p i + 18) 1) 5 2) (u + 8)
                (beNat (slice b (u + 4) 2) - 8) layers i)
            ∧ t = epSet s p (epGet t p)))

/-- The state with another parser state on a port, one instruction of the message further. -/
def ranTo (s : State) (p : Nat) (r r' : ParserRun) : State :=
  epSet s p { epGet s p with run := some { r' with pc := r'.pc + 1, icount := r.icount + 1 } }

/-- The value LOAD reads from bytes: little-endian with LE set (R59). -/
def loadValue (w : Nat) (b : List Byte) : Nat := if bit w 25 then leNat b else beNat b

/-- The results of the ALU's operations 0 to 5 and 8 (R59). -/
def aluValue (op : Nat) (x y : DWord) : DWord :=
  if op = 0 then x + y else if op = 1 then x - y else if op = 2 then x &&& y
  else if op = 3 then x ||| y else if op = 4 then x >>> y.toNat else if op = 5 then x <<< y.toNat
  else y

/-- R59, R60, R61: the parser's SKIP, LOAD, ALU, FIELD, META and BRANCH within their limits change
the parser's registers as the opcode says, and nothing else in the device. The model's readings of
assumption log 45 are part of it. -/
def Obligations.ParserInstructionsActOnTheirRun : Prop :=
  ∀ (s : State) (p : Nat) (r : ParserRun) (w a : Nat), fabOn s = true → (epGet s p).run = some r →
    r.icount < 48 → r.pc < 63 → w = parserWord s r → a = bits w 23 22 →
    (w / 2 ^ 28 = 0 → r.layers + b2n (bit w 27 && !r.begun) ≤ 8 →
      exec (.parserSkip p) s = .next (ranTo s p r { r with
        cur := r.cur + (if bit w 26 then (r.get a).toNat else bits w 15 0)
        layers := r.layers + b2n (bit w 27 && !r.begun) }))
    ∧ (∀ f, w / 2 ^ 28 = 1 → frameOf s p r.stamp = some f →
        r.cur + bits w 15 0 + 2 ^ bits w 27 26 ≤ r.limit →
        (r.mset = true → r.cur + bits w 15 0 + 2 ^ bits w 27 26 ≤ r.mstart + r.m) →
        r.base + (r.cur + bits w 15 0 + 2 ^ bits w 27 26) ≤ f.bytes.length →
        exec (.parserLoad p) s = .next (ranTo s p r { r with
          acc := r.acc.set a (BitVec.ofNat 64 (loadValue w
            (slice f.bytes (r.base + (r.cur + bits w 15 0)) (2 ^ bits w 27 26)))) }))
    ∧ (∀ x y, w / 2 ^ 28 = 2 → x = r.get a →
        y = (if bit w 21 then r.get (bits w 20 19) else BitVec.ofNat 64 (bits w 15 0)) →
        exec (.parserAlu p) s = .next (ranTo s p r
          (if bits w 27 24 = 6 then { r with cond := decide (x = y) }
          else if bits w 27 24 = 7 then { r with cond := decide (x < y) }
          else { r with acc := r.acc.set a (aluValue (bits w 27 24) x y) })))
    ∧ (w / 2 ^ 28 = 3 → exec (.parserField p) s = .next (ranTo s p r { r with
        fields := r.fields.set (bits w 27 24) ((r.get a).setWidth 32) }))
    ∧ (w / 2 ^ 28 = 4 → bits w 27 24 = 0 →
        exec (.parserMeta p) s = .next (ranTo s p r { r with seq := r.get a }))
    ∧ (w / 2 ^ 28 = 4 → bits w 27 24 = 1 →
        exec (.parserMeta p) s = .next (ranTo s p r { r with stream := r.get a }))
    ∧ (∀ m, w / 2 ^ 28 = 4 → 2 ≤ bits w 27 24 →
        m = (if bits w 27 24 = 2 then (r.get a).toNat else bits w 15 0) → m ≠ 0 →
        r.mcount < 32 → (r.begun = true ∨ r.base + r.cur ≤ 192) → r.cur + m ≤ r.limit →
        exec (.parserMeta p) s = .next (ranTo s p r { r with
          m := m, mstart := r.cur, mset := true, begun := true }))
    ∧ (w / 2 ^ 28 = 5 → r.pc + 1 + bits w 5 0 < 64 →
        exec (.parserBranch p) s = .next (ranTo s p r { r with
          pc := r.pc + (if bit w 26 = true ∨ r.cond = bit w 27 then bits w 5 0 else 0) }))

/-- The parser command of an instruction class (R59). -/
def parserCmd (p : Nat) (t : Time) (cls : Nat) : Instr :=
  match cls with
  | 0 => .parserSkip p
  | 1 => .parserLoad p
  | 2 => .parserAlu p
  | 3 => .parserField p
  | 4 => .parserMeta p
  | 5 => .parserBranch p
  | 6 => .parserEmit p t
  | _ => .parserEnd p

/-- The parser of a port has ended the datagram of a stamp (R71): no parsing runs, and the frame, where it
still awaits its checks, has ended and reserves no entry. -/
def parsingEnded (u : State) (p : Nat) (stamp : Time) : Prop :=
  (epGet u p).run = none
    ∧ ∀ f ∈ (epGet u p).frames, f.stamp = stamp → f.ended = true ∧ f.reserved = 0

/-- R59, R61, R66, R67, R69, R71: EMIT, once the message's bytes are there, forms a token of a
stream with a valid entry, at its place in the tokenizer queue, or counts a message of a stream
without one, and goes on behind the message, or ends the parsing at the payload's limit; END ends
the parsing, with DROP counted; the 49th instruction of a message makes it inconsistent: it is
counted, the flow's DROP_EPOCH counts, and the parsing ends. The model's readings of assumption log
45 are part of it. -/
def Obligations.ParserEmitsTokensAndEnds : Prop :=
  ∀ (s : State) (p : Nat) (r : ParserRun) (t : Time) (w : Nat), fabOn s = true → p < 2 →
    (epGet s p).run = some r → w = parserWord s r →
    (∀ f v, r.icount < 48 → w / 2 ^ 28 = 6 → frameOf s p r.stamp = some f → r.mset = true →
        r.base + (r.mstart + r.m) ≤ f.bytes.length →
        v = (decide (r.stream.toNat < 16384) && bit (streamWord s.ports.live r.stream.toNat) 0) →
        (r.mstart + r.m < r.limit →
          ∃ u, exec (.parserEmit p t) s = .next u
            ∧ (epGet u p).run = some { r with
                cur := r.mstart + r.m, mset := false, m := 0, stream := 0, seq := 0
                fields := List.replicate 10 0, icount := 0, mcount := r.mcount + 1
                pc := bits w 5 0 }
            ∧ (v = true →
              u.ports.tokQ = queueToken s.ports.tokQ
                  { stream := r.stream.toNat, gap := false, first := false, port := p, last := false
                    seq := r.seq, ingress := r.stamp, msg := r.mcount, len := r.m, fields := r.fields
                    flow := r.flow, epoch := dropEpoch s p r.flow, ordinal := f.ordinal
                    heat := f.heat, verdict := f.verdict, ready := t }
                ∧ rg u .eport p 0x204 = satAdd 32 (rg s .eport p 0x204) 1)
            ∧ (v = false → u.ports.tokQ = s.ports.tokQ
                ∧ rg u .eport p 0x220 = satAdd 32 (rg s .eport p 0x220) 1))
        ∧ (r.limit ≤ r.mstart + r.m →
          ∃ u, exec (.parserEmit p t) s = .next u ∧ parsingEnded u p r.stamp
            ∧ (v = true → rg u .eport p 0x204 = satAdd 32 (rg s .eport p 0x204) 1)
            ∧ (v = false → rg u .eport p 0x220 = satAdd 32 (rg s .eport p 0x220) 1)))
    ∧ (r.icount < 48 → w / 2 ^ 28 = 7 →
        ∃ u, exec (.parserEnd p) s = .next u ∧ parsingEnded u p r.stamp
          ∧ rg u .eport p 0x244 = satAdd 32 (rg s .eport p 0x244) (b2n (bit w 27)))
    ∧ (48 ≤ r.icount → w / 2 ^ 28 < 8 →
        ∃ u, exec (parserCmd p t (w / 2 ^ 28)) s = .next u ∧ parsingEnded u p r.stamp
          ∧ rg u .eport p 0x240 = satAdd 32 (rg s .eport p 0x240) 1
          ∧ dropEpoch u p r.flow = (dropEpoch s p r.flow + 1) % 256)

/-- R53, R65: FRAME_CHECK of the first frame that awaits its checks, once it is parsed. With a good
FCS, no length case 1 and a good UDP checksum its tokens, queued or in flight, are released for
decision; with a bad FCS, length case 1 or a bad UDP checksum its queued tokens are void, none of it
stays in flight, and they are counted in FCS_VOID, or in LEN_IP_LONG for length case 1. The model's
readings of assumption logs 44 and 47 are part of it. -/
def Obligations.FrameCheckReleasesOrVoidsTokens : Prop :=
  ∀ (s : State) (p : Nat) (fcs : Word) (t : Time) (f : RxFrame), fabOn s = true → p < 2 →
    (epGet s p).frames.find? (fun x => x.verdict.isNone) = some f → f.parsed = true →
    f.badSize = false → frameOf s p f.stamp = some f →
    (crc32 f.bytes = fcs → f.ipLong = false → f.udpOk = true → f.lenCase = 0 ∨ 11 ≤ f.lenCase →
      ∃ u, exec (.frameCheck p fcs t) s = .next u
        ∧ u.ports.tokQ = s.ports.tokQ.map (fun k =>
            if k.port = p ∧ k.ingress = f.stamp then { k with verdict := some 0 } else k)
        ∧ u.sprint.tokens = s.sprint.tokens.map (fun x =>
            if x.tok.port = p ∧ x.tok.ingress = f.stamp then { x with tok := { x.tok with verdict := some 0 } }
            else x)
        ∧ rg u .eport p 0x218 = rg s .eport p 0x218 ∧ rg u .eport p 0x224 = rg s .eport p 0x224)
    ∧ (∀ v, v = (if crc32 f.bytes ≠ fcs then 1 else if f.ipLong then 2 else if f.udpOk then 0 else 3) →
      v ≠ 0 → 0 < f.tokens →
      ∃ u, exec (.frameCheck p fcs t) s = .next u
        ∧ u.ports.tokQ = s.ports.tokQ.map (fun k =>
            if k.port = p ∧ k.ingress = f.stamp then { k with verdict := some v } else k)
        ∧ (∀ x ∈ u.sprint.tokens, ¬(x.tok.port = p ∧ x.tok.ingress = f.stamp))
        ∧ rg u .eport p (if v = 2 then 0x224 else 0x218)
            = satAdd 32 (rg s .eport p (if v = 2 then 0x224 else 0x218)) f.tokens
        ∧ rg u .eport p 0x214 = satAdd 32 (rg s .eport p 0x214) (if v = 3 then 1 else 0))

/-- R68, R69, R70, R40, R45, R425: STREAM_LOOKUP of the first token of the queue, whose heat is
assigned. One whose entry is not valid is discarded and counted; one whose descriptor has 64 tokens
that wait for VC0 stays where it is. Otherwise, on a device armed in its heat: a token of an enabled
descriptor is in flight with its deadline, the first of its stream with FIRST, one out of sequence
or from another flow with GAP, counted, and NEXT_SEQ goes on behind it; a duplicate is counted and
goes no further; one of a disabled descriptor is counted in UNMAPPED. The model's readings of
assumption logs 46, 48 and 96 are part of it. -/
def Obligations.StreamLookupSequencesTokens : Prop :=
  ∀ (s : State) (t : Time) (k : TokRec) (rest : List TokRec) (h n w : Nat), fabOn s = true →
    s.ports.tokQ = k :: rest → k.heat = some h → w = streamWord s.ports.live k.stream →
    n = bits w 7 2 →
    (bit w 0 = false →
      ∃ u, exec (.streamLookup t) s = .next u ∧ u.ports.tokQ = rest ∧ u.sprint = s.sprint
        ∧ SameTableBytes s u ∧ rg u .eport k.port 0x220 = satAdd 32 (rg s .eport k.port 0x220) 1)
    ∧ (bit w 0 = true → queryFull s n = true → exec (.streamLookup t) s = .next s)
    ∧ (bit w 0 = true → queryFull s n = false →
      (mgetD s.ports.seen k.stream false = true → bit w 1 = true →
        k.seq.toNat < rdLE s.ports.live (16 * k.stream + 8) 8 →
        ∃ u, exec (.streamLookup t) s = .next u ∧ u.ports.tokQ = rest
          ∧ u.sprint = s.sprint ∧ SameTableBytes s u
          ∧ rg u .eport k.port 0x248 = satAdd 32 (rg s .eport k.port 0x248) 1)
      ∧ (mgetD s.ports.seen k.stream false = true → bit w 1 = false → bits w 15 8 = k.epoch →
        bits w 24 16 = k.flow + 256 * k.port → dEn (descWord s n 0 h) = false →
        ∃ u, exec (.streamLookup t) s = .next u ∧ u.ports.tokQ = rest
          ∧ u.sprint = s.sprint ∧ SameTableBytes s u
          ∧ rg u .sprint 0 0x054 = satAdd 32 (rg s .sprint 0 0x054) 1)
      ∧ (armedIn s h = true → s.twin.pair ≠ 3 → s.twin.pair ≠ 4 → dEn (descWord s n 0 h) = true →
        k.verdict = none ∨ k.verdict = some 0 →
        (∀ first gap, k.stream < 16384 → k.epoch < 256 → k.flow + 256 * k.port < 512 →
          (first = true ∧ gap = false ∧ mgetD s.ports.seen k.stream false = false)
            ∨ (first = false ∧ mgetD s.ports.seen k.stream false = true
              ∧ (bit w 1 = true → rdLE s.ports.live (16 * k.stream + 8) 8 ≤ k.seq.toNat)
              ∧ gap = ((bit w 1 && decide (rdLE s.ports.live (16 * k.stream + 8) 8 ≠ k.seq.toNat))
                  || decide (bits w 15 8 ≠ k.epoch) || decide (bits w 24 16 ≠ k.flow + 256 * k.port))) →
          ∃ u x, exec (.streamLookup t) s = .next u ∧ u.ports.tokQ = rest
            ∧ u.sprint.tokens = s.sprint.tokens ++ [x]
            ∧ x.tok = (if first then { k with first := true } else { k with gap := gap })
            ∧ x.heat = h ∧ x.desc = n ∧ x.phase = .looked ∧ x.layer = 0
            ∧ x.group = dGroup (descWord s n 0 h)
            ∧ x.deadline = k.ingress + ns (bits (descWord s n 8 h) 29 0)
            ∧ mgetD u.ports.seen k.stream false = true
            ∧ (first = true ∨ bit w 1 = true →
                rdLE u.ports.live (16 * k.stream + 8) 8 = (k.seq.toNat + 1) % 2 ^ 64)
            ∧ rg u .eport k.port 0x24C = satAdd 32 (rg s .eport k.port 0x24C) (b2n gap)
            ∧ rg u .sprint 0 0x048 = satAdd 32 (rg s .sprint 0 0x048) 1)))

/-- R36: SPRINT_QUERY_FORM at the root gives the token its first state vector and puts the query
lines of layer 1 to the root's own position on both trees, where no earlier query of it stands; of
the registers only NO_ROUTE counters of links may change. R199, R201, R436: SPRINT_PARTIAL_COMPUTE
reads one unit of the token's group and layer, in the turn of the queries of its shell. A sound unit
gives its partial, which also stands in the shell's sprint buffer, and counts in the die's counter;
one with an uncorrectable word is poisoned and gives canonical NaNs. R200: SPRINT_PARTIAL_READY,
with every unit computed on a device that is not adrift, makes the position's sum its own input on
the tree. R263, R383, R385: TREE_FOLD of a sprint node with all its inputs: the fold, in member
order, is the layer's tree sum at the root; elsewhere it enters the heat's digest and goes to the
parent as partial packets. The model's readings of assumption logs 14, 50, 51, 55 and 72 are part of
it. -/
def Obligations.QueriesPartialsAndTreeSums : Prop :=
  (∀ (s : State) (tag : Nat) (x : Token) (gr : Group), fabOn s = true →
     tokenOf s tag = some x → x.phase = .looked → groupGet s x.group = some gr →
     (∀ j ∈ s.sprint.jobs, ¬(j.group = x.group ∧ j.tag = tag)) →
     ∃ t y, exec (.sprintQueryForm tag) s = .next t ∧ tokenOf t tag = some y ∧ y.phase = .asking
       ∧ y.x = (firstX s x).map (·.1) ∧ y.tok = x.tok ∧ y.deadline = x.deadline
       ∧ (∀ weft, ∃ j, jobOf t x.group tag weft = some j ∧ j.layer = 0 ∧ j.heat = x.heat
           ∧ j.q = (queryOf s x 0 ((firstX s x).map (·.1)) weft).map (·.1))
       ∧ SameMemories s t
       ∧ (∀ o, (∀ l, o ≠ regOff (linkPage l).1 (linkPage l).2 0x124) → regGet t.regs o = regGet s.regs o))
  ∧ ((∀ (s : State) (g tag u : Nat) (weft : Bool) (j : PosJob), fabOn s = true →
      jobOf s g tag weft = some j →
      (∀ k un, (jobUnits s j).find? (fun e => e.1 % 16384 = u) = some (k, un) →
        mget j.parts k = none → shellTurn s j (u % 2048) = true →
        (∀ r, un.poisoned = false →
          r = unitPartial (sliceGet s (16384 ≤ k) u) j.q (j.q.length / 512) (un.kvhead % 4) →
          ∃ t, exec (.sprintPartialCompute g tag weft u false) s = .next t
            ∧ jobOf t g tag weft = some { j with
                parts := mset j.parts k r.1, flags := j.flags ||| r.2 }
            ∧ (mget t.att.sbuf (u % 2048)).map (·.recs) = some r.1
            ∧ rg t .attn 0 (0x10C + 0x10 * (u % 2048 / 256))
                = satAdd 32 (rg s .attn 0 (0x10C + 0x10 * (u % 2048 / 256))) 1
            ∧ t = { s with
                regs := t.regs, att := { s.att with sbuf := t.att.sbuf }
                sprint := { s.sprint with jobs := t.sprint.jobs } })
        ∧ ∃ t, exec (.sprintPartialCompute g tag weft u true) s = .next t
            ∧ mget t.sprint.units k = some { un with poisoned := true }
            ∧ jobOf t g tag weft = some { j with
                parts := mset j.parts k (nanPartial (j.q.length / 512)), flags := j.flags ||| fNV }
            ∧ SameMemories s t)
      ∧ (s.twin.adrift = false → (∀ e ∈ jobUnits s j, mget j.parts e.1 ≠ none) →
        ∃ t, exec (.sprintPartialReady g tag weft) s = .next t
          ∧ t.sprint.nodes = s.sprint.nodes.map (fun n =>
              if n.sprint = true ∧ n.group = g ∧ n.tag = tag ∧ n.weft = weft then
                { n with own := some (positionSum j (jobUnits s j)).1
                         flags := n.flags ||| j.flags ||| (positionSum j (jobUnits s j)).2 }
              else n)
          ∧ t = { s with sprint := { s.sprint with nodes := t.sprint.nodes, jobs := t.sprint.jobs } }))
   ∧ (∀ (s : State) (i : Nat) (n : TreeNode) (v : List Word) (fl : Flags) (gr : Group), fabOn s = true →
      s.sprint.nodes[i]? = some n → n.sprint = true → nodeSum n = some (v, fl) →
      groupGet s n.group = some gr →
      (parentDev s gr n.weft = none →
        ∃ t, exec (.treeFold i) s = .next t ∧ t.sprint.nodes = s.sprint.nodes.eraseIdx i
          ∧ mget t.sprint.sums (2 * n.tag + b2n n.weft) = some v ∧ t.links = s.links
          ∧ t.twin = s.twin)
      ∧ (∀ d dg s₁, parentDev s gr n.weft = some d → mget s.twin.digests n.heat = some dg →
        s₁ = { s with
          sprint := { s.sprint with nodes := s.sprint.nodes.eraseIdx i }
          twin := { s.twin with digests := mset s.twin.digests n.heat { dg with
            nSum := dg.nSum + 1
            sum := (dg.sum + (sumEntry n.tag n.group n.layer n.weft (bytesOf 4 v)).toNat) % 2 ^ 64 } } } →
        exec (.treeFold i) s = .next (sendVec s₁ [d] (bytesOf 4 v) fun d last _ piece =>
          sprintPkt s₁ n.group gr d n.heat n.tag n.weft last 9 (if last then fl else 0) piece))))

/-- R36, R156, R383: SPRINT_LAYER_COMPLETE with both tree sums of the last layer gives the decision
record; of a layer before, the queries of the next. DECISION_BUILD takes the template of the record
and the decision's entry. R74, R75, R47, R387, R388, R395, R437: DECISION_READY for a token whose
frame passed its checks and whose turn it is. In time and unhindered, with at most three frames
ahead, its frame enters the egress queue; in compare-before-emit it is held for the partner; late or
fenced, it is suppressed and counted, adrift or after INTERNAL_ECC suppressed; a decision that sends
no frame is never late. DEADLINE_PASS suppresses a token whose decision is not ready, but for one
that sends no frame. R33, R250, R51, R49, R73, R406: VC0_WINDOW_START at a whole microsecond gives
every Henac link a fresh window; SPRINT_DISARM_DONE, with ARM 0 and no work of a token left, takes
the units out of the armed state; EGRESS_STAMP sends the first decision frame of a port with its
FCS, unless an earlier one of its descriptor waits at the other port, counted and stamped by the
seal. The model's readings of assumption logs 50, 51, 52, 53 and 54 are part of it. -/
def Obligations.LayersEndInReleasedDecisions : Prop :=
  ((∀ (s : State) (tag : Nat) (x : Token), fabOn s = true → tokenOf s tag = some x →
      (x.phase = .asking → mget s.sprint.sums (2 * tag) ≠ none →
        mget s.sprint.sums (2 * tag + 1) ≠ none →
        (x.layer + 1 = dLayers x.cfg →
          ∃ t, exec (.sprintLayerComplete tag) s = .next t
            ∧ tokenOf t tag = some { decisionRecord s x ((nextX s x x.layer).map (·.1))
                (x.flags ||| orFlags (nextX s x x.layer)) with layer := x.layer + 1 }
            ∧ mget t.sprint.sums (2 * tag) = none ∧ mget t.sprint.sums (2 * tag + 1) = none
            ∧ t = { s with sprint := { s.sprint with tokens := t.sprint.tokens, sums := t.sprint.sums } })
        ∧ (x.layer + 1 ≠ dLayers x.cfg →
          ∃ t y, exec (.sprintLayerComplete tag) s = .next t ∧ tokenOf t tag = some y
            ∧ y.phase = .asking ∧ y.layer = x.layer + 1 ∧ y.x = (nextX s x x.layer).map (·.1)
            ∧ mget t.sprint.sums (2 * tag) = none ∧ mget t.sprint.sums (2 * tag + 1) = none
            ∧ ∀ gr weft, groupGet s x.group = some gr →
                ∃ j, jobOf t x.group tag weft = some j ∧ j.heat = x.heat
                  ∧ j.q = (queryOf s x (x.layer + 1) ((nextX s x x.layer).map (·.1)) weft).map (·.1)))
      ∧ (x.phase = .decided →
        ∃ t, exec (.decisionBuild tag) s = .next t
          ∧ tokenOf t tag = some { x with
              phase := .built, frame := templateImg s x.tmpl, entry := decisionEntry x }
          ∧ t = { s with sprint := { s.sprint with tokens := t.sprint.tokens } }))
   ∧ (∀ (s : State) (tag : Nat) (t : Time) (x : Token), fabOn s = true → tokenOf s tag = some x →
      (x.phase = .built → x.tok.verdict = some 0 → itsTurn s x = true → sendsFrame x = true →
        portUp s (tmplPort x) = true → framesAhead s (tmplPort x) ≤ 3 →
        (t ≤ x.deadline → s.ud.busy = false →
          (s.twin.fenced = false → s.sprint.eccFence = false → s.twin.adrift = false →
            (cbeActive s = false →
              ∃ u f, exec (.decisionReady tag t) s = .next u ∧ tokenOf u tag = none
                ∧ (epGet u (tmplPort x)).egress
                    = (epGet s (tmplPort x)).egress
                      ++ [⟨f, x.desc, x.tmpl, x.tok.ingress, x.tok.msg⟩])
            ∧ (cbeActive s = true → (∀ e ∈ s.twin.cbeEarly, e.1 ≠ tokenId x) →
              ∃ u, exec (.decisionReady tag t) s = .next u
                ∧ tokenOf u tag = some { x with phase := .heldCbe, cbeAt := t }
                ∧ u.ports = s.ports))
          ∧ (s.twin.fenced = true →
            ∃ u, exec (.decisionReady tag t) s = .next u ∧ tokenOf u tag = none ∧ u.ports = s.ports
              ∧ rg u .twin 0 0x128 = satAdd 32 (rg s .twin 0 0x128) 1)
          ∧ (s.twin.fenced = false → s.sprint.eccFence = true ∨ s.twin.adrift = true →
            ∃ u, exec (.decisionReady tag t) s = .next u ∧ tokenOf u tag = none ∧ u.ports = s.ports
              ∧ rg u .twin 0 0x128 = rg s .twin 0 0x128))
        ∧ (x.deadline < t →
          ∃ u, exec (.decisionReady tag t) s = .next u ∧ tokenOf u tag = none ∧ u.ports = s.ports
            ∧ rg u .sprint 0 0x050 = satAdd 32 (rg s .sprint 0 0x050) 1))
      ∧ (x.phase = .built → x.tok.verdict = some 0 → itsTurn s x = true → sendsFrame x = false →
        s.ud.busy = false → s.twin.fenced = false → s.sprint.eccFence = false → s.twin.adrift = false →
        cbeActive s = false →
        ∃ u, exec (.decisionReady tag t) s = .next u ∧ tokenOf u tag = none ∧ u.ports = s.ports
          ∧ rg u .sprint 0 0x050 = rg s .sprint 0 0x050)
      ∧ (x.phase ≠ .heldCbe → x.deadline ≤ t → noAction s x = false →
        ∃ u, exec (.deadlinePass tag t) s = .next u ∧ tokenOf u tag = none ∧ u.ports = s.ports
          ∧ rg u .sprint 0 0x050 = satAdd 32 (rg s .sprint 0 0x050) 1)))
  ∧ (∀ s : State, fabOn s = true →
     (∀ t l, t % 4000 = 0 → l < 16 →
       ∃ u, exec (.vc0WindowStart t) s = .next u ∧ (linkGet u l).vc0Used = 0 ∧ u.now = max s.now t)
     ∧ (rf s .sprint 0 0x040 0 0 = 0 → sprintLeft s = false →
       ∃ u, exec .sprintDisarmDone s = .next u
         ∧ u = { s with sprint := { s.sprint with armedUnits := false } })
     ∧ ∀ p t f r, portUp s p = true → (epGet s p).egress = f :: r → egressWaits s p f = false →
       s.ud.running = true → s.ud.inReset = false →
       ∃ u, exec (.egressStamp p t) s = .next u ∧ (epGet u p).egress = r
         ∧ (epGet u p).out = (epGet s p).out ++ [f.bytes ++ toLE (crc32 f.bytes).toNat 4]
         ∧ rg u .sprint 0 0x04C = satAdd 32 (rg s .sprint 0 0x04C) 1
         ∧ (if p = 0 then u.ud.stamps0 = s.ud.stamps0 ++ [t] else u.ud.stamps1 = s.ud.stamps1 ++ [t]))

/-- R57, R309, R340: a write of TBL_DATA outside the refill stores the word at TBL_ADDR in the
shadow, but for bits that hardware maintains, and advances TBL_ADDR; during the refill it waits with
its address and advances TBL_ADDR too. A read outside the refill gives the shadow word and advances
too. R57, R62, R310: a write of 1 to TBL_SWAP outside a transaction is a shadow for the next heat
where every program and template of the shadow tables passes the load check; otherwise it is refused
with the first that fails in PARSE.STATUS. PARSE_REFILL_DONE leaves the shadow a copy of the live
tables, with the write that waited, if any. The model's readings of assumption logs 19, 40 and 46
are part of it. -/
def Obligations.ParserTablesAreShadowed : Prop :=
  (∀ (s : State) (p : Port) (val : Word), pageOpen s .parse 0 →
     rf s .parse 0 0x040 18 2 < 0x14000 →
     (s.ports.refill = false →
       (∃ t, exec (.parseTblDataAccess p true val) s = .next t
         ∧ rf t .parse 0 0x040 18 2 = rf s .parse 0 0x040 18 2 + 1 ∧ t.ports.live = s.ports.live
         ∧ (∀ a, a / 4 ≠ rf s .parse 0 0x040 18 2 → rdB t.ports.shadow a = rdB s.ports.shadow a)
         ∧ ∀ i, i < 4 → tblHwMask (4 * rf s .parse 0 0x040 18 2 + i) = 0 →
             rdB t.ports.shadow (4 * rf s .parse 0 0x040 18 2 + i)
               = BitVec.ofNat 8 (val.toNat / 2 ^ (8 * i)))
       ∧ ∃ t, exec (.parseTblDataAccess .pcie false val) s = .next t ∧ SameTableBytes s t
           ∧ t.reg.pcieOut.toNat = rdLE s.ports.shadow (4 * rf s .parse 0 0x040 18 2) 4
           ∧ rf t .parse 0 0x040 18 2 = rf s .parse 0 0x040 18 2 + 1)
     ∧ (s.ports.refill = true →
       ∃ t, exec (.parseTblDataAccess p true val) s = .next t
         ∧ t.ports.tblWait = s.ports.tblWait ++ [(4 * rf s .parse 0 0x040 18 2, val)]
         ∧ SameTableBytes s t ∧ rf t .parse 0 0x040 18 2 = rf s .parse 0 0x040 18 2 + 1))
  ∧ (∀ (s : State) (p : Port), pageOpen s .parse 0 → s.reg.xact.phase ≠ .opened →
     (loadCheck s = none →
       ∃ t, exec (.tblSwap p 1) s = .next t
         ∧ mget t.reg.shadows (regOff .parse 0 0x048) = some 1 ∧ SameTableBytes s t)
     ∧ (∀ i, loadCheck s = some i →
       ∃ t, exec (.tblSwap p 1) s = .next t ∧ t.reg.shadows = s.reg.shadows
         ∧ rf t .parse 0 0x04C 7 0 = 128 + i ∧ SameTableBytes s t)
     ∧ (s.ports.refill = true → s.ports.tblWait = [] →
       ∃ t, exec .parseRefillDone s = .next t
         ∧ t = { s with ports := { s.ports with shadow := s.ports.live, refill := false } })
     ∧ (∀ w, s.ports.refill = true → s.ports.tblWait = [w] → w.1 < 0x50000 →
       ∃ t, exec .parseRefillDone s = .next t ∧ t.ports.tblWait = [] ∧ t.ports.live = s.ports.live
         ∧ (∀ a, a < w.1 ∨ w.1 + 4 ≤ a → rdB t.ports.shadow a = rdB s.ports.live a)
         ∧ ∀ i, i < 4 → tblHwMask (w.1 + i) = 0 →
             rdB t.ports.shadow (w.1 + i) = BitVec.ofNat 8 (w.2.toNat / 2 ^ (8 * i))))

/-- The conditions of R83 to R86 and R123 under which the instruction `w` at the program counter of an
oar fires: its shell issues, its PRED holds, nothing stalls it, its operands lie in scratch and its
multicast route is valid. -/
def fires (s : State) (d r : Nat) (o : Oar) (w : Nat) : Prop :=
  fabOn s = true ∧ mget s.grid.oars (oarKey d r) = some o ∧ instrAt o = some w
    ∧ issues s (oarKey d r / 8) = true ∧ o.inSeat = false ∧ predOk o w = true
    ∧ stall s (oarKey d r) o w = none
    ∧ scratchFault s (fun n => arAddr o.image n o.idx (shellGet s (oarKey d r / 8)).round) w = none
    ∧ mcastBad s (oarKey d r) o w = false

/-- A command leaves an oar in a state, with FIRE counted and nothing outside the grid changed. -/
def oarBecomes (s : State) (c : Instr) (k : Nat) (o : Oar) (P : Oar → Prop) : Prop :=
  ∃ t o', exec c s = .next t ∧ mget t.grid.oars k = some o' ∧ P o'
    ∧ o'.ctr = o.ctr.modify 0 (satAdd 32 1) ∧ o'.image = o.image
    ∧ t.grid.scratch = s.grid.scratch ∧ t = { s with grid := t.grid }

/-- The entries an instruction takes have left the heads of its input queues (R84). -/
def entriesTaken (o o' : Oar) (w : Nat) : Prop :=
  ∀ q, q < 4 → o'.iq.getD q [] =
    if bit (iInq w) q then (o.iq.getD q []).drop (iNin w) else o.iq.getD q []

/-- R84, R85, R88: what an instruction of the cox does when it fires. MMA, VEC, SFN and MOVE start
an operation of their unit; NOP and SYNC only go on; SETCR sets a count register, COND appends to
the condition queue, LOOP begins its body or passes it over. Nothing outside the grid changes. The
model's readings of assumption log 78 are part of it. -/
def Obligations.OarInstructionsFire : Prop :=
  ∀ (s : State) (d r : Nat) (o : Oar) (w : Nat), fires s d r o w →
    (∀ c u, (iClass w = 1 ∧ c = .oarMma d r ∧ u = 0) ∨ (iClass w = 2 ∧ c = .oarVec d r ∧ u = 1)
        ∨ (iClass w = 3 ∧ c = .oarSfn d r ∧ u = 2) ∨ (iClass w = 4 ∧ c = .oarMove d r ∧ u = 3) →
      oarBecomes s c (oarKey d r) o fun o' =>
        o'.pc = (advance o o.pc).pc ∧ o'.trips = (advance o o.pc).trips
          ∧ o'.ops.map (fun p => (p.unit, p.word)) = o.ops.map (fun p => (p.unit, p.word)) ++ [(u, w)])
    ∧ (iClass w = 0 → oarBecomes s (.oarNop d r) (oarKey d r) o fun o' =>
        o'.pc = (advance o o.pc).pc ∧ o'.ops = o.ops ∧ entriesTaken o o' w)
    ∧ (iClass w = 6 → bits w 39 36 = 0 → oarBecomes s (.oarSync d r) (oarKey d r) o fun o' =>
        o'.pc = (advance o o.pc).pc ∧ o'.ops = o.ops)
    ∧ (iClass w = 6 → bits w 39 36 = 1 → oarBecomes s (.oarSetcr d r) (oarKey d r) o fun o' =>
        o'.pc = (advance o o.pc).pc ∧ entriesTaken o o' w
          ∧ o'.cr = o.cr.set (bits w 35 32) (BitVec.ofNat 16
              (fld (((o.iq.getD ((onesOf (iInq w) 4).headD 0) []).headD none).getD []) 0 2)))
    ∧ (iClass w = 6 → bits w 39 36 = 2 → oarBecomes s (.oarCond d r) (oarKey d r) o fun o' =>
        o'.pc = (advance o o.pc).pc ∧ o'.condq = o.condq ++ [condBit o w])
    ∧ (iClass w = 5 → tripCount o w ≠ 0 → oarBecomes s (.oarLoop d r) (oarKey d r) o fun o' =>
        o'.pc = o.pc + 1 ∧ o'.trips = o.trips.set (loopLevel w) (tripCount o w)
          ∧ o'.idx = o.idx.set (loopLevel w) 0 ∧ o'.active = o.active.set (loopLevel w) true)
    ∧ (iClass w = 5 → tripCount o w = 0 → oarBecomes s (.oarLoop d r) (oarKey d r) o fun o' =>
        o'.pc = (advance o (loopEnd w)).pc)

/-- What the output OQ1 of an oar has to send: its entries, then those its finished operations hold (R78). -/
def out1Line (o : Oar) : List QEntry := o.oq1 ++ o.ops.flatMap (·.out1)

/-- R83, R88, R95, R96, R434: SEAT that fires leaves its oar waiting in SEAT at the same
instruction; the END marker at the head of each input queue in use is taken and one stands behind
what OQ1 has to send. HALT halts its oar: the shell's program ends with its last oar, and its shells
stay as they are while another oar has not halted. An operation of a unit that has every entry it
takes ends: it is in progress no more, its result is in scratch where it writes there (otherwise
scratch is unchanged), its flags are ORed into the oar's, and its entries stand behind what OQ1 has
to send where it sends there; with an uncorrectable word the shell stops and scratch is unchanged.
The model's readings of assumption logs 6 (bytes a result does not reach) and 78 are part of it. -/
def Obligations.OarSeatHaltAndUnitResults : Prop :=
  ∀ (s : State) (d r : Nat) (o : Oar), fabOn s = true →
    (∀ w, fires s d r o w → iClass w = 6 →
      (bits w 39 36 = 3 → ∃ t o', exec (.oarSeat d r) s = .next t
        ∧ mget t.grid.oars (oarKey d r) = some o' ∧ o'.inSeat = true ∧ o'.pc = o.pc
        ∧ (∀ q, q < 4 → imgDepth o.image q ≠ 0 → o'.iq.getD q [] = (o.iq.getD q []).drop 1)
        ∧ out1Line o' = o.oq1 ++ [none])
      ∧ (bits w 39 36 = 4 → ∃ t o', exec (.oarHalt d r) s = .next t
        ∧ mget t.grid.oars (oarKey d r) = some o' ∧ o'.halted = true
        ∧ ((∀ e ∈ shellOars s (oarKey d r / 8), e.1 ≠ oarKey d r → e.2.halted = true) →
            (shellGet t (oarKey d r / 8)).running = false)
        ∧ ((∃ e ∈ shellOars s (oarKey d r / 8), e.1 ≠ oarKey d r ∧ e.2.halted = false) →
            t.grid.shells = s.grid.shells)))
    ∧ ∀ u op, mget s.grid.oars (oarKey d r) = some o →
        o.ops.find? (fun p => p.unit = u && !p.done) = some op → (∀ n ∈ op.need, n = 0) →
        dieStopped s d = false →
      (∃ t o', exec (.oarUnitDone d r u false) s = .next t
        ∧ mget t.grid.oars (oarKey d r) = some o' ∧ o'.pc = o.pc
        ∧ (o'.ops.filter (!·.done)).map (·.word) = ((o.ops.erase op).filter (!·.done)).map (·.word)
        ∧ out1Line o' = out1Line { o with ops := o.ops.erase op }
            ++ (if sends op.word && bit (iOutq op.word) 1 then
                  (outEntries s op.word (opValue s (oarKey d r) op).1).1 else [])
        ∧ o'.flags = o.flags ||| (opValue s (oarKey d r) op).2
        ∧ (∀ n c, writesTo op.word = some (n, c) →
            t.grid.scratch = wrBytes s.grid.scratch
              (oarKey d r * 131072 + 32 * (op.addrs.getD n 0).toNat) (opValue s (oarKey d r) op).1)
        ∧ (writesTo op.word = none → t.grid.scratch = s.grid.scratch))
      ∧ ∃ t, exec (.oarUnitDone d r u true) s = .next t
        ∧ (shellGet t (oarKey d r / 8)).running = false
        ∧ stopped t (oarKey d r / 8) = true ∧ t.grid.scratch = s.grid.scratch

/-- The crew whose program an oar runs. -/
def crewOfOar (s : State) (k : Nat) : Nat := (shellGet s (k / 8)).owner.getD noCrew

/-- A credit of an input queue has passed from those on their way back to those held (R97). -/
def creditGiven (s : State) (q : Nat) : State :=
  { s with grid := { s.grid with
    owed := mset s.grid.owed q (mgetD s.grid.owed q 0 - 1), creds := mset s.grid.creds q (credsFor s q + 1) } }

/-- R90, R92 to R94, R97, R123: STEERING_MOVE under PASS moves the entry at the head of its source's
OQ1 towards the queue it names, against a credit of that queue; SELECT with an open group moves a
data entry by the group's bit in the same way and counts it against the group. The image that NEXT
names arrives in the standby buffer, marked bad where the die cannot read it or it fails the check.
CREDIT_RETURN gives a credit of a queue to its producer, which then sends what it can; a credit
above the queue's depth stops the producer's shell. The model's readings of assumption logs 79, 81
and 87 are part of it. -/
def Obligations.SteeringImagesAndCredits : Prop :=
  ∀ (s : State) (d sh : Nat), fabOn s = true →
    (∀ i e h o, i < 16 → issues s (shellKey d sh) = true → e = steerEntry s (shellKey d sh) i →
      bits e 6 3 < 8 → mget s.grid.oars (8 * shellKey d sh + bits e 6 3) = some o →
      o.oq1.head? = some h →
      (bits e 2 0 = 4 → bits e 22 17 = 63 → bits e 16 11 < 32 →
        0 < credsFor s (32 * shellKey d sh + bits e 16 11) →
        ∃ t o', exec (.steeringMove d sh i) s = .next t
          ∧ mget t.grid.oars (8 * shellKey d sh + bits e 6 3) = some o'
          ∧ out1Line o' = (out1Line o).drop 1
          ∧ credsFor t (32 * shellKey d sh + bits e 16 11)
              = credsFor s (32 * shellKey d sh + bits e 16 11) - 1)
      ∧ (∀ b x, bits e 2 0 = 1 → h = some b → x = steerGet s (shellKey d sh) i → x.left ≠ 0 →
        (if x.bit then bits e 22 17 else bits e 16 11) < 32 →
        0 < credsFor s (32 * shellKey d sh + if x.bit then bits e 22 17 else bits e 16 11) →
        ∃ t o', exec (.steeringMove d sh i) s = .next t
          ∧ mget t.grid.oars (8 * shellKey d sh + bits e 6 3) = some o'
          ∧ out1Line o' = (out1Line o).drop 1
          ∧ credsFor t (32 * shellKey d sh + if x.bit then bits e 22 17 else bits e 16 11)
              = credsFor s (32 * shellKey d sh + if x.bit then bits e 22 17 else bits e 16 11) - 1
          ∧ (steerGet t (shellKey d sh) i).left = x.left - 1
          ∧ (steerGet t (shellKey d sh) i).bit = x.bit))
    ∧ (∀ r o, mget s.grid.oars (oarKey d r) = some o → issues s (oarKey d r / 8) = true →
      o.standby = none → o.image ≠ [] →
      ∃ t o', exec (.seatImageArrival d r) s = .next t ∧ mget t.grid.oars (oarKey d r) = some o'
        ∧ o'.standby = some (rdU s (crewOfOar s (oarKey d r)) (nextImage o.image) 2432)
        ∧ (o'.standbyBad = false ↔
            dieCode s d (crewOfOar s (oarKey d r)) (nextImage o.image) 2432 = cOK
              ∧ imageGood s (oarKey d r % 8 = 0)
                  (rdU s (crewOfOar s (oarKey d r)) (nextImage o.image) 2432) = true)
        ∧ o'.image = o.image ∧ o'.pc = o.pc ∧ t = { s with grid := { s.grid with oars := t.grid.oars } })
    ∧ ∀ r q, q < 4 → 0 < mgetD s.grid.owed (qKey d r q) 0 →
      (credsFor s (qKey d r q)
          < imgDepth (mgetD s.grid.oars (qKey d r q / 4) Oar.idle).image (qKey d r q % 4) →
        (∀ k, producerOf s (qKey d r q) = some k →
          exec (.creditReturn d r q) s = .next (pumpOar (creditGiven s (qKey d r q)) k))
        ∧ (producerOf s (qKey d r q) = none →
          exec (.creditReturn d r q) s = .next (creditGiven s (qKey d r q))))
      ∧ (∀ k, imgDepth (mgetD s.grid.oars (qKey d r q / 4) Oar.idle).image (qKey d r q % 4)
            ≤ credsFor s (qKey d r q) → producerOf s (qKey d r q) = some k →
        ∃ t, exec (.creditReturn d r q) s = .next t
          ∧ (shellGet t (k / 8)).running = false ∧ stopped t (k / 8) = true)

/-- R94 to R96, R100, R124: SEAT_SWITCH, with all eight oars waiting in SEAT and their images
present and good, enters the seat of the images at pc 0 in every oar, or ends the program after its
last round; with an image among them that failed its check it stops the shell. WATCHDOG_EXPIRY stops
a shell on which an oar waits and none can fire. The model's choice of assumption log 87 (a bad
image at the last round) is part of it. -/
def Obligations.SeatsSwitchAndWatchdogStops : Prop :=
  ∀ (s : State) (d sh : Nat), fabOn s = true → issues s (shellKey d sh) = true →
    (shellGet s (shellKey d sh)).draining = false →
    (∀ seat round, (∀ j, j < 8 → ∃ o img, mget s.grid.oars (8 * shellKey d sh + j) = some o
        ∧ waitsInSeat s (8 * shellKey d sh + j, o) = true ∧ o.standby = some img ∧ o.standbyBad = false
        ∧ (sprintArmed s (shellKey d sh) = true → usesCompat img = false)
        ∧ (j = 0 → bits (fld img 0 8) 17 16 = seat)) →
      round = (shellGet s (shellKey d sh)).round + (if seat = 0 then 1 else 0) →
      (¬(seat = 0 ∧ (shellGet s (shellKey d sh)).rounds ≠ 0
          ∧ round = (shellGet s (shellKey d sh)).rounds) →
        ∃ t, exec (.seatSwitch d sh) s = .next t
          ∧ (shellGet t (shellKey d sh)).seat = seat
          ∧ (shellGet t (shellKey d sh)).round = round % 65536
          ∧ ∀ j, j < 8 → ∃ o', mget t.grid.oars (8 * shellKey d sh + j) = some o'
              ∧ o'.pc = 0 ∧ o'.inSeat = false ∧ o'.halted = false ∧ o'.standby = none
              ∧ (mget s.grid.oars (8 * shellKey d sh + j)).bind (·.standby) = some o'.image)
      ∧ (seat = 0 → (shellGet s (shellKey d sh)).rounds ≠ 0 →
          round = (shellGet s (shellKey d sh)).rounds →
        ∃ t, exec (.seatSwitch d sh) s = .next t
          ∧ (shellGet t (shellKey d sh)).running = false))
    ∧ ((shellOars s (shellKey d sh)).length = 8 →
      (∀ e ∈ shellOars s (shellKey d sh), waitsInSeat s e = true ∧ e.2.standby.isSome = true) →
      (∃ e ∈ shellOars s (shellKey d sh), e.2.standbyBad = true) →
      ∃ t, exec (.seatSwitch d sh) s = .next t
        ∧ (shellGet t (shellKey d sh)).running = false ∧ stopped t (shellKey d sh) = true)
    ∧ ((∃ e ∈ shellOars s (shellKey d sh), waiting s e = true) →
      (∀ e ∈ shellOars s (shellKey d sh), canFire s e = false) → rf s .grid d 0x04C 15 0 ≠ 0 →
      ∃ t, exec (.watchdogExpiry d sh) s = .next t
        ∧ (shellGet t (shellKey d sh)).running = false ∧ stopped t (shellKey d sh) = true)

/-- R102 to R105: DRAIN marks the selected shells that are neither stopped nor frozen, unless one is
sprint-armed, which refuses it as a whole; DRAIN_COMPLETE freezes the draining shells once all are
quiet; DRAIN_TIMEOUT stops those that are not; RESUME lets drained shells go on; SNAP copies the
probed oar's 17 counters; CTRL.CLR zeros the counters of the die's oars. The model's readings of
assumption logs 20, 36 and 88 are part of it. -/
def Obligations.DrainsFreezeAndResumeShells : Prop :=
  ∀ (s : State) (p : Port) (d : Nat), d < 8 → pageOpen s .grid d →
    ((∀ k ∈ selected s d, sprintArmed s k = false) →
      ∃ t, exec (.drain p d) s = .next t ∧ rg t .grid d 0x044 = 1
        ∧ (∀ k ∈ selected s d, stopped s k = false → (shellGet s k).frozen = false →
            shellGet t k = { shellGet s k with draining := true })
        ∧ ∀ k, k ∉ selected s d → shellGet t k = shellGet s k)
    ∧ ((∃ k ∈ selected s d, sprintArmed s k = true) →
      ∃ t, exec (.drain p d) s = .next t ∧ t.grid = s.grid
        ∧ rg t .grid d 0x044 = rg s .grid d 0x044)
    ∧ (rf s .grid d 0x044 0 0 = 1 →
      ((∀ k ∈ drainingShells s d, quiet s k = true) →
        ∃ t, exec (.drainComplete d) s = .next t ∧ rg t .grid d 0x044 = 2
          ∧ ∀ k ∈ drainingShells s d, shellGet t k = { shellGet s k with
              draining := false, drained := true, frozen := true })
      ∧ ((∃ k ∈ drainingShells s d, quiet s k = false) →
        ∃ t, exec (.drainTimeout d) s = .next t ∧ rg t .grid d 0x044 = 0
          ∧ ∀ k ∈ drainingShells s d, quiet s k = false →
              stopped t k = true ∧ (shellGet t k).running = false))
    ∧ (∃ t, exec (.resume p d) s = .next t
        ∧ ∀ k ∈ selected s d, (shellGet s k).drained = true → stopped s k = false →
            shellGet t k = { shellGet s k with drained := false, frozen := false })
    ∧ (∀ o, mget s.grid.oars (oarKey d (rf s .grid d 0x050 10 0)) = some o →
      ∃ t, exec (.snap p d) s = .next t
        ∧ (∀ j, j < 17 → rg t .grid d (0x100 + 4 * j) = o.ctr.getD j 0 % 2 ^ 32)
        ∧ t = { s with regs := t.regs })
    ∧ ∃ t, exec (.gridClr p d) s = .next t
        ∧ (∀ k o, k / 2048 = d → mget s.grid.oars k = some o →
            mget t.grid.oars k = some { o with ctr := List.replicate 17 0 })
        ∧ (∀ k, k / 2048 ≠ d → mget t.grid.oars k = mget s.grid.oars k)
        ∧ t = { s with grid := { s.grid with oars := t.grid.oars } }

/-- A command that is ready in its slot, of an opcode, of a crew not in reset, and the next of its SQ to
start (R281, R283, R298). -/
def commandReady (s : State) (i op : Nat) (c : Slot) : Prop :=
  fabOn s = true ∧ slotGet s i = some c ∧ c.phase = .ready ∧ fld c.cmd 0 1 = op
    ∧ resetting s c.crew = false ∧ startsLater s c = false

/-- A command has ended with a status; its record is not yet written. -/
def endedWith (t : State) (i status : Nat) : Prop :=
  ∃ c, slotGet t i = some c ∧ c.phase = .ended ∧ c.status = status

/-- R286, R94, R167: PROG_START takes the selected shells for the crew and enters seat 0 of their
good images; TABLE_LOAD puts a good table image into a slot of the selected shells' oars, live at
once where no program runs. The model's readings of assumption logs 68 and 69 are part of it. -/
def Obligations.ProgramsStartAndTablesLoad : Prop :=
  ∀ (s : State) (i : Nat) (c : Slot),
    (commandReady s i 0x01 c → quietHeld s c.crew (bits (fld c.cmd 16 1) 2 0) = false →
      dieStopped s (bits (fld c.cmd 16 1) 2 0) = false →
      (∀ k, k < 256 → bit (fld c.cmd 32 32) k = true →
        (shellGet s (shellKey (bits (fld c.cmd 16 1) 2 0) k)).running = false
        ∧ stopped s (shellKey (bits (fld c.cmd 16 1) 2 0) k) = false
        ∧ nearCode s c.crew (fld c.cmd 24 8 + 19456 * k) 19456 = cOK
        ∧ ∀ j, j < 8 →
            imageGood s (j = 0) (rdU s c.crew (fld c.cmd 24 8 + 2432 * (8 * k + j)) 2432) = true
            ∧ (sprintArmed s (shellKey (bits (fld c.cmd 16 1) 2 0) k) = true →
                usesCompat (rdU s c.crew (fld c.cmd 24 8 + 2432 * (8 * k + j)) 2432) = false)) →
      shellsUsed s c.crew + (onesOf (fld c.cmd 32 32) 256).length ≤ quota s c.crew 0 →
      ∃ t, exec (.progStart i) s = .next t
        ∧ ∀ k, k < 256 → bit (fld c.cmd 32 32) k = true →
            (shellGet t (shellKey (bits (fld c.cmd 16 1) 2 0) k)).running = true
            ∧ (shellGet t (shellKey (bits (fld c.cmd 16 1) 2 0) k)).slot = some i
            ∧ (shellGet t (shellKey (bits (fld c.cmd 16 1) 2 0) k)).owner = some c.crew
            ∧ (shellGet t (shellKey (bits (fld c.cmd 16 1) 2 0) k)).round = 0)
    ∧ (commandReady s i 0x70 c → dieStopped s (bits (fld c.cmd 16 1) 6 4) = false →
      (∀ k, k < 256 → bit (fld c.cmd 32 32) k = true →
        (shellGet s (shellKey (bits (fld c.cmd 16 1) 6 4) k)).running = false) →
      nearCode s c.crew (fld c.cmd 24 8) 3136 = cOK →
      tableCheck (rdU s c.crew (fld c.cmd 24 8) 3136) = none →
      ∃ t, exec (.tableLoad i) s = .next t ∧ endedWith t i cOK
        ∧ ∀ k j, k < 256 → j < 8 → bit (fld c.cmd 32 32) k = true →
            ∃ o, mget t.grid.oars (8 * shellKey (bits (fld c.cmd 16 1) 6 4) k + j) = some o
              ∧ mget o.tables (bits (fld c.cmd 16 1) 1 0)
                  = some (rdU s c.crew (fld c.cmd 24 8) 3136))

/-- The list at place `n` of a die's engine can send or store its next unit, of the tile `x`, and has the
turn; no fault meets it (R110, R123). -/
def listGoes (s : State) (d n : Nat) (l : XList) (x : XDesc) : Prop :=
  fabOn s = true ∧ n < 64 ∧ mget s.tile.lists (64 * d + n) = some l
    ∧ x = tileOf s l.crew (listDesc s l) l.tile ∧ listReady s (64 * d + n) l = true
    ∧ listTurn s (64 * d + n) = true ∧ (unitCode s d l).1 = cOK

/-- R110 to R115, R119: XFER starts a list on a free place of a die's engine; XFER_UNIT sends one
data unit of a fetch list to its queue against a credit, into the station's queue of the package
network; STORE_UNIT writes one entry of its source oar's OQ0 into the object and takes it from OQ0.
Both run for a list whose turn it is, with another unit of the tile to follow; the turn then passes
to the list behind it. CACHE_LINE_FILL puts a missed line of T2 in front of its set of the die's
cache, whose least recently used line leaves where the set is full, or only ends the miss where no
line is free or the line lies in T2 no more. The model's readings of assumption logs 6 and 79 are
part of it. -/
def Obligations.TransferListsMoveUnits : Prop :=
  (∀ (s : State) (i : Nat) (c : Slot) (d j : Nat), commandReady s i 0x10 c →
    d = bits (fld c.cmd 16 1) 2 0 → quietHeld s c.crew d = false → dieStopped s d = false →
    (s.tile.lists.filter fun e => e.1 / 64 = d).length < 64 →
    (List.range 64).find? (fun j => (mget s.tile.lists (64 * d + j)).isNone) = some j →
    dieCode s d c.crew (fld c.cmd 24 8) (64 * fld c.cmd 32 4) = cOK → fld c.cmd 32 4 ≠ 0 →
    ∃ t, exec (.xfer i) s = .next t
      ∧ mget t.tile.lists (64 * d + j) = some ⟨c.crew, i, fld c.cmd 24 8, fld c.cmd 32 4, 0, 0, 0⟩
      ∧ (∀ k, k ≠ 64 * d + j → mget t.tile.lists k = mget s.tile.lists k) ∧ SameMemories s t)
  ∧ (∀ (s : State) (d n : Nat) (l : XList) (x : XDesc), listGoes s d n l x → l.unit + 1 < x.allUnits →
    (∀ a b o q, x.store = false → parseRoute x.dest = .one d a b o q →
      ∃ t pkt, exec (.xferUnit d n false) s = .next t
        ∧ mget t.tile.lists (64 * d + n) = some { l with unit := l.unit + 1 }
        ∧ mgetD t.tile.turn d 0 = (n + 1) % 64
        ∧ mgetD t.net.queues (inQ d 3) [] = mgetD s.net.queues (inQ d 3) [] ++ [pkt]
        ∧ pkt.cmd = 0x00 ∧ pkt.dest = ⟨d, a, b, o, q⟩ ∧ pkt.data = fetchUnit s l.crew x l.unit
        ∧ credsFor t (qKey d (8 * (16 * b + a) + o) q)
            = credsFor s (qKey d (8 * (16 * b + a) + o) q) - 1
        ∧ SameMemories s t)
    ∧ ∀ k o b r, x.store = true → storeSrc d x = some k → mget s.grid.oars k = some o →
      o.oq0 = some b :: r →
      ∃ t o', exec (.storeUnit d n) s = .next t
        ∧ mget t.tile.lists (64 * d + n) = some { l with unit := l.unit + 1 }
        ∧ mgetD t.tile.turn d 0 = (n + 1) % 64
        ∧ mget t.grid.oars k = some o'
        ∧ o'.oq0 ++ o'.ops.flatMap (·.out0) = r ++ o.ops.flatMap (·.out0)
        ∧ t.tier.data = (storeUnit s l.crew x l.unit b).tier.data
        ∧ SameBytes s.grid.scratch t.grid.scratch ∧ SameBytes s.host.mem t.host.mem)
  ∧ ∀ (s : State) (d crew a : Nat), fabOn s = true → dieStopped s d = false →
    lineKey crew a ∈ mgetD s.tile.missed d [] →
    (tierAt s crew a = 2 → cacheWays s d ≠ 0 →
      exec (.cacheLineFill d crew a) s = .next { s with tile := { s.tile with
        missed := mset s.tile.missed d ((mgetD s.tile.missed d []).erase (lineKey crew a))
        cache := mset s.tile.cache d
          (lineKey crew a :: (setLines s d (lineKey crew a)).take (cacheWays s d - 1)
            ++ (mgetD s.tile.cache d []).filter fun y => lineSet y != lineSet (lineKey crew a)) } })
    ∧ (tierAt s crew a ≠ 2 ∨ cacheWays s d = 0 →
      exec (.cacheLineFill d crew a) s = .next { s with tile := { s.tile with
        missed := mset s.tile.missed d ((mgetD s.tile.missed d []).erase (lineKey crew a)) } })

/-- R205 to R208, R285, R296: ALLOC places an object that reads as zero and leaves every other byte
of an object as it was; FREE of an object that is neither migrating nor being freed has it wait for
its readers, and SOURCE_RELEASE then removes it and ends the FREE; MIGRATE of an idle object that is
not pinned begins a copy, by the tier engine where T3 or T4 takes part; MIGRATION_COPY_DONE switches
the object to its destination in one step and ends the MIGRATE, and SOURCE_RELEASE, once no earlier
reader is left, makes the object idle with its source gone. The model's readings of assumption logs
6, 66 and 69 are part of it. -/
def Obligations.ObjectsAreAllocatedFreedAndMigrated : Prop :=
  ∀ (s : State) (i : Nat),
    (∀ c obj, commandReady s i 0x30 c → obj = bits (fld c.cmd 16 3) 19 0 → obj < objCount s c.crew →
      mget s.tier.objs (objKey c.crew obj) = none →
      placeCode s c.crew (bits (fld c.cmd 20 1) 2 0) (bits (fld c.cmd 20 1) 6 4)
        (units (65536 * units (fld c.cmd 24 8))) = cOK →
      ∃ t o, exec (.alloc i) s = .next t ∧ endedWith t i cOK ∧ objGet t c.crew obj = some o
        ∧ o.state = 0 ∧ o.tier = bits (fld c.cmd 20 1) 2 0 ∧ o.die = bits (fld c.cmd 20 1) 6 4
        ∧ o.size = 65536 * units (fld c.cmd 24 8) ∧ o.pin = bit (fld c.cmd 20 1) 3
        ∧ (∀ a, a < 2 ^ 40 → rdB t.tier.data (uKey c.crew (obj * 2 ^ 40) + a) = 0)
        ∧ ∀ a, a < uKey c.crew (obj * 2 ^ 40) ∨ uKey c.crew (obj * 2 ^ 40) + 2 ^ 40 ≤ a →
            rdB t.tier.data a = rdB s.tier.data a)
    ∧ (∀ c obj o, commandReady s i 0x31 c → obj = bits (fld c.cmd 16 3) 19 0 →
      objGet s c.crew obj = some o → o.state ≠ 1 → o.state ≠ 3 →
      ∃ t, exec (.free i) s = .next t
        ∧ objGet t c.crew obj = some { o with state := 3, slot := some i, waitOn := o.readers }
        ∧ SameMemories s t)
    ∧ (∀ c obj o w, commandReady s i 0x32 c → obj = bits (fld c.cmd 16 3) 19 0 →
      w = fld c.cmd 20 1 → objGet s c.crew obj = some o → o.state = 0 → o.pin = false →
      placeCode s c.crew (bits w 2 0) (bits w 6 4) (units o.size) = cOK →
      (bits w 2 0 = 4 → rf s .tier 0 0x044 0 0 = 0) →
      onChannels (bits w 2 0) (chDown s (bits w 2 0)) 0 o.size = false →
      onChannels o.tier (chDown s o.tier) 0 o.size = false →
      ∃ t n, exec (.migrate i) s = .next t
        ∧ objGet t c.crew obj = some { o with
            state := 1, dest := n, destTier := bits w 2 0, destDie := bits w 6 4, switched := false
            slot := some i }
        ∧ (3 ≤ bits w 2 0 ∨ 3 ≤ o.tier → t.tier.reqs = s.tier.reqs ++
            [⟨i, c.crew, .migrate, obj * 2 ^ 40, obj * 2 ^ 40, o.size, 0, 0, none, [], none⟩])
        ∧ SameMemories s t)
    ∧ (∀ k o c, fabOn s = true → slotObj s i = some (k, o) → o.state = 1 → o.switched = false →
      (∀ r ∈ s.tier.reqs, r.slot = i → r.stray.isSome = true ∨ reqDone s r = true) →
      slotGet s i = some c → c.phase = .running → resetting s c.crew = false →
      ∃ t o', exec (.migrationCopyDone i) s = .next t ∧ endedWith t i cOK
        ∧ mget t.tier.objs k = some o' ∧ o'.loc = o.dest ∧ o'.tier = o.destTier ∧ o'.die = o.destDie
        ∧ o'.switched = true ∧ o'.oldLoc = o.loc ∧ o'.oldTier = o.tier ∧ o'.oldDie = o.die
        ∧ o'.slot = none ∧ o'.waitOn = o.readers.filter (· != i) ∧ SameMemories s t)
    ∧ ∀ crew obj o c, fabOn s = true → mget s.tier.objs (objKey crew obj) = some o → o.waitOn = [] →
      (o.state = 3 → o.slot = some i → slotGet s i = some c → c.phase = .running →
        resetting s c.crew = false →
        ∃ t, exec (.sourceRelease crew obj) s = .next t
          ∧ mget t.tier.objs (objKey crew obj) = none ∧ endedWith t i cOK ∧ SameMemories s t)
      ∧ (o.state = 1 → o.switched = true →
        exec (.sourceRelease crew obj) s = .next { s with tier := { s.tier with
          objs := mset s.tier.objs (objKey crew obj) { o with state := 0, switched := false, dest := 0 } } })

/-- R210, R277, R285, R286: TIER_COPY between near objects moves its bytes in one command, and where
T3 or T4 takes part becomes a transfer; a TIER_REPLY that is due answers one request of its
transfer, and the one that answers the last request of a copy moves the bytes and ends the command.
HOST_COPY moves bytes between a near object and host memory in one command, and with T3 or T4
becomes a transfer too. No other byte of object or host memory changes. The model's readings of
assumption log 89 are part of it. -/
def Obligations.CopiesMoveTheirBytesOnly : Prop :=
  (∀ (s : State) (i : Nat) (c : Slot) (a b n : Nat), commandReady s i 0x33 c →
    a = fld c.cmd 24 8 → b = fld c.cmd 32 8 → n = fld c.cmd 40 8 →
    accessCode s c.crew a 0 = cOK → destCode s c.crew b n = cOK →
    reach s c.crew a n = n → reach s c.crew b n = n →
    accessCode s c.crew a n ≠ cTFAIL → storeCode s c.crew b n ≠ cTFAIL →
    (tierAt s c.crew a < 3 → tierAt s c.crew b < 3 →
      ∃ t, exec (.tierCopy i) s = .next t ∧ endedWith t i cOK
        ∧ (a + n ≤ b ∨ b + n ≤ a → rdU t c.crew b n = rdU s c.crew a n)
        ∧ (∀ x, x < uKey c.crew b ∨ uKey c.crew b + n ≤ x →
            rdB t.tier.data x = rdB s.tier.data x)
        ∧ SameBytes s.host.mem t.host.mem ∧ SameBytes s.grid.scratch t.grid.scratch)
    ∧ (3 ≤ tierAt s c.crew a ∨ 3 ≤ tierAt s c.crew b → 0 < n →
      ∃ t, exec (.tierCopy i) s = .next t ∧ SameMemories s t
        ∧ t.tier.reqs = s.tier.reqs ++ [⟨i, c.crew, .copy, a, b, n, 0, 0, none, [], none⟩]))
  ∧ (∀ (s : State) (i : Nat) (w : Bool) (unit : Nat) (r r' : TierReq), fabOn s = true →
    s.tier.reqs.find? (fun r => r.slot = i && r.stray.isNone) = some r →
    replyDue s r w unit = true → pieceCode s r = cOK →
    r' = (if w then { r with writes := r.writes + 1 } else { r with reads := r.reads + 1 }) →
    (reqDone s r' = false → exec (.tierReply i w unit false) s = .next { s with tier := { s.tier with
        reqs := s.tier.reqs.map fun q => if q = r then r' else q } })
    ∧ ∀ c, reqDone s r' = true → r.kind = .copy → r.short = none → slotGet s i = some c →
      c.phase = .running → resetting s c.crew = false →
      ∃ t, exec (.tierReply i w unit false) s = .next t ∧ endedWith t i cOK
        ∧ (r.src + r.len ≤ r.dst ∨ r.dst + r.len ≤ r.src →
            rdU t r.crew r.dst r.len = rdU s r.crew r.src r.len)
        ∧ (∀ x, x < uKey r.crew r.dst ∨ uKey r.crew r.dst + r.len ≤ x →
            rdB t.tier.data x = rdB s.tier.data x)
        ∧ SameBytes s.host.mem t.host.mem ∧ SameBytes s.grid.scratch t.grid.scratch)
  ∧ ∀ (s : State) (i : Nat) (c : Slot) (a h n : Nat) (data : List Byte), commandReady s i 0x37 c →
    a = fld c.cmd 24 8 → h = fld c.cmd 32 8 → n = fld c.cmd 40 8 → reach s c.crew a n = n →
    (bit (fld c.cmd 16 1) 0 = true → accessCode s c.crew a 0 = cOK → accessCode s c.crew a n ≠ cTFAIL →
      (tierAt s c.crew a < 3 →
        ∃ t, exec (.hostCopy i data) s = .next t ∧ endedWith t i cOK
          ∧ rdBytes t.host.mem h n = rdU s c.crew a n
          ∧ (∀ x, x < h ∨ h + n ≤ x → rdB t.host.mem x = rdB s.host.mem x)
          ∧ SameBytes s.tier.data t.tier.data)
      ∧ (3 ≤ tierAt s c.crew a → 0 < n →
        ∃ t, exec (.hostCopy i data) s = .next t ∧ SameMemories s t
          ∧ t.tier.reqs = s.tier.reqs ++ [⟨i, c.crew, .hostOut, a, h, n, 0, 0, none, [], none⟩]))
    ∧ (bit (fld c.cmd 16 1) 0 = false → destCode s c.crew a n = cOK → storeCode s c.crew a n ≠ cTFAIL →
      data.length = n →
      (tierAt s c.crew a < 3 →
        ∃ t, exec (.hostCopy i data) s = .next t ∧ endedWith t i cOK
          ∧ rdU t c.crew a n = data
          ∧ (∀ x, x < uKey c.crew a ∨ uKey c.crew a + n ≤ x → rdB t.tier.data x = rdB s.tier.data x)
          ∧ SameBytes s.host.mem t.host.mem)
      ∧ (3 ≤ tierAt s c.crew a → 0 < n →
        ∃ t, exec (.hostCopy i data) s = .next t ∧ SameMemories s t
          ∧ t.tier.reqs = s.tier.reqs ++ [⟨i, c.crew, .hostIn, h, a, n, 0, 0, none, data, none⟩]))

/-- R212, R213, R219, R220, R426: TIER_TIMER_EXPIRY ends a command whose transfer's timer runs with
TIER_LATE; a reply that a command left outstanding is discarded and counted; a read of a copy that
the loom or a channel could not correct ends the command with TIER_FAIL and poisons its source;
CHANNEL_OUT_OF_SERVICE marks the channel and counts it. In a slot of their own (R428) wear levelling and read-disturb refresh move
a block's data and erase the block left; a program failure moves its data to a spare and retires it,
and with the last spare T4 becomes read-only. The model's readings of assumption logs 73, 77 and 89 are
part of it. -/
def Obligations.LateTiersAndTheLoom : Prop :=
  ∀ s : State, fabOn s = true →
    (∀ i c r, r ∈ s.tier.reqs → r.slot = i → r.stray = none → timed s r = true → reqDone s r = false →
      slotGet s i = some c → c.phase = .running → resetting s c.crew = false →
      ∃ t, exec (.tierTimerExpiry i) s = .next t ∧ endedWith t i cTLATE ∧ SameMemories s t
        ∧ rg t .tier 0 0x500 = satAdd 32 (rg s .tier 0 0x500) 1)
    ∧ (∀ i w unit bad r rest k ch, s.tier.reqs = r :: rest → r.slot = i →
      r.stray = some [(k * 32 + ch, 1)] → (∀ q ∈ rest, q.slot ≠ i) → ch < 32 →
      unit % (stripe k).2 = ch →
      ∃ t, exec (.tierReply i w unit bad) s = .next t
        ∧ rg t .tier 0 0x504 = satAdd 32 (rg s .tier 0 0x504) 1
        ∧ t = { s with regs := t.regs, tier := { s.tier with reqs := rest } })
    ∧ (∀ i unit r c, s.tier.reqs.find? (fun r => r.slot = i && r.stray.isNone) = some r →
      r.kind = .copy → replyDue s r false unit = true → slotGet s i = some c → c.phase = .running →
      resetting s c.crew = false →
      ∃ t, exec (.tierReply i false unit true) s = .next t ∧ endedWith t i cTFAIL ∧ SameMemories s t
        ∧ ∀ o, objGet s r.crew (uObj r.src) = some o → o.state = 0 →
            ∃ o', objGet t r.crew (uObj r.src) = some o' ∧ o'.state = 2)
    ∧ (∀ k ch, 2 ≤ k → k ≤ 4 → ch < (stripe k).2 → bit (chDown s k) ch = false →
      ∃ t, exec (.channelOutOfService k ch) s = .next t ∧ bit (chDown t k) ch = true
        ∧ rg t .tier 0 0x50C = satAdd 32 (rg s .tier 0 0x50C) 1 ∧ SameMemories s t)
    ∧ (∀ worn least ch tm, slotMay s 6 ch = true → lowestErases s + 256 < (blockGet s worn).erases →
      (blockGet s least).erases = lowestErases s → (blockGet s least).bad = false →
      least < s.tier.rawBlocks → blockFree s worn = true →
      ∃ t, exec (.loomWearLevelling worn least ch tm) s = .next t
        ∧ blockGet t worn = { blockGet s worn with holds := (blockGet s least).holds }
        ∧ blockGet t least = { blockGet s least with
            holds := none, erases := (blockGet s least).erases + 1 }
        ∧ rg t .tier 0 0x05C = min 65535 (wearSpread t) ∧ mgetD t.back.last (actKey 6 ch) 0 = tm
        ∧ SameMemories s t)
    ∧ (∀ b f reads corr ch tm, slotMay s 5 ch = true → rf s .tier 0 0x050 23 0 ≤ reads ∨ 90 ≤ corr → (blockGet s b).bad = false →
      blockFree s f = true → b ≠ f →
      ∃ t, exec (.loomReadDisturbRefresh b f reads corr ch tm) s = .next t
        ∧ blockGet t f = { blockGet s f with holds := (blockGet s b).holds }
        ∧ blockGet t b = { blockGet s b with holds := none, erases := (blockGet s b).erases + 1 }
        ∧ rg t .tier 0 0x524 = satAdd 32 (rg s .tier 0 0x524) 1
        ∧ mgetD t.back.last (actKey 5 ch) 0 = tm)
    ∧ ∀ b sp, (blockGet s b).bad = false → blockFree s sp = true → b ≠ sp → 0 < rg s .tier 0 0x058 →
      ∃ t, exec (.loomProgramFail b sp) s = .next t
        ∧ blockGet t b = { blockGet s b with bad := true, holds := none }
        ∧ blockGet t sp = { blockGet s sp with holds := (blockGet s b).holds }
        ∧ rg t .tier 0 0x058 = (rg s .tier 0 0x058 - 1) % 2 ^ 32
        ∧ rg t .tier 0 0x528 = satAdd 32 (rg s .tier 0 0x528) 1
        ∧ (rg s .tier 0 0x058 = 1 → rf t .tier 0 0x044 0 0 = 1)

/-- R182, R186, R190, R194: ATTN puts a list on a free pipeline, its shell then its crew's;
PASS_START of a descriptor without a fault begins the pass from the buffer loaded ahead or from the
oar's scratch, and counts it; while a pass runs it loads the other buffer with the next
descriptor's; with a bad descriptor it ends the command with CONFIG. PASS_COMPLETE of a pass whose
walks are done goes on with the next descriptor, an ACCUM pass having stored the records of its
lines, or ends the command after the last. The model's readings of assumption logs 63, 69 and 95 are
part of it. -/
def Obligations.AttentionPassesRun : Prop :=
  (∀ (s : State) (i : Nat) (c : Slot) (k : Nat), commandReady s i 0x20 c →
    k = shellKey (bits (fld c.cmd 16 1) 2 0) (fld c.cmd 17 1) → quietHeld s c.crew (k / 256) = false →
    attnGet s k = none → (shellGet s k).running = false → dieStopped s (k / 256) = false →
    nearCode s c.crew (fld c.cmd 24 8) (64 * fld c.cmd 32 2) = cOK → fld c.cmd 32 2 ≠ 0 →
    ∃ t, exec (.attn i) s = .next t
      ∧ attnGet t k = some
          { crew := c.crew, slot := i, addr := fld c.cmd 24 8, count := fld c.cmd 32 2, index := 0
            started := false, qbuf := [], acc := [], bolts := [], slices := [], tiles := 0
            failed := none, flags := 0, other := none }
      ∧ (shellGet t k).owner = some c.crew ∧ SameBytes s.tier.data t.tier.data)
  ∧ ∀ (s : State) (d sh : Nat) (l : AttnList) (p : Pass), fabOn s = true →
    attnGet s (shellKey d sh) = some l → p = attnDesc s l → dieStopped s d = false →
    (l.started = false → resetting s l.crew = false →
      (passFault s d l.crew p = none → sh < 256 →
        ∃ t l', exec (.passStart d sh) s = .next t ∧ attnGet t (shellKey d sh) = some l'
          ∧ l'.started = true ∧ l'.index = l.index ∧ l'.tiles = 0 ∧ l'.other = none
          ∧ (l.other = none → l'.qbuf =
              rdScratch s (8 * shellKey d sh + p.oar) ((p.qunit : Nat) : Int) (queryUnits p))
          ∧ (∀ x, l.other = some x → x.desc = attnBytes s l l.index →
              l'.qbuf = x.query ∧ l'.acc = x.recs)
          ∧ (d < 8 → rg t .attn 0 (0x100 + 0x10 * d)
              = satAdd 32 (rg s .attn 0 (0x100 + 0x10 * d)) 1)
          ∧ SameMemories s t)
      ∧ (passBad s l.crew p = true → ∀ c, slotGet s l.slot = some c → c.phase = .running →
        resetting s c.crew = false →
        ∃ t, exec (.passStart d sh) s = .next t ∧ attnGet t (shellKey d sh) = none
          ∧ endedWith t l.slot cCONFIG))
    ∧ (∀ q, l.started = true → resetting s l.crew = false → l.other = none → l.index + 1 < l.count →
      q = parsePass (attnBytes s l (l.index + 1)) → sh < 256 → passFault s d l.crew q = none →
      loadsAhead p q = true →
      exec (.passStart d sh) s = .next (attnSet s (shellKey d sh) { l with
        other := some (passLoad s (shellKey d sh) l.crew (attnBytes s l (l.index + 1)) q) }))
    ∧ (l.started = true → l.bolts = [] → l.failed = none → (p.mode = 2 → l.slices.length ≤ l.tiles) →
      (l.index + 1 < l.count →
        ∃ t l', exec (.passComplete d sh) s = .next t ∧ attnGet t (shellKey d sh) = some l'
          ∧ l'.index = l.index + 1 ∧ l'.started = false
          ∧ (p.mode = 0 → ∀ i, i < p.lines → (lineOf s l.crew p i).isSome = true →
              rdScratch t (8 * shellKey d sh + p.oar) ((p.aunit + i * accUnits p : Nat) : Int) (accUnits p)
                = slice ((runLine s p l i).1.flatMap fun w => toLE w.toNat 4) 0 (32 * accUnits p))
          ∧ SameBytes s.tier.data t.tier.data)
      ∧ (l.count ≤ l.index + 1 → ∀ c, slotGet s l.slot = some c → c.phase = .running →
        resetting s c.crew = false →
        ∃ t, exec (.passComplete d sh) s = .next t ∧ attnGet t (shellKey d sh) = none
          ∧ endedWith t l.slot cOK ∧ SameBytes s.tier.data t.tier.data))

/-- Where element j of line i of the next probability tile of a pass stands in scratch (R107, R193). -/
def tileByte (d sh : Nat) (p : Pass) (l : AttnList) (i j : Nat) : Nat :=
  (8 * shellKey d sh + p.oar) * 131072 + 32 * (p.ounit + l.tiles % 2 * tileRowUnits p)
    + (panelAt (fmtWidth p.ofmt) 256 i j).1 + (panelAt (fmtWidth p.ofmt) 256 i j).2 / 8

/-- R193, R214 to R217: PROBABILITY_TILE_WRITE writes the next tile of a backward pass, every
probability in its place, and puts the base position of the tile into IQ3 of the pass's oar against
a credit; WALK_COMPLETE puts the walked bolt in the shell's look-aside buffer, or leaves the pass
failed; BOLT_INVAL takes the matching entries out of every buffer. The model's readings of
assumption logs 63 and 84 are part of it. -/
def Obligations.WalksTilesAndLookAside : Prop :=
  (∀ (s : State) (d sh : Nat) (l : AttnList) (p : Pass), fabOn s = true →
    attnGet s (shellKey d sh) = some l → p = attnDesc s l → dieStopped s d = false →
    l.started = true → resetting s l.crew = false →
    (∀ o r q, p.mode = 2 → q = 4 * (8 * shellKey d sh + p.oar) + 3 →
      mget s.grid.oars (8 * shellKey d sh + p.oar) = some o → o.iq.getD 3 [] = [] →
      l.slices[l.tiles]? = some r → 0 < credsFor s q → p.ofmt < 3 → p.lines ≤ 16 →
      ∃ t l', exec (.probabilityTileWrite d sh) s = .next t ∧ attnGet t (shellKey d sh) = some l'
        ∧ l'.tiles = l.tiles + 1 ∧ l'.acc = l.acc ∧ credsFor t q = credsFor s q - 1
        ∧ (∀ i j, i < p.lines → j < 256 →
            rdBytes t.grid.scratch (tileByte d sh p l i j) (fmtWidth p.ofmt / 8)
              = toLE (probOf s p l r (rdU s l.crew r.addr (sliceBytes p)) i j).1 (fmtWidth p.ofmt / 8))
        ∧ (o.iq.length = 4 → o.ops = [] → imgDepth o.image 3 ≠ 0 →
            ∃ o', mget t.grid.oars (8 * shellKey d sh + p.oar) = some o'
              ∧ o'.iq.getD 3 [] = [some (slice (toLE r.base 5) 0 32)])
        ∧ SameBytes s.tier.data t.tier.data)
    ∧ ∀ b r, l.bolts = b :: r →
      (∀ a, walkBolt s d l.crew (b / 2 ^ 32) (b % 2 ^ 32) p.kvhead (sliceBytes p) = .inl a →
        ∃ t e, exec (.walkComplete d sh (b % 2 ^ 32)) s = .next t
          ∧ e ∈ mgetD t.att.lab (shellKey d sh) [] ∧ e.crew = l.crew ∧ e.stream = b / 2 ^ 32
          ∧ e.bolt = b % 2 ^ 32 ∧ e.addr = a ∧ SameMemories s t)
      ∧ ∀ e, walkBolt s d l.crew (b / 2 ^ 32) (b % 2 ^ 32) p.kvhead (sliceBytes p) = .inr e →
        ∃ t, exec (.walkComplete d sh (b % 2 ^ 32)) s = .next t
          ∧ attnGet t (shellKey d sh) = some { l with bolts := [], failed := some e }
          ∧ SameMemories s t)
  ∧ ∀ (s : State) (i : Nat) (c : Slot), commandReady s i 0x36 c →
    streamGet s c.crew (fld c.cmd 16 2) ≠ none →
    ∃ t, exec (.boltInval i) s = .next t ∧ endedWith t i cOK
      ∧ (∀ k e, e ∈ mgetD t.att.lab k [] ↔ e ∈ mgetD s.att.lab k [] ∧
          ¬(e.crew = c.crew ∧ e.stream = fld c.cmd 16 2 ∧ fld c.cmd 24 8 ≤ e.bolt
            ∧ e.bolt < fld c.cmd 24 8 + fld c.cmd 32 8))
      ∧ SameMemories s t

/-- One link credit of a queue has returned (R229). -/
def linkCredit (s : State) (q : Nat) : State :=
  { s with net := { s.net with used := mset s.net.used q (mgetD s.net.used q 0 - 1) } }

/-- R225, R227 to R230, R233, R234: MESH_HOP takes the packet at the head of a router's queue one
hop, where the shares of the virtual channels let it go, to the next router's queue with room for
it, or to its unit where the domain runs; it wakes a domain that sleeps, the packet counted as held
once. At a ring station it gives a packet from the ring to its unit there. RING_HOP takes one from
the station onto the shorter ring, DL set where it crosses the dateline, or to the station of its
die. LINK_CREDIT_RETURN gives one credit back, and a packet that waited for it at its unit enters.
The model's readings of assumption logs 70, 84 and 92 are part of it. -/
def Obligations.PacketsHopThroughTheNetwork : Prop :=
  ∀ s : State, fabOn s = true →
    (∀ d r inp vc p o, r < 256 → inp < 5 → vc < 5 → p.vc = vc → dieStopped s d = false →
      headQ s (meshQ d r inp vc) = some p → badRoute p = false → p.mc = false →
      o = meshDir s d r p →
      ((shellGet s (shellKey d r)).power = .run ∨ o ≠ 4 →
        shareOk s (meshOut d r o) vc (flitsOf p) (meshCands s d r [o]) = true) →
      (o ≠ 4 → ¬(o = 1 ∧ r / 16 = 15) → roomQ s (behind d r o vc) p = true →
        ∃ t, exec (.meshHop d r inp vc 0) s = .next t
          ∧ mgetD t.net.queues (meshQ d r inp vc) []
              = (mgetD s.net.queues (meshQ d r inp vc) []).drop 1
          ∧ mgetD t.net.queues (behind d r o vc) [] = mgetD s.net.queues (behind d r o vc) [] ++ [p]
          ∧ t.net.delivered = s.net.delivered ∧ SameMemories s t)
      ∧ (o = 4 → (shellGet s (shellKey d r)).power = .run →
        ∃ t, exec (.meshHop d r inp vc 0) s = .next t ∧ t.net.delivered = s.net.delivered ++ [p]
          ∧ mgetD t.net.queues (meshQ d r inp vc) []
              = (mgetD s.net.queues (meshQ d r inp vc) []).drop 1 ∧ SameMemories s t)
      ∧ (o = 4 → (shellGet s (shellKey d r)).power = .sleep →
        ∃ t, exec (.meshHop d r inp vc 0) s = .next t ∧ SameMemories s t
          ∧ t.net = { s.net with wakeHeld := t.net.wakeHeld }
          ∧ (meshQ d r inp vc ∉ s.net.wakeHeld →
              rg t .net d 0x410 = satAdd 32 (rg s .net d 0x410) 1)
          ∧ shellGet t (shellKey d r) = { shellGet s (shellKey d r) with power := .waking }))
    ∧ (∀ d vc p, d < 8 → freeHead s (inQ d vc) = some p → badRoute p = false → p.mc = false →
      atStation p.dest.unit = true →
      ∃ t, exec (.meshHop d 256 0 vc 0) s = .next t ∧ t.net.delivered = s.net.delivered ++ [p]
        ∧ mgetD t.net.queues (inQ d vc) [] = (mgetD s.net.queues (inQ d vc) []).erase p
        ∧ SameMemories s t)
    ∧ (∀ st down vc p p' nx, st < 9 → vc < 5 → headQ s (ringQ st down vc false) = none →
      headQ s (outQ st vc) = some p → p.dest.die ≠ st → goesDown st p.dest.die = down →
      badRoute p = false → p.vc = vc →
      shareOk s (ringOut st down) vc (flitsOf p) (ringCands s st down) = true →
      nx = (if down then (st + 8) % 9 else (st + 1) % 9) →
      p' = { p with dl := decide (st = if down then 0 else 8) } →
      (nx ≠ p.dest.die → roomQ s (ringQ nx down vc p'.dl) p' = true →
        ∃ t, exec (.ringHop st down vc false 0) s = .next t
          ∧ mgetD t.net.queues (outQ st vc) [] = (mgetD s.net.queues (outQ st vc) []).drop 1
          ∧ mgetD t.net.queues (ringQ nx down vc p'.dl) []
              = mgetD s.net.queues (ringQ nx down vc p'.dl) [] ++ [p']
          ∧ SameMemories s t)
      ∧ (nx = p.dest.die → vc = 2 ∨ vc = 3 → roomQ s (inQ nx vc) p' = true →
        ∃ t, exec (.ringHop st down vc false 0) s = .next t
          ∧ mgetD t.net.queues (outQ st vc) [] = (mgetD s.net.queues (outQ st vc) []).drop 1
          ∧ mgetD t.net.queues (inQ nx vc) [] = mgetD s.net.queues (inQ nx vc) [] ++ [{ p with dl := false }]
          ∧ SameMemories s t))
    ∧ ∀ q, flitsIn s q < mgetD s.net.used q 0 →
      exec (.linkCreditReturn q) s = .next (pumpEntry (linkCredit s q) q)
      ∧ (mgetD s.net.outbox q [] = [] → 2 ^ 20 ≤ q →
        exec (.linkCreditReturn q) s = .next (linkCredit s q))
      ∧ ∀ p r, mgetD s.net.outbox q [] = p :: r → 2 ^ 20 ≤ q → roomQ (linkCredit s q) q p = true →
        ∃ t, exec (.linkCreditReturn q) s = .next t
          ∧ mgetD t.net.queues q [] = mgetD s.net.queues q [] ++ [p]
          ∧ mgetD t.net.outbox q [] = r ∧ SameMemories s t

/-- R221, R223, R226, R234, R360: a QDATA or QEND that has reached its unit, with none of its flow
before it, is taken there: at an oar's input queue with room, of which no operation still takes
entries, it stands as entry or END marker; at a steering entry, in its queue. DOMAIN_WAKE ends
waking and delivers the packet that was held; DOMAIN_SLEEP puts an idle domain to sleep where its
die's SLEEP_EN is 1. -/
def Obligations.EntriesReachQueuesAndDomainsSleep : Prop :=
  ∀ s : State, fabOn s = true →
    (∀ p k c e, k = shellKey p.dest.die (16 * p.dest.sy + p.dest.sx) → p.dest.die < 8 →
      dieStopped s p.dest.die = false → violates s k p.crew = false → p.mc = false →
      arrives s p = true →
      (c = .qdata p ∧ p.cmd = 0x00 ∧ e = some (slice p.data 0 32)) ∨ (c = .qend p ∧ p.cmd = 0x01 ∧ e = none) →
      (∀ o q, p.dest.unit < 8 → q = p.dest.sub % 4 →
        mget s.grid.oars (oarKey p.dest.die (8 * (k % 256) + p.dest.unit)) = some o →
        o.iq.length = 4 → (o.iq.getD q []).length < imgDepth o.image q →
        (∀ op ∈ o.ops, op.need.getD q 0 = 0) →
        ∃ t o', exec c s = .next t
          ∧ mget t.grid.oars (oarKey p.dest.die (8 * (k % 256) + p.dest.unit)) = some o'
          ∧ o'.iq.getD q [] = o.iq.getD q [] ++ [e]
          ∧ t.net.delivered = s.net.delivered.erase p ∧ SameMemories s t)
      ∧ (p.dest.unit = 8 →
        ∃ t, exec c s = .next t
          ∧ (steerGet t k (p.dest.sub % 16)).inq = (steerGet s k (p.dest.sub % 16)).inq ++ [e]
          ∧ t.net.delivered = s.net.delivered.erase p ∧ t.grid.oars = s.grid.oars ∧ SameMemories s t))
    ∧ (∀ d sh, (shellGet s (shellKey d sh)).power = .waking →
      ∃ t, exec (.domainWake d sh) s = .next t
        ∧ shellGet t (shellKey d sh) = { shellGet s (shellKey d sh) with power := .run }
        ∧ (∀ i p, (List.range 25).find? (fun i => ((headQ s (meshQ d sh (i / 5) (i % 5))).map
              fun p => (outputs s d sh p).contains 4).getD false) = some i →
            headQ s (meshQ d sh (i / 5) (i % 5)) = some p → outputs s d sh p = [4] → p.mc = false →
            t.net.delivered = s.net.delivered ++ [p])
        ∧ SameMemories s t)
    ∧ ∀ d sh, bit (rf s .power 0 0x050 7 0) d = true → absent s 6 = false →
      (shellGet s (shellKey d sh)).power = .run → domainBusy s (shellKey d sh) = false →
      sprintArmed s (shellKey d sh) = false → dieStopped s d = false →
      ∃ t, exec (.domainSleep d sh) s = .next t
        ∧ shellGet t (shellKey d sh) = { shellGet s (shellKey d sh) with power := .sleep }
        ∧ t = { s with grid := { s.grid with shells := t.grid.shells } }

/-- Every oar has four input queues (R78). -/
def oarShape (s : State) : Prop := ∀ k o, mget s.grid.oars k = some o → o.iq.length = 4

/-- Every step keeps four input queues on every oar, whatever loads its image, fires on it or sends
to it. -/
def Obligations.StepKeepsFourInputQueues : Prop :=
  ∀ s t : State, oarShape s → step s = .next t → oarShape t

/-- A packet waits behind those of a queue of units' packets: on its way, or at the unit for a link credit. -/
def sentPacket (s t : State) (q : Nat) (r : Pkt) : Prop :=
  mgetD t.net.queues q [] ++ mgetD t.net.outbox q []
    = mgetD s.net.queues q [] ++ mgetD s.net.outbox q [] ++ [r]

/-- A response of the unit that a request names, with a command code and data (R223). -/
def responseTo (s : State) (p : Pkt) (cmd : Nat) (data : List Byte) : Pkt :=
  { p with
    dest := p.src, src := p.dest, cmd := cmd, status := 0, heat := s.heat.num % 65536, dl := false
    data := data }

/-- A request that has reached its unit, which runs and which the packet's crew may address (R226, R295). -/
def atUnit (s : State) (p : Pkt) (cmd : Nat) : Prop :=
  fabOn s = true ∧ p.cmd = cmd ∧ arrives s p = true
    ∧ (p.dest.die < 8 → atStation p.dest.unit = false → dieStopped s p.dest.die = false
        ∧ violates s (shellKey p.dest.die (16 * p.dest.sy + p.dest.sx)) p.crew = false)

/-- A request that a unit may issue for a slot (R221, R223, R232): a running command's or the device's own,
well formed, with a tag that is neither in flight nor quarantined. -/
def mayIssue (s : State) (p : Pkt) (slot : Option Nat) : Prop :=
  fabOn s = true ∧ arrives s p = false ∧ p.mc = false ∧ p.status = 0 ∧ p.data.length = reqData p
    ∧ (p.cmd < 0x0C → p.arg % 32 = 0 ∧ 32 ≤ p.arg ∧ p.arg ≤ 256)
    ∧ p.vc = (if p.cmd < 0x0C then 3 else 4) ∧ p.crew = reqCrew s slot
    ∧ (∀ i, slot = some i → ∃ c, slotGet s i = some c ∧ c.phase = .running)
    ∧ mget s.net.tags (tagKey p.src.die p.tag) = none
    ∧ p.src.die ≤ 8 ∧ (p.src.die < 8 → dieStopped s p.src.die = false)

/-- A command that brings a response of its kind to its initiator (R223). -/
def isResponse (c : Instr) (p : Pkt) : Prop :=
  (c = .rdResp p ∧ p.cmd = 0x09) ∨ (c = .wrAck p ∧ p.cmd = 0x0B) ∨ (c = .regRdResp p ∧ p.cmd = 0x0D)
    ∨ (c = .regWrAck p ∧ p.cmd = 0x0F) ∨ (c = .errResp p ∧ p.cmd = 0x1F)

/-- R121, R221, R223, R226, R232: a request that a unit may issue takes its tag and enters the
network behind what its unit sent before. One that has reached its unit is taken and answered to its
source: RD_REQ with the object's bytes, WR_REQ once its bytes are written, REG_RD with the
register's word, REG_WR once the register is written. R226, R232, R431, R433: a response that has
reached its initiator and whose request is in flight frees the tag; REG_RD_RESP leaves its word with
the initiator; ERR_RESP ends the command with the code of its STATUS; a response for no request, or
after its timeout, is counted and changes no tag. NET_TIMEOUT quarantines the tag and ends the
command, until TAG_QUARANTINE_END; a FAULT notice is recorded. The model's readings of assumption
logs 37 and 71 are part of it. -/
def Obligations.RequestsAreServedAndAnswered : Prop :=
  (∀ (s : State) (p : Pkt) (sl : Option Nat) (c : Instr), mayIssue s p sl →
    (c = .rdReq sl p ∧ p.cmd = 0x08) ∨ (c = .wrReq sl p ∧ p.cmd = 0x0A)
      ∨ (sl = none ∧ c = .regRd p ∧ p.cmd = 0x0C) ∨ (sl = none ∧ c = .regWr p ∧ p.cmd = 0x0E) →
    ∃ t, exec c s = .next t ∧ mget t.net.tags (tagKey p.src.die p.tag) = some ⟨sl, p.crew, false⟩
      ∧ sentPacket s t (entryQ p) { p with heat := s.heat.num % 65536, dl := false }
      ∧ SameMemories s t)
  ∧ (∀ (s : State) (p : Pkt) (sl : Option Nat),
    (atUnit s p 0x08 → accessCode s p.crew p.addr p.arg = cOK → holdsTier s p = true →
      ∃ t, exec (.rdReq sl p) s = .next t ∧ SameMemories s t
        ∧ t.net.delivered = s.net.delivered.erase p
        ∧ sentPacket s t (entryQ (responseTo s p 0x09 []))
            (responseTo s p 0x09 (rdU s p.crew p.addr p.arg)))
    ∧ (atUnit s p 0x0A → storeCode s p.crew p.addr p.arg = cOK → holdsTier s p = true →
      ∃ t, exec (.wrReq sl p) s = .next t ∧ t.net.delivered = s.net.delivered.erase p
        ∧ rdU t p.crew p.addr p.arg = slice p.data 0 p.arg
        ∧ (∀ a, a < uKey p.crew p.addr ∨ uKey p.crew p.addr + p.arg ≤ a →
            rdB t.tier.data a = rdB s.tier.data a)
        ∧ sentPacket s t (entryQ (responseTo s p 0x0B [])) (responseTo s p 0x0B []))
    ∧ (atUnit s p 0x0C →
      ∃ t u, exec (.regRd p) s = .next t ∧ u = serveRead (takePkt s p) .pcie p.addr
        ∧ t.regs = u.2.2.regs
        ∧ sentPacket u.2.2 t (entryQ (responseTo s p 0x0D [])) (responseTo u.2.2 p 0x0D (toLE u.1 4)))
    ∧ (atUnit s p 0x0E →
      ∃ t u, exec (.regWr p) s = .next t
        ∧ u = serveWrite (takePkt s p) .pcie none p.addr (BitVec.ofNat 32 (fld p.data 0 4))
        ∧ t.regs = u.regs
        ∧ sentPacket u t (entryQ (responseTo s p 0x0F [])) (responseTo u p 0x0F [])))
  ∧ ∀ (s : State), fabOn s = true →
     (∀ p tg c, mget s.net.tags (tagKey p.dest.die p.tag) = some tg → tg.quarantined = false →
       arrives s p = true → isResponse c p →
       ∃ t, exec c s = .next t ∧ mget t.net.tags (tagKey p.dest.die p.tag) = none
         ∧ SameMemories s t
         ∧ (c = .regRdResp p → mget t.net.regOut (tagKey p.dest.die p.tag)
             = some (BitVec.ofNat 32 (fld p.data 0 4)))
         ∧ ∀ i x, c = .errResp p → tg.slot = some i → listOf s i = none →
             slotGet s i = some x → x.phase = .running → resetting s x.crew = false →
             endedWith t i (statusCode p.status))
     ∧ (∀ p c, (∀ tg, mget s.net.tags (tagKey p.dest.die p.tag) = some tg → tg.quarantined = true) →
       arrives s p = true → isResponse c p →
       ∃ t, exec c s = .next t ∧ t.net.tags = s.net.tags
         ∧ rg t .net (p.dest.die % 9) 0x404 = satAdd 32 (rg s .net (p.dest.die % 9) 0x404) 1)
     ∧ (∀ d g tg, d < 9 → mget s.net.tags (tagKey d g) = some tg →
       (tg.quarantined = false →
         ∃ t, exec (.netTimeout d g) s = .next t
           ∧ mget t.net.tags (tagKey d g) = some { tg with quarantined := true }
           ∧ ∀ i x, tg.slot = some i → listOf s i = none → slotGet s i = some x →
               x.phase = .running → resetting s x.crew = false → endedWith t i 0x22)
       ∧ (tg.quarantined = true →
         ∃ t, exec (.tagQuarantineEnd d g) s = .next t ∧ mget t.net.tags (tagKey d g) = none
           ∧ t = { s with net := { s.net with tags := t.net.tags } }))
     ∧ ∀ p, p.cmd = 0x18 → arrives s p = true → s.reg.log.length < 64 →
       ∃ t, exec (.faultNotice p) s = .next t
         ∧ t.reg.log = s.reg.log ++ [⟨statusCode p.status, scopeOf (statusCode p.status), p.crew,
             pageBase .net (p.src.die % 9) / 4096, placeWord p.src false, s.now⟩]
         ∧ SameMemories s t

/-- R246, R247, R248, R251, R254, R372: the life of a link. CTRL.EN 1 and CTRL.RETRAIN begin
training; receiver adaptation, frame lock and an identity exchange without refusal bring the link up
with the far end's identity, adopting its heat settings where R247 says so; a refusal of either end
takes it to state 5 with its code; a recalibration that is due moves an up link to state 4 with the
notice to send, and its ends give back state 3 and the frames. The model's readings of assumption
logs 67, 73 and 82 are part of it. -/
def Obligations.LinksTrainAndRecalibrate : Prop :=
  ∀ (s : State) (l : Nat), l ≤ 16 → fabOn s = true →
    (∀ p, pageOpen s (linkPage l).1 (linkPage l).2 → 7 ≤ s.power.stage →
      (l = 16 → twinPresent s = true) →
      ((linkGet s l).state = 0 →
        ∃ t, exec (.linkEnable p l) s = .next t ∧ linkEn t l = true ∧ (linkGet t l).state = 1
          ∧ (linkGet t l).refuse = 0)
      ∧ ∃ t, exec (.retrain p l) s = .next t ∧ (linkGet t l).state = 1
          ∧ rg t (linkPage l).1 (linkPage l).2 0x114
              = satAdd 32 (rg s (linkPage l).1 (linkPage l).2 0x114) 1)
    ∧ ((linkGet s l).state = 1 →
      ((linkGet s l).adapted = false →
        (∃ t, exec (.receiverAdaptationDone l false 0) s = .next t
          ∧ linkGet t l = { linkGet s l with adapted := true } ∧ t = { s with links := t.links })
        ∧ (∃ t, exec (.receiverAdaptationDone l true 0) s = .next t ∧ (linkGet t l).state = 5
          ∧ (linkGet t l).refuse = 5)
        ∧ ∀ r, r ≠ 0 → ∃ t, exec (.receiverAdaptationDone l false r) s = .next t
          ∧ (linkGet t l).state = 5 ∧ (linkGet t l).refuse = r)
      ∧ ((linkGet s l).adapted = true →
        (∃ t, exec (.frameLock l) s = .next t
          ∧ linkGet t l = { linkGet s l with state := 2, txSeq := 0, rxLast := 4095 }
          ∧ t = { s with links := t.links })
        ∧ ∀ b r, r ≠ 0 → ∃ t, exec (.receiverAdaptationDone l b r) s = .next t
          ∧ (linkGet t l).state = 5 ∧ (linkGet t l).refuse = r))
    ∧ (∀ f r, (linkGet s l).state = 2 →
      (identityRefuse s l f = 0 → r = 0 →
        ∃ t, exec (.identityExchange l f r) s = .next t ∧ (linkGet t l).state = 3
          ∧ (linkGet t l).peerDev = f.dev ∧ (linkGet t l).peerLink = f.link
          ∧ (linkGet t l).latency = f.latency ∧ (linkGet t l).creditUsed = []
          ∧ (adopts s l f = true → t.heat.origin = f.heatOrigin ∧ t.heat.base = f.heatBase
              ∧ rg t .heat 0 0x048 = f.heatLength % 2 ^ 32))
      ∧ (identityRefuse s l f ≠ 0 →
        ∃ t, exec (.identityExchange l f r) s = .next t ∧ (linkGet t l).state = 5
          ∧ (linkGet t l).refuse = identityRefuse s l f))
    ∧ (∀ tm, (linkGet s l).state = 3 → recalDue s l tm = true → l = 16 ∨ slotMay s 1 l = true →
      ∃ t, exec (.recalibration l tm) s = .next t
        ∧ linkGet t l = { linkGet s l with
            state := 4, noticeOut := true, corrected := 0, recalNow := false }
        ∧ rg t (linkPage l).1 (linkPage l).2 0x118
            = satAdd 32 (rg s (linkPage l).1 (linkPage l).2 0x118) 1
        ∧ mgetD t.back.last (actKey 1 l) 0 = tm)
    ∧ (linkUp (linkGet s l) = true →
      exec (.recalibrationEnd l true) s = .next (linkSet s l { linkGet s l with state := 3 })
      ∧ (inGrains s l = false →
        exec (.recalibrationEnd l false) s = .next (linkSet s l { linkGet s l with training := 0 })))

/-- R240, R241, R243, R244, R248: HENAC_FRAME_SEND on an up link sends a new frame under the next
sequence number, over its lanes, and keeps it for replay; with a full replay buffer a frame goes out
and the numbers stay; a frame asked for again goes first, the same but for its ACK and its check
code; where the far receiver recalibrates, training pattern takes the frame's place.
HENAC_FRAME_RECEIVE takes a sound frame in sequence; of one that repeats the last number ACK and NAK
count; it asks again for one out of sequence and for one that does not decode, which is counted, and
trains the link where one frame fails eight times. The model's readings of assumption logs 67 and 91
are part of it. -/
def Obligations.FramesAreSentReplayedAndReceived : Prop :=
  ∀ (s : State) (l : Nat) (k : Link), l < 16 → fabOn s = true → k = linkGet s l → linkUp k = true →
    (k.training = 0 →
      (k.resend = [] → k.replay.length < 256 →
        ∃ t f, exec (.henacFrameSend l) s = .next t
          ∧ (linkGet t l).framesOut = k.framesOut ++ [laneBytes l f.bytes]
          ∧ (linkGet t l).replay = k.replay ++ [f] ∧ f.seq = k.txSeq
          ∧ (linkGet t l).txSeq = (k.txSeq + 1) % 4096
          ∧ rg t .link l 0x100 = satAdd 32 (rg s .link l 0x100) 1)
      ∧ (k.resend = [] → 256 ≤ k.replay.length →
        ∃ t b, exec (.henacFrameSend l) s = .next t
          ∧ (linkGet t l).framesOut = k.framesOut ++ [laneBytes l b] ∧ (linkGet t l).replay = k.replay
          ∧ (linkGet t l).txSeq = k.txSeq ∧ (linkGet t l).txq = k.txq)
      ∧ ∀ f r, k.resend = f :: r →
        ∃ t b, exec (.henacFrameSend l) s = .next t
          ∧ (linkGet t l).framesOut = k.framesOut ++ [laneBytes l b]
          ∧ slice b 4 828 = slice f.bytes 4 828
          ∧ (linkGet t l).resend = r ∧ (linkGet t l).replay = k.replay
          ∧ (linkGet t l).txSeq = k.txSeq)
    ∧ (k.training ≠ 0 → (inGrains s l = true → vc0Eligible l k = false) →
      exec (.henacFrameSend l) s = .next (linkSet s l { k with training := k.training - 1 }))
    ∧ ∀ (lanes : List (List Byte)) (errs : List Nat) (b : List Byte), b = laneMessage l lanes →
      ((∀ e ∈ errs, e ≤ 7) → slice b 832 8 = toLE (crc64 (slice b 0 832)).toNat 8 →
        (bits (fld b 0 2) 11 0 = (k.rxLast + 1) % 4096 →
          ∃ t, exec (.henacFrameReceive l lanes errs) s = .next t
            ∧ (linkGet t l).rxLast = (k.rxLast + 1) % 4096 ∧ (linkGet t l).nakSent = false
            ∧ (linkGet t l).fails = 0
            ∧ rg t .link l 0x104 = satAdd 32 (rg s .link l 0x104) 1)
        ∧ (bits (fld b 0 2) 11 0 = k.rxLast →
          ∃ t, exec (.henacFrameReceive l lanes errs) s = .next t
            ∧ linkGet t l = (takeAck s l (addCorrected s.now k (errs.foldl (· + ·) 0)) b).2)
        ∧ (bits (fld b 0 2) 11 0 ≠ k.rxLast → bits (fld b 0 2) 11 0 ≠ (k.rxLast + 1) % 4096 →
          ∃ t, exec (.henacFrameReceive l lanes errs) s = .next t
            ∧ linkGet t l = { addCorrected s.now k (errs.foldl (· + ·) 0) with
                nakOut := k.nakOut || !k.nakSent, nakSent := true }))
      ∧ (slice b 832 8 ≠ toLE (crc64 (slice b 0 832)).toNat 8 →
        bits (fld b 0 2) 11 0 = (k.rxLast + 1) % 4096 →
        (k.fails < 7 →
          ∃ t, exec (.henacFrameReceive l lanes errs) s = .next t
            ∧ (linkGet t l).rxLast = k.rxLast ∧ (linkGet t l).fails = k.fails + 1
            ∧ (linkGet t l).nakSent = true ∧ (linkGet t l).rxq = k.rxq
            ∧ rg t .link l 0x10C = satAdd 32 (rg s .link l 0x10C) 1)
        ∧ (7 ≤ k.fails → 7 ≤ s.power.stage →
          ∃ t, exec (.henacFrameReceive l lanes errs) s = .next t ∧ (linkGet t l).state = 1))

/-- A packet of another device comes to its unit: taken off a link, none of its flow before it, or judged
here with a stamp that is accepted (R25, R226). -/
def taken (s : State) (p : HPkt) : Prop :=
  (p ∈ s.net.arrived → s.net.arrived.find? (fun x => x = p || sameHFlow x p) = some p)
    ∧ (p ∉ s.net.arrived → p.vc = 2 ∨ p.vc = 3 ∨ stampCase s p.heat = .accept)

/-- R35, R48, R226, R263, R265, R266, R268: packets of groups whose epoch agrees, in the order of
their flow. A SPRINT packet of a token from the parent that ends its query ends as the position's
query, the last one of a child as its input of the node; the last COLL packet from a child is that
child's input, READY ahead of its collective is held; an XCHG packet's data are stored at the
sender's block of an equal exchange. R269, R270, R290: an ABORT that reaches a member's running
collective, and an expired timer, end its command with the code of the reason and make later packets
of the sequence number orphans. The model's readings of assumption logs 14, 62 and 94 are part of
it. -/
def Obligations.GroupPacketsAndAborts : Prop :=
  (∀ (s : State) (p : HPkt) (gr : Group), fabOn s = true → taken s p → epochOk s p = some gr →
     (p.cmd = 0x10 → fastOf p = false → s.twin.pair ≠ 3 → s.twin.pair ≠ 4 → pktLast p = true →
       (parentDev s gr (pktWeft p) = some p.src →
         mgetD s.coll.asm (asmKey true p.ctx p.arg (pktWeft p) p.src) [] ++ p.data ≠ [] →
         ∃ t j, exec (.sprintPacket p) s = .next t ∧ jobOf t p.ctx p.arg (pktWeft p) = some j
           ∧ j.heat = stampHeat s p.heat
           ∧ j.q = (chunks 2 (mgetD s.coll.asm (asmKey true p.ctx p.arg (pktWeft p) p.src) []
               ++ p.data)).map (fun c => BitVec.ofNat 16 (leNat c))
           ∧ SameMemories s t)
       ∧ (parentDev s gr (pktWeft p) ≠ some p.src → p.src ∈ kidDevs s gr (pktWeft p) →
         (isRoot s gr = true → tokenOf s p.arg ≠ none) →
         ∃ t, exec (.sprintPacket p) s = .next t
           ∧ t.sprint.nodes = s.sprint.nodes.map (fun n =>
               if n.sprint = true ∧ n.group = p.ctx ∧ n.tag = p.arg ∧ n.weft = pktWeft p then
                 kidInput p.src (wordsOf 4
                   (mgetD s.coll.asm (asmKey true p.ctx p.arg (pktWeft p) p.src) [] ++ p.data))
                   (pktFlags p) n
               else n)
           ∧ SameMemories s t))
     ∧ (pktPhase p = 1 → instOf s p.ctx (p.arg % 256) = none →
       mget s.coll.aborted (p.ctx * 256 + p.arg % 256) = none → p.arg % 256 = gr.seq →
       ∃ t, exec (.collPacket p) s = .next t ∧ t.coll.early = s.coll.early ++ [p]
         ∧ t.coll.live = s.coll.live ∧ SameMemories s t)
     ∧ ∀ x c, instOf s p.ctx (p.arg % 256) = some x → x.owed = none → slotGet s x.slot = some c →
       pktPhase p = 0 →
       (x.op < 4 → parentDev s gr (pktWeft p) ≠ some p.src → pktLast p = true →
         ∃ t, exec (.collPacket p) s = .next t
           ∧ t.sprint.nodes = s.sprint.nodes.map (fun n =>
               if n.sprint = false ∧ n.group = x.group ∧ n.tag = x.seq ∧ n.weft = pktWeft p then
                 kidInput p.src (wordsOf (treeBytes (cFmt c)) ((mgetD s.coll.asm
                   (asmKey false x.group x.seq (pktWeft p) p.src) [] ++ p.data).take
                     (half c (pktWeft p)).2)) (pktFlags p) n
               else n)
           ∧ SameMemories s t)
       ∧ (∀ a, x.op = 4 → pktLast p = false → p.data ≠ [] →
         a = cDst c + gr.members.idxOf p.src * cLen c + 32 * (p.arg / 65536) →
         p.data.length ≤ cLen c - 32 * (p.arg / 65536) → nearStore s c.crew a p.data.length = cOK →
         ∃ t, exec (.xchgPacket p) s = .next t ∧ rdU t c.crew a p.data.length = p.data
           ∧ (∀ b, b < uKey c.crew a ∨ uKey c.crew a + p.data.length ≤ b →
               rdB t.tier.data b = rdB s.tier.data b)))
  ∧ (∀ (s : State) (x : Coll) (c : Slot), fabOn s = true → slotGet s x.slot = some c →
     c.phase = .running → resetting s c.crew = false → x.owed = none →
     (∀ p r gr, taken s p → epochOk s p = some gr → pktPhase p = 3 → p.ctx = x.group →
       p.arg % 256 = x.seq → r = bits p.arg 15 8 → instOf s x.group x.seq = some x →
       mget s.coll.aborted (x.group * 256 + x.seq) = none →
       ∃ t, exec (.collAbort p) s = .next t ∧ endedWith t x.slot (reasonCode r)
         ∧ mget t.coll.aborted (x.group * 256 + x.seq) = some r ∧ instSlot t x.slot = none
         ∧ SameMemories s t)
     ∧ (instSlot s x.slot = some x →
       ∃ t, exec (.collTimerExpiry x.slot) s = .next t ∧ endedWith t x.slot 0x29
         ∧ mget t.coll.aborted (x.group * 256 + x.seq) = some 2 ∧ instSlot t x.slot = none
         ∧ rg t .coll 0 0x110 = satAdd 32 (rg s .coll 0 0x110) 1 ∧ SameMemories s t))

/-- A collective command may start (R265, R271, R285): its group is the crew's and this device a member,
its operands are allowed, nothing of its group runs, waits before it, or came ahead of it. -/
def collMayStart (s : State) (i : Nat) (c : Slot) (gr : Group) : Prop :=
  commandReady s i 0x40 c ∧ collGroup s c = some gr ∧ collBad c = false ∧ instSlot s i = none
    ∧ (∀ x ∈ s.coll.insts, x.group ≠ cGroup c)
    ∧ (∀ e ∈ s.host.slots, ¬(e.2.phase = .ready ∧ fld e.2.cmd 0 1 = 0x40
        ∧ cGroup e.2 = cGroup c ∧ e.2.born < c.born))
    ∧ (∀ p ∈ s.coll.early, ¬(p.ctx = cGroup c ∧ p.arg % 256 = gr.seq))
    ∧ mget s.coll.aborted (cGroup c * 256 + gr.seq) = none

/-- R258, R262, R264 to R266, R271: GROUP_WRITE that breaks no rule of R258 stands as the group's
shadow for its heat. A collective that may start takes the group's sequence number and has an
instance: tree operations once the dies are quiet, exchanges in a group of two or more members,
ROTATE. SUM_ROOT and SUM_ALL, where GO has come, enter the member's two halves as own inputs of
their nodes; BCAST at the root with READY from both trees leaves the vector in its destination and
completes; BARRIER at the root completes. The model's readings of assumption logs 15, 62 and 83 are
part of it. -/
def Obligations.CollectivesStartAndCombine : Prop :=
  (∀ (s : State) (i : Nat) (c : Slot),
     (∀ inval ms, commandReady s i 0x41 c → inval = bit (fld c.cmd 20 1) 1 →
       (inval = true → ms = []) →
       (inval = false → nearCode s c.crew (fld c.cmd 24 8) (2 * (bits (fld c.cmd 22 2) 10 0 + 1)) = cOK
         ∧ ms = (chunks 2 (rdU s c.crew (fld c.cmd 24 8)
             (2 * (bits (fld c.cmd 22 2) 10 0 + 1)))).map leNat) →
       groupReason s c.crew (bits (fld c.cmd 16 2) 11 0) inval ms = 0 →
       s.heat.num < fld c.cmd 32 8 →
       ∃ t, exec (.groupWrite i) s = .next t ∧ endedWith t i cOK
         ∧ mget t.coll.shadow (bits (fld c.cmd 16 2) 11 0) = some ⟨fld c.cmd 32 8,
             if inval then none else some { fast := bit (fld c.cmd 20 1) 0, crew := c.crew
                                            epoch := fld c.cmd 18 2, members := ms, seq := 0 }⟩
         ∧ t.coll.live = s.coll.live ∧ SameMemories s t)
     ∧ ∀ gr k, collMayStart s i c gr →
       (cOp c < 4 ∧ quietNow s c.crew (fld c.cmd 19 1) = true ∧ k = .treeOpStart i)
         ∨ (cOp c = 4 ∧ 2 ≤ gr.members.length ∧ k = .xchgEq i)
         ∨ (cOp c = 5 ∧ 2 ≤ gr.members.length ∧ k = .xchgCounts i)
         ∨ (cOp c = 6 ∧ 2 ≤ gr.members.length ∧ k = .xchgPad i)
         ∨ (cOp c = 7 ∧ k = .rotate i) →
       ∃ t x, exec k s = .next t ∧ instSlot t i = some x ∧ x.group = cGroup c ∧ x.seq = gr.seq
         ∧ x.op = cOp c ∧ x.began = false
         ∧ groupGet t (cGroup c) = some { gr with seq := (gr.seq + 1) % 256 }
         ∧ rg t .coll 0 0x100 = satAdd 32 (rg s .coll 0 0x100) 1 ∧ SameMemories s t)
  ∧ (∀ (s : State) (i : Nat) (x : Coll) (c : Slot) (gr : Group), fabOn s = true →
     instSlot s i = some x → slotGet s i = some c → groupGet s x.group = some gr → x.began = false →
     (∀ k, (x.op = 0 ∧ k = .sumRoot i) ∨ (x.op = 1 ∧ k = .sumAll i) →
       (usesGo x = true → 2 ≤ x.go.length) →
       (cLen c ≠ 0 → nearCode s c.crew (cSrc c) (cLen c) = cOK) →
       ∃ t y, exec k s = .next t ∧ instSlot t i = some y ∧ y.began = true
         ∧ t.sprint.nodes = s.sprint.nodes.map (fun n =>
             if n.sprint = false ∧ n.group = x.group ∧ n.tag = x.seq then
               { n with own := some (wordsOf (treeBytes (cFmt c))
                   (rdU s c.crew (cSrc c + (half c n.weft).1) (half c n.weft).2)) }
             else n)
         ∧ SameMemories s t)
     ∧ (c.phase = .running → resetting s c.crew = false → isRoot s gr = true →
       2 ≤ x.sentUp.length →
       (x.op = 2 → (cLen c ≠ 0 → nearCode s c.crew (cSrc c) (cLen c) = cOK
           ∧ nearStore s c.crew (cDst c) (cLen c) = cOK) →
         ∃ t, exec (.bcast i) s = .next t ∧ endedWith t i cOK ∧ instSlot t i = none
           ∧ rdU t c.crew (cDst c) (cLen c) = rdU s c.crew (cSrc c) (cLen c)
           ∧ ∀ a, a < uKey c.crew (cDst c) ∨ uKey c.crew (cDst c) + cLen c ≤ a →
               rdB t.tier.data a = rdB s.tier.data a)
       ∧ (x.op = 3 →
         ∃ t, exec (.barrier i) s = .next t ∧ endedWith t i cOK ∧ instSlot t i = none
           ∧ SameMemories s t)))

/-- R280, R281, R282, R284, R289: doorbells set tail and head, or are counted; COMMAND_FETCH puts
the entry of the next queue in round robin into a free slot, ready at once where its wait is met;
WAIT_MET lets a waiting command go on; COMPLETION_WRITE, in the order of completion, writes the
record of an ended command, of a quiet one none, signals its counter and frees its slot. The model's
readings of assumption logs 17, 64 and 90 are part of it. -/
def Obligations.HostQueuesFetchAndComplete : Prop :=
  ∀ s : State, fabOn s = true →
    (∀ crew n v, resetting s crew = false →
      (qEn s crew 0x100 n = true → v < qSize s crew 0x100 n →
        ∃ t, exec (.sqDoorbell crew n v) s = .next t
          ∧ sqGet t crew n = { sqGet s crew n with tail := v }
          ∧ t = { s with host := { s.host with sqs := t.host.sqs } })
      ∧ (qEn s crew 0x200 n = true → v < qSize s crew 0x200 n →
        ∃ t, exec (.cqDoorbell crew n v) s = .next t
          ∧ cqGet t crew n = { cqGet s crew n with head := v }
          ∧ t = { s with host := { s.host with cqs := t.host.cqs } })
      ∧ ∀ k, (k = .sqDoorbell crew n v ∧ (qEn s crew 0x100 n = false ∨ qSize s crew 0x100 n ≤ v))
          ∨ (k = .cqDoorbell crew n v ∧ (qEn s crew 0x200 n = false ∨ qSize s crew 0x200 n ≤ v)) →
        ∃ t, exec k s = .next t ∧ t.host.sqs = s.host.sqs ∧ t.host.cqs = s.host.cqs
          ∧ rf t .crewq crew 0x040 15 0 = satAdd 16 (rf s .crewq crew 0x040 15 0) 1)
    ∧ (∀ crew n i b c, nextSq s = some (crew, n) →
      (List.range 4096).find? (fun i => (slotGet s i).isNone) = some i →
      c = ({ crew := crew, sq := n, born := s.host.fetched, cmd := slice b 0 64, phase := .waiting
             status := 0, flags := 0, result := 0, detail := 0, endNo := 0, endAt := 0 } : Slot) →
      (waitMet s c = false →
        ∃ t, exec (.commandFetch b false) s = .next t ∧ slotGet t i = some c
          ∧ sqGet t crew n = sqGet s crew n ∧ SameMemories s t)
      ∧ (waitMet s c = true → cmdBad s c = false →
        (hdrBit c 0 = true → hdrBit c 1 = true → ctrErrGet s crew (fld c.cmd 4 1) = false) →
        ∃ t, exec (.commandFetch b false) s = .next t ∧ slotGet t i = some { c with phase := .ready }
          ∧ (sqGet t crew n).head = ((sqGet s crew n).head + 1) % qSize s crew 0x100 n
          ∧ SameMemories s t))
    ∧ ∀ i c, slotGet s i = some c →
      (c.phase = .waiting → waitMet s c = true → resetting s c.crew = false → cmdBad s c = false →
        (hdrBit c 0 = true → hdrBit c 1 = true → ctrErrGet s c.crew (fld c.cmd 4 1) = false) →
        ∃ t, exec (.waitMet i) s = .next t ∧ slotGet t i = some { c with phase := .ready }
          ∧ (sqGet t c.crew c.sq).head
              = ((sqGet s c.crew c.sq).head + 1) % qSize s c.crew 0x100 c.sq)
      ∧ (c.phase = .ended → isQuiet c = true →
        ∃ t, exec (.completionWrite i) s = .next t ∧ slotGet t i = none
          ∧ t.host.cqs = s.host.cqs ∧ SameMemories s t)
      ∧ ∀ n q, c.phase = .ended → isQuiet c = false → s.host.linkUp = true → n = cqOf s c.crew c.sq →
        q = cqGet s c.crew n → cqRoom s c.crew n = true → recordBefore s c = false →
        ∃ t, exec (.completionWrite i) s = .next t ∧ slotGet t i = none
          ∧ rdBytes t.host.mem (qBase s c.crew 0x200 n + 32 * q.tail) 32 = cqRecord c (!q.phase)
          ∧ (∀ a, a < qBase s c.crew 0x200 n + 32 * q.tail
              ∨ qBase s c.crew 0x200 n + 32 * q.tail + 32 ≤ a →
              rdB t.host.mem a = rdB s.host.mem a)
          ∧ (cqGet t c.crew n).tail = (q.tail + 1) % qSize s c.crew 0x200 n
          ∧ (hdrBit c 2 = true →
              ctrGet t c.crew (fld c.cmd 5 1) = (ctrGet s c.crew (fld c.cmd 5 1) + 1) % 2 ^ 32)

/-- R283, R285, R288: CTR_SET, CTR_ADD and CTR_READ act on the crew's counter and its error bit, NOP
ends and changes no counter, stream, register or memory; STREAM_OPEN opens the free entry of the
crew's slice that it names at position 0, STREAM_ADV moves it within its length and is refused
beyond it, STREAM_CLOSE frees it where no pass uses it. The model's readings of assumption log 76
are part of it. -/
def Obligations.CounterAndStreamCommands : Prop :=
  ∀ (s : State) (i : Nat) (c : Slot),
    (commandReady s i 0x60 c →
      ∃ t, exec (.ctrSet i) s = .next t ∧ endedWith t i cOK
        ∧ ctrGet t c.crew (fld c.cmd 16 1) = fld c.cmd 20 4
        ∧ ctrErrGet t c.crew (fld c.cmd 16 1) = false ∧ SameMemories s t)
    ∧ (commandReady s i 0x61 c →
      ∃ t, exec (.ctrAdd i) s = .next t ∧ endedWith t i cOK
        ∧ ctrGet t c.crew (fld c.cmd 16 1)
            = (ctrGet s c.crew (fld c.cmd 16 1) + fld c.cmd 20 4) % 2 ^ 32
        ∧ ctrErrGet t c.crew (fld c.cmd 16 1) = ctrErrGet s c.crew (fld c.cmd 16 1)
        ∧ SameMemories s t)
    ∧ (commandReady s i 0x62 c →
      ∃ t c', exec (.ctrRead i) s = .next t ∧ endedWith t i cOK ∧ slotGet t i = some c'
        ∧ c'.result = ctrGet s c.crew (fld c.cmd 16 1)
        ∧ c'.detail = b2n (ctrErrGet s c.crew (fld c.cmd 16 1)) ∧ t.host.ctrs = s.host.ctrs)
    ∧ (commandReady s i 0x63 c →
      ∃ t, exec (.nopCommand i) s = .next t ∧ endedWith t i cOK ∧ t.host.ctrs = s.host.ctrs
        ∧ t.host.streams = s.host.streams ∧ t.regs = s.regs ∧ SameMemories s t)
    ∧ (∀ n, commandReady s i 0x50 c → n = fld c.cmd 16 2 → n ≠ 0xFFFF →
      rf s .crew 0 (0x100 + 16 * c.crew) 13 0 ≤ n →
      n < rf s .crew 0 (0x100 + 16 * c.crew) 13 0 + rf s .crew 0 (0x100 + 16 * c.crew) 30 16 →
      n < 16384 → mget s.host.streams n = none →
      ∃ t, exec (.streamOpen i) s = .next t ∧ endedWith t i cOK
        ∧ streamGet t c.crew n = some
            { crew := c.crew, length := fld c.cmd 24 5, pos := 0, root := fld c.cmd 32 8
              closing := none })
    ∧ ∀ n e, n = fld c.cmd 16 2 → streamGet s c.crew n = some e →
      (commandReady s i 0x51 c → e.pos + fld c.cmd 24 5 ≤ e.length →
        ∃ t, exec (.streamAdv i) s = .next t ∧ endedWith t i cOK
          ∧ streamGet t c.crew n = some { e with pos := e.pos + fld c.cmd 24 5 })
      ∧ (commandReady s i 0x51 c → e.length < e.pos + fld c.cmd 24 5 →
        ∃ t, exec (.streamAdv i) s = .next t ∧ endedWith t i cRANGE
          ∧ t.host.streams = s.host.streams)
      ∧ (commandReady s i 0x52 c → e.closing = none → streamBusy s c.crew n = false →
        ∃ t, exec (.streamClose i) s = .next t ∧ endedWith t i cOK ∧ mget t.host.streams n = none)

/-- R24, R37, R197, R198: SPRINT_WRITE into a shadow set stores the slice, in its places of the
shells' T0, and the tag of the unit in the area that is not live; SPRINT_READY marks the set;
READOUT_LOAD stores a record of the descriptor that names the group in its shadow half. No other
byte of scratch, of the readout slots or of an object changes. The model's readings of assumption
logs 34, 55 and 94 are part of it. -/
def Obligations.SprintCommandsFillShadowSets : Prop :=
  ∀ (s : State) (i g : Nat) (c : Slot),
    (∀ u a k, commandReady s i 0x34 c → g = bits (fld c.cmd 18 2) 11 0 →
      u = bits (fld c.cmd 16 2) 13 0 → a = fld c.cmd 24 8 → k = unitKey (!(setGet s g).area) u →
      inSlice s c.crew g = true → nearCode s c.crew a unitSize = cOK →
      unitRefused s g u = false →
      ∃ t, exec (.sprintWrite i) s = .next t ∧ endedWith t i cOK
        ∧ mget t.sprint.units k = some ⟨g, bits (fld c.cmd 20 1) 1 0, bits (fld c.cmd 21 2) 9 0,
            bits (fld c.cmd 20 1) 4 2, false⟩
        ∧ sliceGet t (!(setGet s g).area) u = rdU s c.crew a unitSize
        ∧ (∀ b, (∀ x, x < unitSize → b ≠ sliceByte s (!(setGet s g).area) u x) →
            rdB t.grid.scratch b = rdB s.grid.scratch b)
        ∧ SameBytes s.sprint.readout t.sprint.readout ∧ SameBytes s.tier.data t.tier.data
        ∧ SameBytes s.host.mem t.host.mem)
    ∧ (commandReady s i 0x35 c → g = bits (fld c.cmd 16 2) 11 0 → inSlice s c.crew g = true →
      ∃ t, exec (.sprintReady i) s = .next t ∧ endedWith t i cOK
        ∧ setGet t g = { setGet s g with ready := true }
        ∧ (∀ g', g' ≠ g → setGet t g' = setGet s g') ∧ SameMemories s t)
    ∧ ∀ n a len, commandReady s i 0x38 c → g = bits (fld c.cmd 16 2) 11 0 → a = fld c.cmd 24 8 →
      len = fld c.cmd 32 4 → inSlice s c.crew g = true → nearCode s c.crew a len = cOK →
      namedBy s g = some n → (∀ gr, groupGet s g = some gr → gr.crew = c.crew) →
      (setGet s g).frozen = false → (setGet s g).retiring = false → n < rf s .sprint 0 0x060 6 0 →
      qpkFor s n g < 16 → readoutSize (qpkFor s n g + 1) = len → fld (rdU s c.crew a len) 0 1 = 1 →
      bits (fld (rdU s c.crew a len) 0 4) 21 18 = qpkFor s n g →
      ∃ t, exec (.readoutLoad i) s = .next t ∧ endedWith t i cOK
        ∧ rdBytes t.sprint.readout (readoutBase n (!(mgetD s.sprint.roLive n false))) len
            = rdU s c.crew a len
        ∧ (∀ b, b < readoutBase n (!(mgetD s.sprint.roLive n false))
            ∨ readoutBase n (!(mgetD s.sprint.roLive n false)) + len ≤ b →
            rdB t.sprint.readout b = rdB s.sprint.readout b)
        ∧ SameDataBytes s t

/-- R298 to R302, R364: a crew reset begins by CREW_RESET, by a Function Level Reset, and for every
enabled crew when PERST_N falls: its transfers and passes stop, its requests that are outstanding
stay so, and its commands leave their slots but for those of programs that still run and for records
not yet written. It finishes, once nothing of the crew is in flight, with the crew's queues
disabled, its slots free and its counters 0; forced while something is, it quarantines the crew's
tags and sets FORCED. SCRUB of an idle crew frees its objects, which read 0, its streams and its
groups. The model's readings of assumption logs 60 and 61 are part of it. -/
def Obligations.CrewsResetAndScrub : Prop :=
  ∀ (s : State) (c : Nat), c < 16 → fabOn s = true →
    (∃ t, exec (.perst true) s = .next t ∧ t = { s with power := { s.power with perstN := true } })
    ∧ (∃ t, exec (.perst false) s = .next t ∧ t.power.perstN = false ∧ t.host.linkUp = false
        ∧ (crewEnabled s c = true → resetting t c = true) ∧ SameMemories s t)
    ∧ (∀ k, (k = .functionLevelReset c)
          ∨ (∃ p m, k = .crewReset p m ∧ pageOpen s .crew 0 ∧ bit m c = true) →
        resetting s c = false →
        ∃ t, exec k s = .next t ∧ resetting t c = true
          ∧ (∀ j l, mget t.tile.lists j = some l → l.crew ≠ c)
          ∧ (∀ j l, mget t.att.lists j = some l → l.crew ≠ c)
          ∧ (∀ r ∈ t.tier.reqs, r.crew = c → r.stray.isSome = true)
          ∧ (∀ i x, slotGet t i = some x → x.crew = c → x.phase = .ended ∨ i ∈ progSlots t c)
          ∧ SameMemories s t)
    ∧ (resetting s c = true →
      (inFlight (idleShells s c) c = 0 →
        ∃ t, exec (.crewResetFinish c) s = .next t ∧ resetting t c = false
          ∧ (∀ i x, slotGet t i = some x → x.crew ≠ c) ∧ (∀ k, k < 256 → ctrGet t c k = 0)
          ∧ (∀ n, n < 8 → qEn t c 0x100 n = false ∧ qEn t c 0x200 n = false)
          ∧ rf t .crew 0 0x04C c c = 0 ∧ SameMemories s t)
      ∧ (inFlight (idleShells s c) c ≠ 0 →
        ∃ t, exec (.crewResetForce c) s = .next t ∧ resetting t c = false
          ∧ (∀ i x, slotGet t i = some x → x.crew ≠ c) ∧ (∀ k, k < 256 → ctrGet t c k = 0)
          ∧ (∀ k tg, mget t.net.tags k = some tg → tg.crew = c → tg.quarantined = true)
          ∧ rf t .crew 0 0x04C c c = 1 ∧ SameMemories s t))
    ∧ ∀ p m, pageOpen s .crew 0 → bit m c = true → scrubOk s c = true →
      (∀ r ∈ s.tier.reqs, r.crew ≠ c) →
      ∃ t, exec (.scrub p m) s = .next t
        ∧ (∀ k, k / 2 ^ 20 = c → mget t.tier.objs k = none)
        ∧ (∀ a, a / 2 ^ 60 = c → rdB t.tier.data a = 0)
        ∧ (∀ g ∈ crewGroups s c, groupGet t g = none)
        ∧ (∀ n, rf s .crew 0 (0x100 + 16 * c) 13 0 ≤ n →
            n < rf s .crew 0 (0x100 + 16 * c) 13 0 + rf s .crew 0 (0x100 + 16 * c) 30 16 →
            mget t.host.streams n = none)

/-- A register that a PCI Express read gives as plain state: it is not blocked, not the lower word of a
pair, not TBL_DATA, and no latch of the port waits for it. -/
def plainRead (s : State) (p : Port) (k : PageKind) (n o : Nat) : Prop :=
  pageOfOff (regOff k n o) = some (k, n) ∧ o < 0x1000 ∧ (regFields k o).isEmpty = false
    ∧ (o < 0x40 ∨ pageBlocked s k n = false) ∧ (k = .parse → o ≠ 0x044)
    ∧ o ∉ pairLo k ∧ mget s.reg.latches (latchKey p (regOff k n o)) = none

/-- R7, R304, R305, R308, R310, R313, R325 to R327, R332: what accesses of registers do. HIRQ_EN
takes its value at once, and the vector goes out once more while HIRQ_PEND is not zero, or is
pending while the host link is down; HIRQ_RAW loses the bits written as 1; HID takes no write and
reads block and instance, HVER reads 1.0 and HCAP 0 but for FEATURE; a reserved register takes no
write and reads 0; an unmapped access only counts; a read of a _LO register latches its _HI; a write
of HEAT.LENGTH is refused alone and collected in the open transaction of its port, and one of
SPRINT.CTRL that clears ARM alone is a shadow. The model's readings of assumption logs 32 and 90 are
part of it. -/
def Obligations.RegisterAccessesFollowTheirFields : Prop :=
  ∀ (s : State), fabOn s = true →
    (∀ (k : PageKind) (n : Nat), n < (pageInfo k).2.1 →
      (∀ (p : Port) (v : Word),
        (∃ t, exec (.registerWrite p (regOff k n 0x018) v) s = .next t
          ∧ rf t k n 0x018 3 0 = v.toNat % 16
          ∧ (∀ off, off ≠ regOff k n 0x018 → regGet t.regs off = regGet s.regs off)
          ∧ t = { s with regs := t.regs, host := { s.host with vectors := t.host.vectors, pba := t.host.pba } }
          ∧ t.host.vectors = (if irqPend t k n ≠ 0 ∧ rf s k n 0x00C 8 8 = 1 ∧ s.host.linkUp = true
              then s.host.vectors ++ [(16, rf s k n 0x00C 6 0)] else s.host.vectors)
          ∧ (∀ q, q ∈ t.host.pba ↔ q ∈ s.host.pba ∨ irqPend t k n ≠ 0 ∧ rf s k n 0x00C 8 8 = 1
              ∧ s.host.linkUp = false ∧ q = (16, rf s k n 0x00C 6 0)))
        ∧ (∃ t, exec (.registerWrite p (regOff k n 0x014) v) s = .next t
          ∧ (∀ i, i < 4 → rf t k n 0x014 i i = if v.toNat.testBit i then 0 else rf s k n 0x014 i i)
          ∧ (∀ off, off ≠ regOff k n 0x014 → regGet t.regs off = regGet s.regs off)
          ∧ t = { s with regs := t.regs, host := { s.host with vectors := t.host.vectors, pba := t.host.pba } })
        ∧ exec (.registerWrite p (regOff k n 0x000) v) s = .next s
        ∧ exec (.registerWrite p (regOff k n 0x030) v) s = .next s)
      ∧ (plainRead s .pcie k n 0x000 →
        exec (.loLatchRead .pcie (regOff k n 0x000)) s = .next { s with reg := { s.reg with
          pcieOut := (BitVec.ofNat 32 ((pageInfo k).2.2 + 2 ^ 12 * n)) } })
      ∧ (plainRead s .pcie k n 0x004 →
        exec (.loLatchRead .pcie (regOff k n 0x004)) s
          = .next { s with reg := { s.reg with pcieOut := 0x100 } })
      ∧ (plainRead s .pcie k n 0x008 →
        exec (.loLatchRead .pcie (regOff k n 0x008)) s
          = .next { s with reg := { s.reg with pcieOut := (if k = .feature then 128 else 0) } })
      ∧ exec (.loLatchRead .pcie (regOff k n 0x030)) s
          = .next { s with reg := { s.reg with pcieOut := 0 } }
      ∧ ∀ o ∈ pairLo k, (o < 0x40 ∨ pageBlocked s k n = false) →
        ∃ t, exec (.loLatchRead .pcie (regOff k n o)) s = .next t
          ∧ t.reg.pcieOut.toNat = regWord s k n o
          ∧ ∀ u : State, fabOn u = true → (o < 0x40 ∨ pageBlocked u k n = false) →
            u.reg.latches = t.reg.latches →
            ∃ w, exec (.loLatchRead .pcie (regOff k n (o + 4))) u = .next w
              ∧ w.reg.pcieOut.toNat = regWord s k n (o + 4)
              ∧ mget w.reg.latches (latchKey .pcie (regOff k n (o + 4))) = none)
    ∧ (∀ (p : Port) (write : Bool) (off : Nat), pageOfOff off = none →
      ∃ t, exec (.unmappedAccess p write off) s = .next t
        ∧ rg t .error 0 0x110 = satAdd 32 (rg s .error 0 0x110) 1
        ∧ (if write = false ∧ p = .pcie then
            OnlyRegs { s with reg := { s.reg with pcieOut := 0 } } t [regOff .error 0 0x110]
          else OnlyRegs s t [regOff .error 0 0x110]))
    ∧ (∀ v : Word, pageOpen s .heat 0 →
      (s.reg.xact.phase = .opened → s.reg.xact.port = .pcie → s.reg.xact.coll.length < 512 →
        exec (.registerWrite .pcie (regOff .heat 0 0x048) v) s = .next { s with reg := { s.reg with
          xact := { s.reg.xact with coll := (collPut s.reg.xact.coll (regOff .heat 0 0x048)
            (BitVec.ofNat 32 (v.toNat % 2 ^ 30))) } } })
      ∧ (s.reg.xact.phase ≠ .opened →
        ∃ t, exec (.registerWrite .pcie (regOff .heat 0 0x048) v) s = .next t
          ∧ t.reg.shadows = s.reg.shadows ∧ t.reg.xact = s.reg.xact
          ∧ rg t .heat 0 0x048 = rg s .heat 0 0x048 ∧ rf t .heat 0 0x014 2 2 = 1))
    ∧ (pageOpen s .sprint 0 → s.reg.xact.phase ≠ .opened →
      exec (.registerWrite .pcie (regOff .sprint 0 0x040) 0) s = .next { s with reg := { s.reg with
        shadows := (mset s.reg.shadows (regOff .sprint 0 0x040) 0) } })

/-- The result register of a port (R316). -/
def resultOff : Port → Nat
  | .pcie => 0x050
  | .mgmt => 0x054

/-- R312, R314, R316: XACT commands and what they answer in the RESULT register of their port. BEGIN
opens an idle transaction for its tag and port, else answers BUSY, with tag 0 NOT_OWNER; COMMIT by
its owner is late at a heat not ahead, and commits where every write keeps its rules; ABORT by its
owner, or with tag 0 from PCI Express, discards it; another's command changes nothing; an open
transaction expires after its idle time. The model's readings of assumption log 32 are part of it.
-/
def Obligations.TransactionsOpenCommitAndAbort : Prop :=
  ∀ (s : State) (p : Port) (tag : Nat), fabOn s = true →
    (pageOpen s .xact 0 →
      (∃ t, exec (.xactBegin p tag) s = .next t
        ∧ (tag % 64 = 0 → t.reg.xact = s.reg.xact ∧ rg t .xact 0 (resultOff p) = 0x51)
        ∧ (tag % 64 ≠ 0 → s.reg.xact.phase ≠ .idle →
            t.reg.xact = s.reg.xact ∧ rg t .xact 0 (resultOff p) = 0x50
            ∧ rg t .xact 0 0x110 = satAdd 32 (rg s .xact 0 0x110) 1)
        ∧ (tag % 64 ≠ 0 → s.reg.xact.phase = .idle →
            t.reg.xact = Xact.mk .opened p (tag % 64) false [] ∧ rg t .xact 0 (resultOff p) = 0
            ∧ t = { s with regs := t.regs, reg := { s.reg with xact := t.reg.xact } }))
      ∧ (∃ t, exec (.xactCommit p tag) s = .next t
        ∧ (ownsXact s p (tag % 64) = false →
            t.reg.xact = s.reg.xact ∧ rg t .xact 0 (resultOff p) = 0x51)
        ∧ (ownsXact s p (tag % 64) = true → s.reg.xact.phase = .committed →
            t.reg.xact = s.reg.xact ∧ rg t .xact 0 (resultOff p) = 0x50)
        ∧ (ownsXact s p (tag % 64) = true → s.reg.xact.phase = .opened →
            xactTarget s ≤ s.heat.num →
            t.reg.xact.phase = .idle ∧ rg t .xact 0 (resultOff p) = 0x52
            ∧ rg t .xact 0 0x108 = satAdd 32 (rg s .xact 0 0x108) 1)
        ∧ (ownsXact s p (tag % 64) = true → s.reg.xact.phase = .opened →
            s.heat.num < xactTarget s → xactTarget s ≤ s.heat.num + 2 ^ 24 →
            s.reg.xact.full = true →
            t.reg.xact.phase = .idle ∧ rg t .xact 0 (resultOff p) = 0x53)
        ∧ (ownsXact s p (tag % 64) = true → s.reg.xact.phase = .opened →
            s.heat.num < xactTarget s → xactTarget s ≤ s.heat.num + 2 ^ 24 →
            s.reg.xact.full = false → firstFailing s = none →
            t.reg.xact = { s.reg.xact with phase := .committed }
            ∧ rg t .xact 0 (resultOff p) = 0
            ∧ t = { s with regs := t.regs, reg := { s.reg with xact := t.reg.xact } }))
      ∧ ∃ t, exec (.xactAbort p tag) s = .next t
        ∧ (ownsXact s p (tag % 64) = false → (tag % 64 ≠ 0 ∨ p = .mgmt) →
            t.reg.xact = s.reg.xact ∧ rg t .xact 0 (resultOff p) = 0x51)
        ∧ ((ownsXact s p (tag % 64) = true ∨ tag % 64 = 0 ∧ p = .pcie) →
            t.reg.xact.phase = .idle ∧ rg t .xact 0 (resultOff p) = 0
            ∧ t.reg.shadows = s.reg.shadows))
    ∧ (s.reg.xact.phase = .opened →
      ∃ t, exec .xactIdleExpiry s = .next t ∧ t.reg.xact.phase = .idle ∧ t.reg.xact.coll = []
        ∧ rg t .xact 0 (resultOff s.reg.xact.port) = 0x54
        ∧ rg t .xact 0 0x10C = satAdd 32 (rg s .xact 0 0x10C) 1)

/-- R313, R317 to R323: the management port. A whole write frame with a right CRC is the register
write it spells, counted; one of kind OP 2 with the owner's tag is collected in the open
transaction; the read pointer holds for one read, which answers with status 0, 4 where the register
is blocked, 3 without a pointer, 2 after a spoilt one, 1 after 25 µs; discarded frames are counted
by their cause; the bus timeout leaves the port idle. The model's readings of assumption log 38 are
part of it. -/
def Obligations.ManagementFramesReadAndWrite : Prop :=
  ∀ (s : State), fabOn s = true →
    (∀ f : List Byte, forPort s f = true → frameWhole f = true → frameCrcOk f = true →
      (frameOp f = 0 → exec (.mgmtWrite f) s
          = exec (.registerWrite .mgmt (frameOff f) (BitVec.ofNat 32 (fld f 5 4)))
              (bumpC (noPointer s) .mgmt 0 0))
      ∧ (frameOp f = 2 → frameOff f = regOff .heat 0 0x048 → pageOpen s .heat 0 →
        s.reg.xact.phase = .opened → s.reg.xact.port = .mgmt → s.reg.xact.coll.length < 512 →
        ∃ t, exec (.mgmtTransactionalWrite f) s = .next t
          ∧ t.reg.shadows = s.reg.shadows
          ∧ rg t .mgmt 0 0x100 = satAdd 32 (rg s .mgmt 0 0x100) 1
          ∧ (frameTag f = s.reg.xact.owner → t.reg.xact = { s.reg.xact with
              coll := (collPut s.reg.xact.coll (regOff .heat 0 0x048)
                (BitVec.ofNat 32 (fld f 5 4 % 2 ^ 30))) })
          ∧ (frameTag f ≠ s.reg.xact.owner →
            t.reg.xact = s.reg.xact ∧ rf t .heat 0 0x014 2 2 = 1))
      ∧ (frameOp f = 1 → exec (.mgmtSetReadPointer f) s = .next { s with reg := { s.reg with
          readPtr := (some (frameOff f)), ptrCrcBad := false } }))
    ∧ (∀ addr : Byte, addr.toNat = mgmtAddr s + 1 →
      (∀ k n o, s.reg.readPtr = some (regOff k n o) →
        (plainRead s .mgmt k n o → ∃ t, exec (.mgmtRead addr) s = .next t
          ∧ t.reg.mgmtOut = readBytes addr (regWord s k n o) 0 ∧ t.reg.readPtr = none
          ∧ rg t .mgmt 0 0x104 = satAdd 32 (rg s .mgmt 0 0x104) 1)
        ∧ (pageOfOff (regOff k n o) = some (k, n) → 0x40 ≤ o → o < 0x1000 →
          (regFields k o).isEmpty = false → pageBlocked s k n = true →
          ∃ t, exec (.mgmtRead addr) s = .next t
            ∧ t.reg.mgmtOut = readBytes addr (2 ^ 32 - 1) 4 ∧ t.reg.readPtr = none))
      ∧ (s.reg.readPtr = none → ∃ t, exec (.mgmtRead addr) s = .next t
        ∧ t.reg.mgmtOut = readBytes addr (2 ^ 32 - 1) (if s.reg.ptrCrcBad then 2 else 3)
        ∧ t.reg.ptrCrcBad = false ∧ SameMemories s t)
      ∧ (∀ off, s.reg.readPtr = some off → ∃ t, exec (.mgmtReadTimeout addr) s = .next t
        ∧ t.reg.mgmtOut = readBytes addr (2 ^ 32 - 1) 1 ∧ t.reg.readPtr = none
        ∧ rg t .mgmt 0 0x114 = satAdd 32 (rg s .mgmt 0 0x114) 1))
    ∧ (∀ (f : List Byte) (cut : Bool), forPort s f = true →
      (frameNacked f = true → ∃ t, exec (.mgmtFrameDiscard f cut) s = .next t
        ∧ rg t .mgmt 0 0x110 = satAdd 32 (rg s .mgmt 0 0x110) 1 ∧ t.reg.readPtr = none)
      ∧ (frameNacked f = false → frameWhole f = false →
        ∃ t, exec (.mgmtFrameDiscard f cut) s = .next t
          ∧ rg t .mgmt 0 0x108 = satAdd 32 (rg s .mgmt 0 0x108) 1 ∧ t.reg.readPtr = none)
      ∧ (frameWhole f = true → frameCrcOk f = false → cut = false →
        ∃ t, exec (.mgmtFrameDiscard f cut) s = .next t
          ∧ rg t .mgmt 0 0x10C = satAdd 32 (rg s .mgmt 0 0x10C) 1 ∧ t.reg.readPtr = none))
    ∧ exec .mgmtBusTimeout s
        = .next { s with reg := { s.reg with readPtr := none, ptrCrcBad := false } }

/-- A command completes and clears the registers at some offsets, and nothing else. -/
def clears (c : Instr) (s : State) (offs : List Nat) : Prop :=
  ∃ t, exec c s = .next t ∧ RegsCleared s t offs

/-- R41, R76, R102, R125, R140, R202, R220, R237, R256, R275, R323, R331, R334, R338, R340, R397:
the CLR bit of a page clears the page's counters (NUMF the flags of every crew and of the sprint,
ATTN the pairs counted, ERROR the log and its overflow, HOST the counter, PEAK taking the slots in
use, NET the probe counts and trace buffers too) and leaves everything else as it was. The model's
readings of assumption logs 20 and 36 are part of it. -/
def Obligations.ClearBitsClearTheirCounters : Prop :=
  ∀ (s : State) (p : Port),
    (pageOpen s .numf 0 →
      clears (.numfClr p) s (counterOffs .numf 0 0x080 16 ++ [regOff .numf 0 0x0C0]))
    ∧ (pageOpen s .tier 0 → clears (.tierClr p) s (counterOffs .tier 0 0x500 11))
    ∧ (pageOpen s .coll 0 → clears (.collClr p) s (counterOffs .coll 0 0x100 8))
    ∧ (∀ d, pageOpen s .tile (d % 8) →
      clears (.tileClr p d) s (counterOffs .tile (d % 8) 0x100 6))
    ∧ (pageOpen s .mgmt 0 → clears (.mgmtClr p) s (counterOffs .mgmt 0 0x100 7))
    ∧ (pageOpen s .heat 0 → clears (.heatClr p) s (counterOffs .heat 0 0x100 4))
    ∧ (pageOpen s .power 0 → clears (.powerClr p) s (counterOffs .power 0 0x100 4))
    ∧ (pageOpen s .twin 0 → clears (.twinClr p) s (counterOffs .twin 0 0x100 14))
    ∧ (∀ n, pageOpen s .eport (n % 2) →
      clears (.eportClrCounters p n) s (counterOffs .eport (n % 2) 0x200 24))
    ∧ (∀ l, pageOpen s (linkPage l).1 (linkPage l).2 →
      clears (.linkClr p l) s (counterOffs (linkPage l).1 (linkPage l).2 0x100 10))
    ∧ (pageOpen s .sprint 0 → clears (.sprintClrCounters p) s
        (counterOffs .sprint 0 0x048 6
          ++ (List.range 64).map fun n => regOff .sprint 0 (0x10C + 16 * n)))
    ∧ (pageOpen s .attn 0 → ∃ t, exec (.attnClr p) s = .next t
        ∧ RegsCleared { s with att := { s.att with pairs := [] } } t
            ((List.range 8).flatMap fun d => counterOffs .attn 0 (0x100 + 0x10 * d) 4))
    ∧ (pageOpen s .host 0 → ∃ t, exec (.hostClr p) s = .next t
        ∧ RegsCleared { s with host := { s.host with peak := s.host.slots.length } } t
            [regOff .host 0 0x044])
    ∧ (∀ d, pageOpen s .net (d % 9) → ∃ t, exec (.netClr p d) s = .next t
        ∧ RegsCleared { s with net := { s.net with
              traces := mfilter s.net.traces fun k _ => k / 4096 != d % 9 } } t
            (counterOffs .net (d % 9) 0x400 7 ++ (List.range 4).flatMap fun b =>
              counterOffs .net (d % 9) (0x114 + 0x20 * b) 3))
    ∧ (pageOpen s .error 0 → ∃ t, exec (.errorClr p) s = .next t
        ∧ OnlyRegs { s with reg := { s.reg with log := [] } } t
            (regOff .error 0 0x044 :: counterOffs .error 0 0x100 5)
        ∧ rf t .error 0 0x044 8 8 = 0
        ∧ ∀ off ∈ counterOffs .error 0 0x100 5, regGet t.regs off = 0)

/-- R328, R341, R354, R363: a write of 0xA5 to GLOBAL.CTRL takes a warm reset, any other value
nothing: shadows and the transaction are discarded, the compute dies are held in reset with grid,
tiles and attention as after reset, every T1 object that stood is poisoned, and RESET_CAUSE.WARM is
set. SAG_RESET on a die that is powered does the same with RESET_CAUSE.SAG and is counted; in a
reset it is only counted. COMPUTE_READY takes the dies out of it with their PLLs locked. The model's
readings of assumption logs 25 and 27 are part of it. -/
def Obligations.WarmAndSagResetsClearTheDies : Prop :=
  ∀ (s : State), fabOn s = true →
    (∀ (p : Port) (v : Word),
      (v.toNat % 256 ≠ 0xA5 → exec (.warmReset p v) s = .next s)
      ∧ (v.toNat % 256 = 0xA5 → ∃ t, exec (.warmReset p v) s = .next t
        ∧ rf t .global 0 0x054 1 1 = 1 ∧ t.reg.shadows = [] ∧ t.reg.xact.phase = .idle
        ∧ t.power.diesReset = true ∧ t.grid = GridSt.reset ∧ t.tile = TileSt.reset
        ∧ t.att = AttnSt.reset ∧ t.heat.num = s.heat.num ∧ t.ud.vcount = s.ud.vcount
        ∧ ∀ k o, mget t.tier.objs k = some o → o.tier = 1 → o.state = 2 ∨ o.state = 3))
    ∧ (∀ dies d, d < 8 → bit dies d = true → bit s.power.offDies d = false →
      (s.power.diesReset = false → ∃ t, exec (.sagReset dies) s = .next t
        ∧ rf t .global 0 0x054 2 2 = 1 ∧ t.reg.shadows = [] ∧ t.reg.xact.phase = .idle
        ∧ t.power.diesReset = true ∧ t.power.sagReset = true ∧ t.grid = GridSt.reset
        ∧ rg t .power 0 0x104 = satAdd 32 (rg s .power 0 0x104) 1)
      ∧ (s.power.diesReset = true → 4 ≤ s.power.stage → ∃ t, exec (.sagReset dies) s = .next t
        ∧ OnlyRegs { s with power := { s.power with sagReset := true } } t
            [regOff .power 0 0x104, regOff .global 0 0x054]
        ∧ rg t .power 0 0x104 = satAdd 32 (rg s .power 0 0x104) 1))
    ∧ exec .sagResetRelease s = .next { s with power := { s.power with sagReset := false } }
    ∧ (s.power.failed = false → s.power.sagReset = false → s.power.diesReset = true →
      3 ≤ s.power.stage → ∃ t, exec .computeReady s = .next t ∧ t.power.diesReset = false
        ∧ 4 ≤ t.power.stage ∧ s.power.stage ≤ t.power.stage ∧ rf t .clock 0 0x040 7 0 = 255)

/-- R341, R347, R358, R359, R363, R366: RESET_N low, RAILS_OK low and VDD_FAB low each take a cold
reset: registers and transaction, heat, objects and log are as after reset, RESET_CAUSE.COLD reads
1, and the seal with its pages and the loom's erase counts and bad blocks stay. RESET_RELEASE
samples the straps and reaches stage 1, a stern without a twin failing there. The model's readings
of assumption logs 22, 23 and 24 are part of it. -/
def Obligations.ColdResetsSpareTheSeal : Prop :=
  (∀ (s : State), ∀ c ∈ [Instr.resetNAssert, .railsOkFall, .vddFabLow],
    ∃ t, exec c s = .next t ∧ fabOn t = false ∧ t.heat = State.reset.heat
      ∧ t.reg = State.reset.reg ∧ t.tier.objs = [] ∧ t.twin = State.reset.twin
      ∧ t.links = State.reset.links ∧ t.ud = s.ud ∧ rf t .global 0 0x054 0 0 = 1
      ∧ (∀ off, 0x60000 ≤ off → regGet t.regs off = regGet s.regs off)
      ∧ (∀ b, (blockGet t b).erases = (blockGet s b).erases ∧ (blockGet t b).bad = (blockGet s b).bad)
      ∧ (c = .resetNAssert → t.power.resetN = false) ∧ (c = .railsOkFall → t.power.railsOk = false))
  ∧ ∀ (s : State) (straps : Nat), s.power.stage = 0 → s.power.failed = false →
      s.power.tripped = false →
      ∃ t, exec (.resetRelease straps) s = .next t ∧ fabOn t = true
        ∧ t.power.straps = straps % 64
        ∧ t.power.failed = (bit straps 3 && !bit straps 4)
        ∧ t.power.stage = (if t.power.failed then 0 else 1)
        ∧ t = { s with regs := t.regs, power := t.power } ∧ rf t .clock 0 0x040 24 24 = 1

/-- R330, R340, R366 to R374, R377, R379: start-up. The first slot in order whose image passes runs
and gives stage 2, no slot stops it; training reaches stage 3 unless a T2 channel fails, with the
fitted T3 of at most 2 TiB, T4_CAP seven eighths of a raw capacity of at most 64 TiB, the spares,
and the blocks marked bad at manufacture bad; a PLL late, or T2 failing, stops it with FAILED;
FEATURE.CTRL.LOCK, once and with bit 0 accepted, locks ACCEPT AND OFFER; the twin stage ends
detached when the port is late; event ports come up from stage 5 on when enabled, and the host link
while PERST_N is high, with the vectors that were pending. The model's readings of assumption logs
24, 25, 29 and 90 are part of it. -/
def Obligations.StartUpAdvancesByStages : Prop :=
  ∀ (s : State), fabOn s = true →
    (∀ a b : List Byte, s.power.stage = 1 → s.power.failed = false →
      exec (.firmwareBoot a b) s = .next { s with
        power := match (if bit s.power.straps 5 then [b, a] else [a, b]).find?
            (imageOk Config.fusedKeyHash Config.fusedMinSvn) with
          | some img => { s.power with
              stage := 2, version := fld img 4 4, offer := fld img 16 16 % 2 ^ 128 }
          | none => { s.power with failed := true } })
    ∧ (∀ h d o u c r sp m : Nat, s.power.stage = 2 → s.power.failed = false →
      (h % 256 = 0 → ∃ t, exec (.memoryTrainingDone h d o u c r sp m) s = .next t
        ∧ t.power.stage = 3 ∧ t.power.failed = false ∧ t.tier.t3Units = min u (2 ^ 25)
        ∧ t.tier.rawBlocks = r ∧ rf t .clock 0 0x040 21 12 = 1023
        ∧ rg t .tier 0 0x054 = min c (2 ^ 30) * 7 / 8 ∧ rg t .tier 0 0x058 = min sp (r / 8) % 2 ^ 32
        ∧ rf t .tier 0 0x044 0 0 = b2n (min sp (r / 8) = 0)
        ∧ (∀ b, b < r → bit m b = true → (blockGet t b).bad = true)
        ∧ ∀ b, (blockGet t b).erases = (blockGet s b).erases)
      ∧ (h % 256 ≠ 0 → exec (.memoryTrainingDone h d o u c r sp m) s
          = .next { s with power := { s.power with failed := true } }))
    ∧ (∀ d, d < 8 → s.power.stage = 3 → rf s .clock 0 0x040 d d = 0 →
      exec (.oarPllLockTimeout d) s = .next { s with power := { s.power with failed := true } })
    ∧ (∀ p : Port, pageOpen s .feature 0 → ∃ t, exec (.featureLock p) s = .next t
      ∧ (locked s = false → bit (rg s .feature 0 0x050) 0 = true →
        locked t = true ∧ ∀ k, k < 4 → rg t .feature 0 (0x070 + 4 * k)
          = rg s .feature 0 (0x050 + 4 * k) &&& (s.power.offer / 2 ^ (32 * k) % 2 ^ 32))
      ∧ (locked s = true ∨ bit (rg s .feature 0 0x050) 0 = false →
        rf t .feature 0 0x020 30 30 = 1 ∧ locked t = locked s
        ∧ ∀ k, k < 4 → rg t .feature 0 (0x070 + 4 * k) = rg s .feature 0 (0x070 + 4 * k)))
    ∧ (s.power.stage = 7 → twinPresent s = true → (linkGet s 16).state ≠ 3 →
      ∃ t, exec .twinStageTimeout s = .next t ∧ t.twin.pair = 2 ∧ 8 ≤ t.power.stage
        ∧ t = { s with twin := t.twin, power := t.power })
    ∧ (∀ n, n < 2 → stageGe s 5 = true → epCfg s n 0 = true →
      ∃ t, exec (.eportLinkUp n) s = .next t ∧ rf t .eport n 0x044 0 0 = 1
        ∧ rf t .clock 0 0x040 (9 + n) (9 + n) = 1
        ∧ OnlyRegs s t [regOff .eport n 0x044, regOff .clock 0 0x040])
    ∧ (∀ w v, s.power.perstN = true →
      ∃ t, exec (.hostLinkUp w v) s = .next t ∧ rf t .clock 0 0x040 11 11 = 1
        ∧ OnlyRegs { s with host := { s.host with
              linkUp := true, width := w, speed := v, vectors := s.host.vectors ++ s.host.pba, pba := [] } } t
            [regOff .clock 0 0x040])

/-- R335, R351 to R357, R361, R363, R428: the supply, temperature and clocks. A sag warning on a powered
die pulls SAG_WARN_N low and is counted; in a slot sensors are refreshed and THERM_WARN says whether one
is above the limit; a trip stops the device's clocks and is recorded by the seal; the loss of a clock
clears its bit of LOCK and sets it in LOSS, an oar PLL's taking a warm reset, the fabric PLL's a
cold one, and the loss of the copy of seal time ends TIME_OK; the reference returns; a die powered
up again is no longer off. The model's readings of assumption logs 26, 73 and 80 are part of it. -/
def Obligations.SupplyTemperatureAndClocks : Prop :=
  ∀ (s : State), fabOn s = true →
    (∀ dies d, d < 8 → bit dies d = true → bit s.power.offDies d = false →
      s.power.sagWarnN = true → ∃ t, exec (.sagWarning dies) s = .next t
        ∧ t.power = { s.power with sagWarnN := false, warnSince := true, dirtyHeat := true }
        ∧ rg t .power 0 0x100 = satAdd 32 (rg s .power 0 0x100) 1 ∧ rf t .power 0 0x014 1 1 = 1)
    ∧ exec .sagWarningRelease s = .next { s with power := { s.power with sagWarnN := true } }
    ∧ (∀ (temps : List Nat) (tm : Time), slotMay s 0 0 = true →
      ∃ t, exec (.telemetrySampling temps tm) s = .next t ∧ mgetD t.back.last (actKey 0 0) 0 = tm
      ∧ (∀ k v, k < 9 → temps[k]? = some v → rg t .power 0 (0x080 + 4 * k) = v % 4096)
      ∧ (rf t .power 0 0x040 2 2 = 1 ↔ ∃ k, k < 9 ∧ signed 12 (rf s .power 0 0x04C 11 0)
          < signed 12 (rf t .power 0 (0x080 + 4 * k) 11 0)))
    ∧ (∀ now : Time, ∃ t, exec (.thermalTrip now) s = .next t ∧ fabOn t = false
      ∧ t.power = { s.power with thermTripN := false, tripped := true }
      ∧ (sealOn s → t.ud.seq = s.ud.seq + 1) ∧ (¬ sealOn s → t.ud = s.ud))
    ∧ (∀ i, rf s .clock 0 0x040 i i = 1 →
      (i < 25 → i ≠ 8 → i ≠ 22 → i ≠ 23 →
        ∃ t, exec (.clockLoss i) s = .next t ∧ rf t .clock 0 0x040 i i = 0
        ∧ rf t .clock 0 0x044 i i = 1 ∧ t.heat = s.heat
        ∧ (i < 8 → t.power.diesReset = true ∧ rf t .global 0 0x054 1 1 = 1 ∧ t.grid = GridSt.reset)
        ∧ (i = 9 ∨ i = 10 → rf t .eport (i - 9) 0x044 0 0 = 0)
        ∧ (i = 11 → t.host.linkUp = false)
        ∧ (12 ≤ i → i < 20 → bit (chDown t 2) (i - 12) = true))
      ∧ (i = 8 → ∃ t, exec (.clockLoss i) s = .next t ∧ fabOn t = false ∧ t.heat = State.reset.heat
        ∧ t.reg = State.reset.reg))
    ∧ (s.ud.copyValid = false → s.heat.timeOk = true → ∃ t, exec (.clockLoss 25) s = .next t
      ∧ t.heat = { s.heat with timeOk := false, hold := false } ∧ t.net.held = []
      ∧ rg t .heat 0 0x108 = satAdd 32 (rg s .heat 0 0x108) (heldCount s))
    ∧ (∃ t, exec .referenceReturn s = .next t ∧ rf t .clock 0 0x040 24 24 = 1
      ∧ OnlyRegs s t [regOff .clock 0 0x040])
    ∧ (∀ d, d < 8 → bit s.power.offDies d = true → rf s .power 0 0x054 d d = 0 →
      ∃ t, exec (.diePowerUpDone d) s = .next t ∧ bit t.power.offDies d = false
        ∧ (∀ d', d' < 8 → d' ≠ d → bit t.power.offDies d' = bit s.power.offDies d')
        ∧ (∀ k, k / 256 = d → mget t.grid.shells k = none)
        ∧ t.regs = s.regs ∧ t.tier = s.tier)

/-- R382, R385 to R388: digests and compare-before-emit. A DIGEST that agrees with the own record of
the heat awaited is counted; one whose HEAT or CFG differs, or whose sums differ at equal counts,
raises the alarm, is recorded and makes the fence due; one whose counts alone differ raises only the
alarm, and a missing one is counted with the alarm. In compare-before-emit an equal CBE_DIGEST
releases the token held, a different one suppresses it with alarm and fence, CBE_LATE and silence
suppress it, each with its counter; a message that comes more than 90 ns after the decision was
ready finds it suppressed as absent, and is an orphan; one for a token not ready waits, one after
the own outcome is an orphan. The model's readings of assumption logs 51, 52 and 56 are part of it. -/
def Obligations.TwinsCompareDigestsAndDecisions : Prop :=
  (∀ (s : State) (m : DigestMsg) (rx h : Nat) (own : Digest), fabOn s = true → s.twin.pair = 1 →
    s.twin.awaiting = some h → mget s.twin.digests h = some own →
    ∃ t, exec (.digest m rx) s = .next t ∧ t.twin.awaiting = none ∧ mget t.twin.digests h = none
      ∧ t.twin.fenced = s.twin.fenced ∧ t.now = max s.now rx
      ∧ (m.heat = h → m.cfg = own.cfg → m.nDec = own.nDec → m.nSum = own.nSum →
          m.dec = own.dec → m.sum = own.sum →
          rg t .twin 0 0x100 = satAdd 32 (rg s .twin 0 0x100) 1
          ∧ t.twin.fenceDue = s.twin.fenceDue)
      ∧ (m.heat ≠ h ∨ m.cfg ≠ own.cfg ∨ (m.nDec = own.nDec ∧ m.nSum = own.nSum
            ∧ (m.dec ≠ own.dec ∨ m.sum ≠ own.sum)) →
          t.twin.fenceDue = true ∧ rf t .twin 0 0x044 6 6 = 1
          ∧ rg t .twin 0 0x050 = h % 2 ^ 32 ∧ rf t .twin 0 0x020 30 30 = 1)
      ∧ (m.heat = h → m.cfg = own.cfg → (m.nDec ≠ own.nDec ∨ m.nSum ≠ own.nSum) →
          t.twin.fenceDue = s.twin.fenceDue ∧ rf t .twin 0 0x044 6 6 = 1
          ∧ rg t .twin 0 0x108 = satAdd 32 (rg s .twin 0 0x108) 1))
  ∧ (∀ (s : State) (h : Nat), fabOn s = true → s.twin.awaiting = some h →
    ∃ t, exec .digestMissing s = .next t
      ∧ t.twin = { s.twin with awaiting := none, digests := mdel s.twin.digests h }
      ∧ rf t .twin 0 0x044 6 6 = 1 ∧ rg t .twin 0 0x10C = satAdd 32 (rg s .twin 0 0x10C) 1)
  ∧ (∀ (s : State) (id : TokenId) (t : Time) (emit : Bool) (e : DWord), fabOn s = true →
    cbeActive s = true →
    (∀ x, s.sprint.tokens.find? (fun x => x.phase = .heldCbe && tokenId x = id) = some x →
      t ≤ x.cbeAt + 360 →
      (emit = x.emit → e = x.entry →
        ∃ u, exec (.cbeDigest id emit e t) s = .next u ∧ tokenOf u x.tag = none
          ∧ u.twin.fenceDue = s.twin.fenceDue
          ∧ (sendsFrame x = true → ∃ f, (epGet u (tmplPort x)).egress
              = (epGet s (tmplPort x)).egress ++ [⟨f, x.desc, x.tmpl, x.tok.ingress, x.tok.msg⟩]))
      ∧ (emit ≠ x.emit ∨ e ≠ x.entry →
        ∃ u, exec (.cbeDigest id emit e t) s = .next u ∧ tokenOf u x.tag = none
          ∧ u.ports = s.ports ∧ u.twin.fenceDue = true ∧ rf u .twin 0 0x044 6 6 = 1
          ∧ rg u .twin 0 0x110 = satAdd 32 (rg s .twin 0 0x110) 1)
      ∧ ∃ u, exec (.cbeLate id t) s = .next u ∧ tokenOf u x.tag = none ∧ u.ports = s.ports
          ∧ u.twin.fenceDue = s.twin.fenceDue
          ∧ rg u .twin 0 0x114 = satAdd 32 (rg s .twin 0 0x114) 1)
    ∧ (∀ x, s.sprint.tokens.find? (fun x => x.phase = .heldCbe && tokenId x = id) = some x →
      x.cbeAt + 360 < t → ∃ u, exec (.cbeDigest id emit e t) s = .next u ∧ tokenOf u x.tag = none
        ∧ u.ports = s.ports ∧ u.twin.fenceDue = s.twin.fenceDue
        ∧ rg u .twin 0 0x118 = satAdd 32 (rg s .twin 0 0x118) 1
        ∧ rg u .twin 0 0x11C = satAdd 32 (rg s .twin 0 0x11C) 1)
    ∧ ((∀ x ∈ s.sprint.tokens, x.phase = .heldCbe → tokenId x ≠ id) →
      (id ∈ s.twin.cbeDone → ∃ u, exec (.cbeLate id t) s = .next u ∧ u.twin = s.twin
          ∧ u.sprint = s.sprint ∧ rg u .twin 0 0x11C = satAdd 32 (rg s .twin 0 0x11C) 1)
      ∧ (id ∉ s.twin.cbeDone → exec (.cbeDigest id emit e t) s = .next { s with
          now := max s.now t
          twin := { s.twin with cbeEarly := s.twin.cbeEarly ++ [(id, some (emit, e))] } })))
  ∧ ∀ (s : State) (tag : Nat) (t : Time) (x : Token), fabOn s = true → tokenOf s tag = some x →
    x.phase = .heldCbe → x.cbeAt + 360 ≤ t →
    ∃ u, exec (.cbeTimeout tag t) s = .next u ∧ tokenOf u tag = none ∧ u.ports = s.ports
      ∧ rg u .twin 0 0x118 = satAdd 32 (rg s .twin 0 0x118) 1

/-- R382, R387, R389, R391, R393: leaving and returning. DETACH and UNFENCE of a pair wait for the
boundary, own and partner's alike; DETACH in a reattachment abandons it; a CONTROL of the own role
is none of a partner's. With both twins asking and the port up, the twin that left enters RESYNC
with every unit to come, and the survivor copies. A unit that comes stands at its place in the area,
in the T0 of its shell, and no other byte of scratch changes; with the last one the twin is READY.
SWAP exchanges the group's area and the readout slots of its descriptors. R394, R395:
PEER_TIME_READ. A read of a link in state 3 sets its offset; a device with no peer is not adrift;
otherwise the median of its peers' offsets is the register, a median beyond 100 ns counts, and the
third in a row marks the device adrift; one within counts none. The model's readings of assumption
logs 34, 57 and 58 are part of it. -/
def Obligations.TwinsLeaveReturnAndDrift : Prop :=
  (∀ (s : State), fabOn s = true →
     (∀ p : Port, pageOpen s .twin 0 →
       (∃ t, exec (.detach p) s = .next t
         ∧ (s.twin.pair = 1 → s.twin.returning = false →
             t.twin.pair = 1 ∧ t.twin.detOwn = true ∧ t.twin.detPeer = s.twin.detPeer)
         ∧ (s.twin.pair = 3 ∨ s.twin.pair = 4 →
             t.twin.pair = 2 ∧ t.twin.returning = false ∧ t.twin.resync = 0
             ∧ rg t .twin 0 0x12C = satAdd 32 (rg s .twin 0 0x12C) 1))
       ∧ (s.twin.pair = 1 ∨ s.twin.pair = 2 → ∃ t, exec (.unfence p) s = .next t
         ∧ t.twin.unfOwn = true ∧ t.twin.pair = s.twin.pair ∧ t.twin.fenced = s.twin.fenced)
       ∧ (s.twin.pair = 2 → s.twin.returning = false → ∃ t, exec (.reattach p) s = .next t
         ∧ (s.twin.rePeer = false → t.twin.pair = 2 ∧ t.twin.reOwn = true)
         ∧ (s.twin.rePeer = true → linkUp (linkGet s 16) = true → s.twin.left ≠ s.twin.peerLeft →
             resyncTotal s ≠ 0 →
             t.twin.resync = resyncTotal s ∧ t.twin.reOwn = false
             ∧ t.twin.pair = (if s.twin.left then 3 else 2)
             ∧ t.twin.returning = !s.twin.left)))
     ∧ (∀ (c : Control) (n : Nat), exec (.control c (isStern s) n) s = .next s)
     ∧ (s.twin.pair = 1 → s.twin.returning = false → ∀ n : Nat,
       exec (.control .detach (!isStern s) n) s
           = .next { s with twin := { s.twin with detPeer := true } }
       ∧ exec (.control .unfence (!isStern s) n) s
           = .next { s with twin := { s.twin with unfPeer := true } })
     ∧ (s.twin.pair = 2 → s.twin.reOwn = false →
       exec (.control .reattach (!isStern s) (rf s .attn 0 0x044 4 0)) s
           = .next { s with twin := { s.twin with rePeer := true } })
     ∧ (s.twin.pair = 2 → ∀ n, n ≠ rf s .attn 0 0x044 4 0 →
       ∃ t, exec (.control .reattach (!isStern s) n) s = .next t ∧ t.twin.pair = 2
         ∧ t.twin.reOwn = false ∧ t.twin.rePeer = false ∧ rf t .twin 0 0x020 30 30 = 1)
     ∧ (∀ (area unit g layer bolt kv : Nat) (b : List Byte), s.twin.pair = 3 → area < 2 →
       unit < 16384 → b.length = unitSize → ∃ t, exec (.resyncUnit area unit g layer bolt kv b) s = .next t
         ∧ sliceGet t (area = 1) unit = b
         ∧ (∀ a, (∀ x, x < unitSize → a ≠ sliceByte s (area = 1) unit x) →
             rdB t.grid.scratch a = rdB s.grid.scratch a)
         ∧ mget t.sprint.units (unitKey (area = 1) unit)
             = (if g = 4096 then none else some ⟨g, layer, bolt, kv, false⟩)
         ∧ (∀ k, k ≠ unitKey (area = 1) unit → mget t.sprint.units k = mget s.sprint.units k)
         ∧ (unitKey (area = 1) unit ∉ s.twin.copied →
             t.twin.resync = s.twin.resync - 1
             ∧ t.twin.pair = (if s.twin.resync - 1 = 0 then 4 else 3))
         ∧ (unitKey (area = 1) unit ∈ s.twin.copied → t.twin = s.twin))
     ∧ (∀ g, s.twin.pair = 3 ∨ s.twin.pair = 4 ∨ s.twin.swapLast = true → ∃ t, exec (.swap [g]) s = .next t
         ∧ setGet t g = { setGet s g with area := !(setGet s g).area, liveFrom := s.heat.num }
         ∧ (∀ g', g' ≠ g → setGet t g' = setGet s g')
         ∧ (∀ n, n < 64 → mgetD t.sprint.roLive n false
             = (mgetD s.sprint.roLive n false != (dEn (dCfg s n) && dGroup (dCfg s n) = g))
             ∧ mget t.sprint.roFrom n = (if dEn (dCfg s n) && dGroup (dCfg s n) = g
                 then some s.heat.num else mget s.sprint.roFrom n))
         ∧ t = { s with
             twin := { s.twin with swapLast := false }
             sprint := { s.sprint with
               sets := t.sprint.sets, roLive := t.sprint.roLive
               roFrom := t.sprint.roFrom } }))
  ∧ (∀ (s : State), fabOn s = true →
     ∀ (reads : List (Nat × Nat × Nat × Nat)), ∃ t, exec (.peerTimeRead reads) s = .next t
       ∧ (∀ l a b f, reads = [(l, a, b, f)] → l < 16 → (linkGet s l).state = 3 →
           mget t.twin.offsets l = some ((f : Int) - ((a + b) / 2 : Nat)))
       ∧ (peerOffsets t = [] → t.twin.adrift = false)
       ∧ (peerOffsets t ≠ [] →
           rg t .twin 0 0x04C = unsigned 32 (median (peerOffsets t))
           ∧ (400 < (median (peerOffsets t)).natAbs →
               t.twin.badRow = s.twin.badRow + 1
               ∧ t.twin.adrift = (s.twin.adrift || decide (2 ≤ s.twin.badRow)))
           ∧ ((median (peerOffsets t)).natAbs ≤ 400 →
               t.twin.badRow = 0 ∧ t.twin.adrift = s.twin.adrift))
       ∧ SameMemories s t ∧ t.heat = s.heat ∧ t.links = s.links)

/-- The export ring takes a block (R417): enabled, of 2 slots or more, not full. -/
def ringTakes (s : State) : Prop :=
  rf s .ledger 0 0x048 0 0 = 1 ∧ 2 ≤ rf s .ledger 0 0x048 16 1
    ∧ (rf s .ledger 0 0x04C 15 0 + 1) % rf s .ledger 0 0x048 16 1 ≠ rf s .ledger 0 0x050 15 0

/-- Where the next block goes in host memory (R417): slots of 16,640 bytes from the ring's base. -/
def ringSlot (s : State) : Nat :=
  rg s .ledger 0 0x040 + 2 ^ 32 * rg s .ledger 0 0x044 + rf s .ledger 0 0x04C 15 0 * 16640

/-- A block was exported, or dropped and counted (R417). -/
def exported (s t : State) (b : LBlock) : Prop :=
  (ringTakes s → rdBytes t.host.mem (ringSlot s) b.bytes.length = b.bytes
    ∧ (∀ a, a < ringSlot s ∨ ringSlot s + b.bytes.length ≤ a → rdB t.host.mem a = rdB s.host.mem a)
    ∧ rg t .ledger 0 0x04C = (rf s .ledger 0 0x04C 15 0 + 1) % rf s .ledger 0 0x048 16 1
    ∧ rg t .ledger 0 0x100 = satAdd 32 (rg s .ledger 0 0x100) 1)
  ∧ (¬ ringTakes s → t.host.mem = s.host.mem ∧ rg t .ledger 0 0x04C = rg s .ledger 0 0x04C
    ∧ rg t .ledger 0 0x104 = satAdd 32 (rg s .ledger 0 0x104) 1 ∧ rf t .ledger 0 0x014 1 1 = 1)

/-- R404, R407 to R413, R415, R417: the tap and the ledger while the seal measures. A message is
held, or lost and counted with 65,536 held; AGGREGATE messages of ended windows leave; the first
complete message becomes a record, a DECISION with the first egress stamp of its port and not before
it; the 256th record closes the block, and 10 ms after its first record it closes too; a closed
block is signed and exported; REPLAY exports a held block again; a whole second gives a SUMMARY
record and raises SEAL_PPS_OUT. The model's readings of assumption log 65 are part of it. -/
def Obligations.TapMessagesBecomeBlocks : Prop :=
  (∀ (s : State), sealOn s →
    (∀ (t : Time) (m : TapMsg) (r : List TapMsg), s.ud.wire = m :: r →
      (65536 ≤ s.ud.tap.length → ∃ u, exec (.tapMessage t) s = .next u ∧ u.ud.wire = r
        ∧ u.ud.tap = s.ud.tap ∧ u.ud.lost = s.ud.lost + 1
        ∧ rg u .seal 0 0x114 = satAdd 32 (rg s .seal 0 0x114) 1)
      ∧ (s.ud.tap.length < 65536 → ∃ u m', exec (.tapMessage t) s = .next u ∧ u.ud.wire = r
        ∧ u.ud.tap = s.ud.tap ++ [m'] ∧ m'.type = m.type ∧ m'.frame = m.frame ∧ m'.aux = m.aux
        ∧ (m.type = 0x02 ∨ m.type = 0x03 → m'.stampB = t)
        ∧ (49152 < s.ud.tap.length + 1 → u.ud.busy = true)))
    ∧ (∀ (t : Time) (m : TapMsg) (r : List TapMsg), s.ud.tap = m :: r → s.ud.lost = 0 →
      s.ud.opened.length < 255 →
      (m.type ≠ 0x01 → ∃ u, exec (.recordFormation t) s = .next u ∧ u.ud.tap = r
        ∧ u.ud.seq = s.ud.seq + 1 ∧ u.ud.opened = s.ud.opened ++ [recordBytes s.ud m]
        ∧ u.ud.stamps0 = s.ud.stamps0 ∧ u.ud.stamps1 = s.ud.stamps1 ∧ u.ud.blocks = s.ud.blocks)
      ∧ (m.type = 0x01 → m.port = 0 → ∀ b bs, s.ud.stamps0 = b :: bs →
        ∃ u, exec (.recordFormation t) s = .next u ∧ u.ud.tap = r ∧ u.ud.stamps0 = bs
          ∧ u.ud.opened = s.ud.opened ++ [recordBytes s.ud { m with stampB := b }])
      ∧ (m.type = 0x01 → m.port = 0 → s.ud.stamps0 = [] → r = [] →
        exec (.recordFormation t) s = .next s))
    ∧ (∀ (t : Time) (m : TapMsg) (r : List TapMsg), s.ud.tap = m :: r → s.ud.lost = 0 →
      m.type ≠ 0x01 → s.ud.opened.length = 255 → s.ud.blocks.length < 4096 →
      ∃ u h, exec (.recordFormation t) s = .next u ∧ u.ud.opened = []
        ∧ u.ud.blockNo = s.ud.blockNo + 1
        ∧ u.ud.blocks = s.ud.blocks ++ [⟨s.ud.blockNo, h, false⟩])
    ∧ (∀ t : Time, s.ud.opened ≠ [] → s.ud.openTime + 40000000 ≤ t →
      ∃ u, exec (.blockAgeExpiry t) s = .next u ∧ u.ud.opened = []
        ∧ u.ud.blockNo = s.ud.blockNo + 1 ∧ u.ud.seq = s.ud.seq
        ∧ u.ud.chain = sha256 (s.ud.chain ++ blockHeader s.ud 2 t ++ sha256 s.ud.opened.flatten))
    ∧ (∀ t : Time, s.ud.opened = [] → exec (.blockAgeExpiry t) s = .next s)
    ∧ (∀ b l, signFirst s.ud.blocks = some (b, l) → ∃ u, exec .blockSigned s = .next u
      ∧ u.ud = { s.ud with blocks := l } ∧ (fabOn s = true → exported s u b)
      ∧ (fabOn s = false → u = { s with ud := { s.ud with blocks := l } }))
    ∧ (∀ t : Time, t % 4000000000 ≠ 0 → exec (.summaryRecord t) s = .next s)
    ∧ (∀ t : Time, t % 4000000000 = 0 → s.ud.stepDue = none → s.ud.todDue = none →
      ∃ u, exec (.summaryRecord t) s = .next u ∧ u.ud.ppsOut = true
        ∧ u.ud.seq = s.ud.seq + 1 ∧ u.ud.since = [0, 0, 0, 0, 1, 0]
        ∧ u.ud.tstate = s.ud.tstate))
  ∧ (∀ (s : State) (t : Time), fabOn s = true → ∃ u, exec (.aggregateReport t) s = .next u
    ∧ (∀ a, a ∈ u.ports.aggs ↔ a ∈ s.ports.aggs ∧ t / 4000 ≤ a.win)
    ∧ (sealOn s → u.ud.wire.length
        = s.ud.wire.length + (s.ports.aggs.filter fun a => a.win < t / 4000).length))
  ∧ (∀ (s : State) (p : Port) (v : Word), pageOpen s .ledger 0 →
    (∀ b, s.ud.blocks.find? (fun b => b.number = v.toNat * 2 ^ 32 + s.ud.replayLo) = some b →
      b.signed = true → ∃ t, exec (.ledgerReplay p v) s = .next t ∧ exported s t b
        ∧ t.ud = s.ud)
    ∧ (s.ud.blocks.find? (fun b => b.number = v.toNat * 2 ^ 32 + s.ud.replayLo) = none →
      ∃ t, exec (.ledgerReplay p v) s = .next t ∧ t.ud = s.ud ∧ t.host = s.host
        ∧ rg t .ledger 0 0x108 = satAdd 32 (rg s .ledger 0 0x108) 1))
  ∧ ∀ s : State, exec .sealPpsOutFall s = .next { s with ud := { s.ud with ppsOut := false } }

/-- R403, R416: the seal's time. The first measurement with the seconds known steps, to ACQUIRING
with the copy invalid; 64 in a row within 20 ns lock; one beyond 1 µs, or none for 3 intervals,
gives HOLDOVER with the copy kept, and breaks the row of 64; in HOLDOVER one beyond 1 µs awaits the next whole second, one
within returns; the copy is valid a second after the step. A first TOD sets the seconds in modes 0
and 2, one that differs is counted unless SEAL_SVC_N is low, and mode 1 counts every one. The
model's readings of assumption log 65 are part of it. -/
def Obligations.SealTimeFollowsItsReference : Prop :=
  ∀ (s : State), sealOn s →
    (∀ (t : Time) (off : Int), sealMode s.ud ≠ 0 → s.ud.todDue = none →
      (s.ud.tstate = .unknown → (sealMode s.ud = 1 ∨ s.ud.secondsKnown = true) →
        ∃ u, exec (.sealMeasurement t off) s = .next u ∧ u.ud.tstate = .acquiring
          ∧ u.ud.copyValid = false ∧ u.ud.lastStep = ((t : Int) - off).toNat
          ∧ u.ud.okSince = false ∧ u.ud.seq = s.ud.seq + 1 ∧ u.heat.timeOk = false)
      ∧ (s.ud.tstate = .acquiring ∨ s.ud.tstate = .locked → off.natAbs ≤ 80 →
        ∃ u, exec (.sealMeasurement t off) s = .next u ∧ u.ud.goodRow = s.ud.goodRow + 1
          ∧ u.ud.tstate = (if 63 ≤ s.ud.goodRow then .locked else s.ud.tstate)
          ∧ (s.ud.tstate = .acquiring → 63 ≤ s.ud.goodRow →
              u.ud.copyValid = true ∧ u.ud.seq = s.ud.seq + 1)
          ∧ u.heat = s.heat)
      ∧ (s.ud.tstate = .locked → 4000 < off.natAbs →
        ∃ u, exec (.sealMeasurement t off) s = .next u ∧ u.ud.tstate = .holdover
          ∧ u.ud.copyValid = s.ud.copyValid ∧ u.ud.goodRow = 0 ∧ u.ud.seq = s.ud.seq + 1)
      ∧ (s.ud.tstate = .acquiring → 4000 < off.natAbs →
        ∃ u, exec (.sealMeasurement t off) s = .next u ∧ u.ud.goodRow = 0
          ∧ u.ud.tstate = (if s.ud.copyValid then .holdover else .acquiring))
      ∧ (s.ud.tstate = .holdover → 4000 < off.natAbs →
        ∃ u, exec (.sealMeasurement t off) s = .next u ∧ u.ud.tstate = .holdover
          ∧ u.ud.stepDue = some (-off) ∧ u.ud.goodRow = 0 ∧ u.ud.seq = s.ud.seq)
      ∧ (s.ud.tstate = .holdover → off.natAbs ≤ 4000 → s.ud.goodRow < 63 →
        ∃ u, exec (.sealMeasurement t off) s = .next u ∧ u.ud.tstate = .holdover
          ∧ u.ud.returned = true ∧ u.ud.stepDue = none
          ∧ u.ud.seq = (if s.ud.returned then s.ud.seq else s.ud.seq + 1)))
    ∧ (∀ (t : Time) (d : Int), t % 4000000000 = 0 → s.ud.stepDue = some d →
      ∃ u, exec (.summaryRecord t) s = .next u ∧ u.ud.tstate = .acquiring
        ∧ u.ud.copyValid = false ∧ u.ud.lastStep = ((t : Int) + d).toNat ∧ u.ud.stepDue = none)
    ∧ (∀ t : Time, sealMode s.ud ≠ 0 → s.ud.tstate = .locked →
      ∃ u, exec (.referenceTimeout t) s = .next u ∧ u.ud.tstate = .holdover
        ∧ u.ud.copyValid = s.ud.copyValid ∧ u.ud.seq = s.ud.seq + 1)
    ∧ (∀ t : Time, sealMode s.ud ≠ 0 → s.ud.tstate = .holdover →
      exec (.referenceTimeout t) s
        = .next { s with ud := { s.ud with returned := false, goodRow := 0 } })
    ∧ (∀ t : Time, s.ud.tstate = .acquiring → s.ud.lastStep + 4000000000 ≤ t →
      (sealMode s.ud = 0 ∨ s.ud.okSince = true) →
      exec (.timeCopyValid t) s
        = .next { s with ud := { s.ud with copyValid := true, now := t } })
    ∧ (∀ (q : Svc) (n : Nat), ∃ u, exec (.sealTod q n) s = .next u
      ∧ u.ud.replies.length = s.ud.replies.length + 1 ∧ u.ud.tstate = s.ud.tstate
      ∧ (sealMode s.ud = 1 → u.ud.todDue = s.ud.todDue
          ∧ rg u .seal 0 0x120 = satAdd 32 (rg s .seal 0 0x120) 1)
      ∧ (sealMode s.ud ≠ 1 → s.ud.secondsKnown = false →
          u.ud.todDue = some (n % 2 ^ 48) ∧ u.ud.secondsKnown = true)
      ∧ (sealMode s.ud ≠ 1 → s.ud.secondsKnown = true →
          n % 2 ^ 48 = s.ud.todDue.getD (q.t / 4000000000 + 1) →
          u.ud.todDue = s.ud.todDue ∧ u.regs = s.regs)
      ∧ (sealMode s.ud ≠ 1 → s.ud.secondsKnown = true →
          n % 2 ^ 48 ≠ s.ud.todDue.getD (q.t / 4000000000 + 1) →
          (q.svcLow = true → u.ud.todDue = some (n % 2 ^ 48))
          ∧ (q.svcLow = false → u.ud.todDue = s.ud.todDue
            ∧ rg u .seal 0 0x120 = satAdd 32 (rg s .seal 0 0x120) 1)))

/-- The bytes of a reply datagram (R416). -/
def replyBytes (op status : Nat) (q : Svc) (arg : Nat) (body : List Byte) : List Byte :=
  toLE op 1 ++ toLE status 1 ++ toLE q.reqid 2 ++ toLE 0 4 ++ toLE arg 8 ++ body

/-- A write operation was refused (R417): answered with a status and recorded as SERVICE, no more. -/
def writeRefused (s u : State) (op status : Nat) (q : Svc) (arg : Nat) : Prop :=
  u.ud.replies = s.ud.replies ++ [replyBytes op status q arg []] ∧ u.ud.seq = s.ud.seq + 1
    ∧ u.ud.config = s.ud.config ∧ u.ud.vcount = s.ud.vcount ∧ u.ud.staging = s.ud.staging
    ∧ u.ud.fw = s.ud.fw ∧ u.ud.inReset = false

/-- R348, R415 to R419: the service port and the seal's own reset. STATUS, READ_KEY and READ_BLOCK
are answered at any time; a write operation is refused with SEAL_SVC_N high and with the counter at
1,024; a good configuration image replaces the old one and counts, a bad one changes nothing;
FW_CHUNK writes the staging area, FW_COMMIT of a good image counts, closes the block and resets the
seal. SEAL_RESET_N and a loss of SEAL_VDD close the last block; the restart forms a START record in
UNKNOWN and clears the registers of its pages. The model's readings of assumption logs 12, 65 and 98 are part of it. -/
def Obligations.SealServesAndRestarts : Prop :=
  ∀ (s : State), sealOn s →
    (∀ q : Svc,
      (∃ u body, exec (.sealStatus q) s = .next u
        ∧ u.ud.replies = s.ud.replies ++ [replyBytes 0x01 0 q 0 body] ∧ body.length = 100
        ∧ u.ud.vcount = s.ud.vcount)
      ∧ (∃ u, exec (.sealReadKey q) s = .next u
        ∧ u.ud.replies = s.ud.replies ++ [replyBytes 0x03 0 q 0 Config.sealPublicKey])
      ∧ (∀ n, s.ud.blocks.find? (fun b => b.number = n && b.signed) = none →
        ∃ u, exec (.sealReadBlock q n) s = .next u
          ∧ u.ud.replies = s.ud.replies ++ [replyBytes 0x02 1 q n []])
      ∧ (∀ n b, s.ud.blocks.find? (fun b => b.number = n && b.signed) = some b →
        b.bytes.length = 16608 → ∃ u, exec (.sealReadBlock q n) s = .next u
          ∧ u.ud.replies = s.ud.replies
              ++ (List.range 12).map fun i => replyBytes 0x02 0 q n (slice b.bytes (1384 * i) 1384))
      ∧ (∀ image off body, q.svcLow = false ∨ 1024 ≤ s.ud.vcount →
        (∃ u, exec (.sealWriteConfig q image) s = .next u
          ∧ writeRefused s u 0x10 (if q.svcLow then 3 else 2) q 0)
        ∧ (∃ u, exec (.sealFwChunk q off body) s = .next u
          ∧ writeRefused s u 0x11 (if q.svcLow then 3 else 2) q off)
        ∧ ∃ u, exec (.sealFwCommit q) s = .next u
          ∧ writeRefused s u 0x12 (if q.svcLow then 3 else 2) q 0)
      ∧ (∀ image off body, q.svcLow = true → s.ud.vcount < 1024 →
        (configOk s.ud image = true → ∃ u, exec (.sealWriteConfig q image) s = .next u
          ∧ u.ud.config = image ∧ u.ud.vcount = s.ud.vcount + 1 ∧ u.ud.seq = s.ud.seq + 1
          ∧ u.ud.replies = s.ud.replies ++ [replyBytes 0x10 0 q 0 []])
        ∧ (configOk s.ud image = false → ∃ u, exec (.sealWriteConfig q image) s = .next u
          ∧ writeRefused s u 0x10 4 q 0)
        ∧ (∃ u, exec (.sealFwChunk q off body) s = .next u
          ∧ rdBytes u.ud.staging off body.length = body ∧ u.ud.vcount = s.ud.vcount
          ∧ ∀ a, a < off ∨ off + body.length ≤ a → rdB u.ud.staging a = rdB s.ud.staging a)
        ∧ (∀ img, img = rdBytes s.ud.staging 0 (256 + rdLE s.ud.staging 12 4) →
          ∃ u, exec (.sealFwCommit q) s = .next u
            ∧ (imageOk Config.sealKeyHash Config.sealMinSvn img = true →
              u.ud.vcount = s.ud.vcount + 1 ∧ u.ud.fw = fld img 4 4 ∧ u.ud.inReset = true
              ∧ u.ud.opened = [] ∧ u.ud.restartReason = 3 ∧ u.heat.timeOk = false)
            ∧ (imageOk Config.sealKeyHash Config.sealMinSvn img = false →
              u.ud.vcount = s.ud.vcount ∧ u.ud.fw = s.ud.fw ∧ u.ud.inReset = false
              ∧ u.ud.seq = s.ud.seq + 1))))
    ∧ (∀ t : Time, ∃ u, exec (.sealReset t) s = .next u ∧ u.ud.inReset = true
      ∧ u.power = { s.power with sealResetN := false } ∧ u.ud.tap = [] ∧ u.ud.wire = []
      ∧ u.ud.opened = [] ∧ (∀ b ∈ u.ud.blocks, b.signed = true) ∧ u.ud.copyValid = false
      ∧ u.heat.timeOk = false ∧ u.ud.vcount = s.ud.vcount ∧ u.ud.config = s.ud.config)
    ∧ (∀ t : Time, s.power.sealVdd = true → ∃ u, exec (.sealVddLoss t) s = .next u
      ∧ u.ud.running = false ∧ u.ud.inReset = true ∧ u.ud.opened = []
      ∧ u.ud.seq = s.ud.seq + 1 ∧ (∀ b ∈ u.ud.blocks, b.signed = true)
      ∧ u.heat.timeOk = false ∧ u.ud.vcount = s.ud.vcount)
    ∧ ∀ (v : State) (t : Time) (kept : Bool), v.ud.inReset = true →
      ∃ u, exec (.sealRestart t kept) v = .next u ∧ sealOn u ∧ u.ud.tstate = .unknown
        ∧ u.ud.copyValid = false ∧ u.ud.secondsKnown = false ∧ u.ud.lostAtReset = 0
        ∧ u.ud.vcount = v.ud.vcount ∧ u.ud.config = v.ud.config
        ∧ u.ud.seq = v.ud.seq + (if v.ud.lostAtReset = 0 then 1 else 2)
        ∧ rf u .ledger 0 0x048 0 0 = 0 ∧ rg u .seal 0 0x110 = (if v.ud.lostAtReset = 0 then 1 else 2)
        ∧ ∀ off, sealKeeps off = true → regGet u.regs off = regGet v.regs off

/-- A scrub poisoned an object (R435, R207): a migration of it that had not switched ended; with no
reader TIER_FAIL is recorded. -/
def poisonedFrom (s u : State) (a : Nat) (o : Obj) : Prop :=
  (∃ o', objGet u (a / 2 ^ 60) (uObj a) = some o' ∧ o'.state = 2 ∧ o'.tier = o.tier
    ∧ (o.state ≠ 1 ∨ o.switched = true → o' = { o with state := 2 }))
  ∧ (o.readers = [] → rf u .tier 0 0x020 30 30 = 1)
  ∧ SameBytes s.tier.data u.tier.data

/-- R428, R429, R434, R435: background work. An overdue activity on a unit that is not sprint-armed
is granted one slot; a scrub's slot starts in the window or as overdue, and what it finds
uncorrectable in an object of the tier that is not being freed poisons it, ends a migration of it
that has not switched, and is recorded where no reader is there; a word of a reserved area of T2 is
INTERNAL_ECC; a slot of thermal calibration changes no value. The model's readings of assumption
logs 30, 66 and 73 are part of it. -/
def Obligations.BackgroundWorkTakesSlots : Prop :=
  ∀ (s : State) (t : Time), fabOn s = true →
    (∀ a k, a < 7 → mgetD s.back.last (actKey a k) 0 + deferral a ≤ t →
      (activityArmed s a k = false → ∃ u, exec (.activityOverdue a k t) s = .next u
        ∧ slotMay u a k = true ∧ mgetD u.back.last (actKey a k) 0 = t
        ∧ u = { s with now := max s.now t, back := u.back })
      ∧ (activityArmed s a k = true → exec (.activityOverdue a k t) s = .next s))
    ∧ (∀ d bad, d < 8 → dieStopped s d = false →
      (slotMay s 2 d = false → exec (.t1EccScrub d bad t) s = .next s)
      ∧ (slotMay s 2 d = true → exec (.t1EccScrub d none t) s = .next (slotTaken s 2 d t))
      ∧ (slotMay s 2 d = true → ∀ a o, objGet s (a / 2 ^ 60) (uObj a) = some o →
        (o.tier = 1 → o.die = d → o.state ≠ 3 → ∃ u, exec (.t1EccScrub d (some a) t) s = .next u
          ∧ poisonedFrom s u a o)
        ∧ (o.tier ≠ 1 ∨ o.die ≠ d → ∃ u, exec (.t1EccScrub d (some a) t) s = .next u
          ∧ u.tier = s.tier ∧ u.regs = s.regs ∧ ∀ line ∈ mgetD u.tile.cache d [],
              ¬ (line ≤ a ∧ a < line + 256))))
    ∧ (∀ k, k < 8 → slotMay s 3 k = true →
      exec (.t2EccScrub k none t) s = .next (slotTaken s 3 k t)
      ∧ (∀ a, 16 * 2 ^ 60 ≤ a → ∃ u, exec (.t2EccScrub k (some a) t) s = .next u
        ∧ u.sprint.eccFence = true ∧ rf u .tier 0 0x020 30 30 = 1 ∧ u.tier = s.tier)
      ∧ ∀ a o, a < 16 * 2 ^ 60 → objGet s (a / 2 ^ 60) (uObj a) = some o → o.tier = 2 →
        onChannels 2 (2 ^ k) (uOff a) 1 = true → o.state ≠ 3 →
        ∃ u, exec (.t2EccScrub k (some a) t) s = .next u
          ∧ poisonedFrom s u a o)
    ∧ (∀ d, d < 8 → slotMay s 4 d = true →
      ∃ u, exec (.thermalCalibration d t) s = .next u
        ∧ u = { s with now := max s.now t, back := u.back }
        ∧ mgetD u.back.last (actKey 4 d) 0 = t)

/-- UNIT_OFF is recorded in a page (R307): VALID is set, with the code where no error stood before. -/
def unitOffRecorded (s t : State) (k : PageKind) (n : Nat) : Prop :=
  rf t k n 0x020 30 30 = 1 ∧ (rf s k n 0x020 30 30 = 0 → rf t k n 0x020 7 0 = 0x25)
    ∧ rf t k n 0x014 0 0 = 1

/-- R307. A page is blocked exactly while HSTATUS reads OFF or not READY: a powered-off die's pages,
those of the compute dies in a warm or sag reset, every page but GLOBAL before stage 2. Its header
stays readable; a block register reads 0xFFFF_FFFF over PCI Express, 0xFF bytes with status 4 over
the management port; a write has no effect, but a management frame is counted; each records
UNIT_OFF. -/
def Obligations.BlockedRegistersReadOnes : Prop :=
  ∀ (s : State) (k : PageKind) (n o : Nat), fabOn s = true → n < (pageInfo k).2.1 → o < 0x1000 →
    (regFields k o).isEmpty = false →
    (pageBlocked s k n = true ↔
      bit (regWord s k n 0x010) 1 = true ∨ bit (regWord s k n 0x010) 0 = false)
    ∧ pageBlocked s .global 0 = false
    ∧ (s.power.stage < 2 → k ≠ .global → pageBlocked s k n = true)
    ∧ (∀ d, d < 8 → bit s.power.offDies d = true ∨ s.power.diesReset = true →
        pageBlocked s .grid d = true ∧ pageBlocked s .tile d = true ∧ pageBlocked s .net d = true)
    ∧ (s.power.diesReset = true → pageBlocked s .attn 0 = true)
    ∧ (o < 0x40 → plainRead s .pcie k n o → ∃ t, exec (.loLatchRead .pcie (regOff k n o)) s = .next t
        ∧ t.reg.pcieOut.toNat = regWord s k n o)
    ∧ (0x40 ≤ o → pageBlocked s k n = true →
      (∃ t, exec (.loLatchRead .pcie (regOff k n o)) s = .next t
        ∧ t.reg.pcieOut.toNat = 2 ^ 32 - 1 ∧ unitOffRecorded s t k n)
      ∧ (∀ addr : Byte, addr.toNat = mgmtAddr s + 1 → s.reg.readPtr = some (regOff k n o) →
        ∃ t, exec (.mgmtRead addr) s = .next t
          ∧ t.reg.mgmtOut = readBytes addr (2 ^ 32 - 1) 4 ∧ unitOffRecorded s t k n)
      ∧ (∀ (p : Port) (v : Word), ∃ t, exec (.registerWrite p (regOff k n o) v) s = .next t
        ∧ t.reg.shadows = s.reg.shadows ∧ t.reg.xact = s.reg.xact ∧ SameMemories s t
        ∧ (∀ off, 0x40 ≤ off % 4096 → off / 4096 ≠ 6 → regGet t.regs off = regGet s.regs off)
        ∧ unitOffRecorded s t k n)
      ∧ ∀ (f : List Byte) (c : Instr), forPort s f = true → frameWhole f = true →
        (frameOp f = 0 ∧ c = .mgmtWrite f) ∨ (frameOp f = 2 ∧ c = .mgmtTransactionalWrite f) →
        frameCrcOk f = true → frameOff f = regOff k n o →
        ∃ t, exec c s = .next t ∧ unitOffRecorded s t k n
          ∧ rg t .mgmt 0 0x100 = satAdd 32 (rg s .mgmt 0 0x100) 1
          ∧ t.reg.shadows = s.reg.shadows ∧ t.reg.xact = s.reg.xact ∧ SameMemories s t
          ∧ ∀ off, 0x40 ≤ off % 4096 → off / 4096 ≠ 6 → off ≠ regOff .mgmt 0 0x100 →
            regGet t.regs off = regGet s.regs off)

/-- R315. An ABORT of a COMMITTED transaction by its owner, before the boundary of its target heat,
takes it back to IDLE with nothing collected; that boundary leaves IDLE behind it, where an ABORT
has no effect on the transaction, a shadow or the heat; BEGIN in COMMITTED answers BUSY and changes
nothing. -/
def Obligations.CommittedTransactionsMayBeAborted : Prop :=
  ∀ (s : State) (p : Port) (tag : Nat), pageOpen s .xact 0 →
    (s.reg.xact.phase = .committed → ownsXact s p (tag % 64) = true →
      ∃ t, exec (.xactAbort p tag) s = .next t ∧ t.reg.xact.phase = .idle ∧ t.reg.xact.coll = []
        ∧ rg t .xact 0 (resultOff p) = 0 ∧ t.reg.shadows = s.reg.shadows)
    ∧ (s.reg.xact.phase = .committed → s.heat.timeOk = true → xactTarget s = s.heat.num + 1 →
      ∃ t, exec .heatBoundary s = .next t ∧ t.heat.num = xactTarget s ∧ t.reg.xact.phase = .idle)
    ∧ (s.reg.xact.phase = .idle → ∃ t, exec (.xactAbort p tag) s = .next t
        ∧ t.reg.xact = s.reg.xact ∧ t.reg.shadows = s.reg.shadows ∧ t.heat = s.heat)
    ∧ (s.reg.xact.phase = .committed → tag % 64 ≠ 0 → ∃ t, exec (.xactBegin p tag) s = .next t
        ∧ t.reg.xact = s.reg.xact ∧ rg t .xact 0 (resultOff p) = 0x50)

/-- R427. The slack window of a heat has length S: the heat length over 16, rounded down to a
multiple of 8 ns, at most 64 µs; so 56 ns at 1 µs, 6,248 ns at 100 µs and 64 µs from 1.024 ms
upward. It opens S before the opening of the hold window, 200 ns before the boundary, and ends
there. -/
def Obligations.SlackWindowEndsAtTheHoldWindow : Prop :=
  ∀ s : State,
    (slackLen s ≤ heatLen s / 16 ∧ slackLen s % 32 = 0 ∧ slackLen s ≤ 256000
      ∧ (slackLen s < 256000 → heatLen s / 16 < slackLen s + 32))
    ∧ (heatLen s = 4 * 1000 → slackLen s = 4 * 56)
    ∧ (heatLen s = 4 * 100000 → slackLen s = 4 * 6248)
    ∧ (4 * 1024000 ≤ heatLen s → slackLen s = 4 * 64000)
    ∧ (fabOn s = true → s.heat.timeOk = true → s.heat.hold = false →
      (∀ t, s.heat.next ≤ t + 800 + slackLen s → t + 800 < s.heat.next →
        ∃ u, exec (.slackWindowOpen t) s = .next u ∧ slackOn u = true
          ∧ u = { s with now := max s.now t, back := { s.back with slack := true } })
      ∧ (∀ t, t + 800 + slackLen s < s.heat.next → exec (.slackWindowOpen t) s = .next s)
      ∧ (∀ t, s.heat.next ≤ t + 800 → exec (.slackWindowOpen t) s = .next s)
      ∧ ∃ u, exec .holdWindowOpen s = .next u ∧ slackOn u = false)
end

