-- ==== Sys2Proof/Laws/Maps.lean ====
section
/-!
SUPPORT. Laws of the sparse maps and byte memories: what a read after a write gives, that every
operation keeps the keys rising and a memory canonical, and how lists of bytes are read back.
-/
namespace Sys2Proof.Machine
open Sys2Proof

variable {α β : Type}

@[simp] theorem mget_nil (k : Nat) : mget ([] : AMap α) k = none := rfl

@[simp] theorem mget_mset_same (m : AMap α) (k : Nat) (v : α) : mget (mset m k v) k = some v := by
  induction m with
  | nil => simp [mset, mget]
  | cons e r ih =>
    obtain ⟨k', v'⟩ := e
    simp only [mset]
    split
    · simp [mget]
    · split
      · simp [mget]
      · simp_all [mget]

theorem mget_mset_ne (m : AMap α) {k j : Nat} (v : α) (h : j ≠ k) :
    mget (mset m k v) j = mget m j := by
  induction m with
  | nil => simp [mset, mget, h]
  | cons e r ih =>
    obtain ⟨k', v'⟩ := e
    simp only [mset]
    split
    · simp [mget, h]
    · split
      · subst_vars; simp [mget, h]
      · simp [mget, ih]

theorem mget_mset (m : AMap α) (k j : Nat) (v : α) :
    mget (mset m k v) j = if j = k then some v else mget m j := by
  split
  · subst_vars; simp
  · exact mget_mset_ne m v ‹_›

@[simp] theorem mget_mdel_same (m : AMap α) (k : Nat) : mget (mdel m k) k = none := by
  induction m with
  | nil => rfl
  | cons e r ih =>
    obtain ⟨k', v'⟩ := e
    simp only [mdel]
    split
    · exact ih
    · simp_all [mget]

theorem mget_mdel_ne (m : AMap α) {k j : Nat} (h : j ≠ k) : mget (mdel m k) j = mget m j := by
  induction m with
  | nil => rfl
  | cons e r ih =>
    obtain ⟨k', v'⟩ := e
    simp only [mdel]
    split
    · subst_vars; simp [mget, h, ih]
    · simp [mget, ih]

theorem mget_mmapv (m : AMap α) (f : Nat → α → α) (k : Nat) :
    mget (mmapv m f) k = (mget m k).map (f k) := by
  induction m with
  | nil => rfl
  | cons e r ih =>
    obtain ⟨k', v'⟩ := e
    simp only [mmapv, List.map_cons, mget] at ih ⊢
    split
    · subst_vars; simp
    · exact ih

theorem mget_mmod (m : AMap α) (f : α → α) (k j : Nat) :
    mget (mmod m k f) j = if j = k then (mget m j).map f else mget m j := by
  unfold mmod
  split
  · rename_i v h
    rw [mget_mset]
    split
    · subst_vars; simp [h]
    · rfl
  · rename_i h
    split
    · subst_vars; simp [h]
    · rfl

@[simp] theorem mgetD_mset_same (m : AMap α) (k : Nat) (v d : α) : mgetD (mset m k v) k d = v := by
  simp [mgetD]

theorem mgetD_mset_ne (m : AMap α) {k j : Nat} (v d : α) (h : j ≠ k) :
    mgetD (mset m k v) j d = mgetD m j d := by
  simp [mgetD, mget_mset_ne m v h]

/-- Every key of a map lies above a bound. -/
def keysAbove (b : Nat) (m : AMap α) : Prop := ∀ e ∈ m, b < e.1

theorem keysRising_cons (k : Nat) (v : α) (m : AMap α) :
    keysRising ((k, v) :: m) = true ↔ keysAbove k m ∧ keysRising m = true := by
  induction m generalizing k v with
  | nil => simp [keysRising, keysAbove]
  | cons e r ih =>
    obtain ⟨k', v'⟩ := e
    simp only [keysRising, Bool.and_eq_true, decide_eq_true_eq, keysAbove, List.mem_cons]
    constructor
    · rintro ⟨hk, hr⟩
      refine ⟨?_, hr⟩
      rintro e (rfl | he)
      · exact hk
      · exact Nat.lt_trans hk (((ih k' v').1 hr).1 e he)
    · rintro ⟨ha, hr⟩
      exact ⟨ha (k', v') (Or.inl rfl), hr⟩

theorem mem_mset {m : AMap α} {k : Nat} {v : α} {e : Nat × α} (h : e ∈ mset m k v) :
    e = (k, v) ∨ e ∈ m := by
  induction m with
  | nil => simpa [mset] using h
  | cons x r ih =>
    obtain ⟨k', v'⟩ := x
    simp only [mset] at h
    split at h
    · simpa using h
    · split at h
      · simp only [List.mem_cons] at h ⊢
        rcases h with h | h
        · exact Or.inl h
        · exact Or.inr (Or.inr h)
      · simp only [List.mem_cons] at h ⊢
        rcases h with h | h
        · exact Or.inr (Or.inl h)
        · rcases ih h with h | h
          · exact Or.inl h
          · exact Or.inr (Or.inr h)

theorem mem_mdel {m : AMap α} {k : Nat} {e : Nat × α} (h : e ∈ mdel m k) : e ∈ m := by
  induction m with
  | nil => simp [mdel] at h
  | cons x r ih =>
    obtain ⟨k', v'⟩ := x
    simp only [mdel] at h
    split at h
    · exact List.mem_cons_of_mem _ (ih h)
    · simp only [List.mem_cons] at h ⊢
      rcases h with h | h
      · exact Or.inl h
      · exact Or.inr (ih h)

theorem keysRising_mset {m : AMap α} (k : Nat) (v : α) (h : keysRising m = true) :
    keysRising (mset m k v) = true := by
  induction m with
  | nil => rfl
  | cons x r ih =>
    obtain ⟨k', v'⟩ := x
    have hx := (keysRising_cons k' v' r).1 h
    simp only [mset]
    split
    · refine (keysRising_cons _ _ _).2 ⟨?_, h⟩
      intro e he
      rcases List.mem_cons.1 he with rfl | he
      · assumption
      · exact Nat.lt_trans ‹_› (hx.1 e he)
    · split
      · subst_vars
        exact (keysRising_cons _ _ _).2 hx
      · refine (keysRising_cons _ _ _).2 ⟨?_, ih hx.2⟩
        intro e he
        rcases mem_mset he with rfl | he
        · simp only; omega
        · exact hx.1 e he

theorem keysRising_mdel {m : AMap α} (k : Nat) (h : keysRising m = true) :
    keysRising (mdel m k) = true := by
  induction m with
  | nil => rfl
  | cons x r ih =>
    obtain ⟨k', v'⟩ := x
    have hx := (keysRising_cons k' v' r).1 h
    simp only [mdel]
    split
    · exact ih hx.2
    · exact (keysRising_cons _ _ _).2 ⟨fun e he => hx.1 e (mem_mdel he), ih hx.2⟩

theorem keysRising_filter {m : AMap α} (p : Nat × α → Bool) (h : keysRising m = true) :
    keysRising (m.filter p) = true := by
  induction m with
  | nil => rfl
  | cons x r ih =>
    obtain ⟨k', v'⟩ := x
    have hx := (keysRising_cons k' v' r).1 h
    simp only [List.filter_cons]
    split
    · exact (keysRising_cons _ _ _).2 ⟨fun e he => hx.1 e (List.mem_filter.1 he).1, ih hx.2⟩
    · exact ih hx.2

@[simp] theorem memWf_nil : memWf [] = true := rfl

theorem memWf_iff (m : Memory) :
    memWf m = true ↔ keysRising m = true ∧ ∀ e ∈ m, e.2 ≠ 0 := by
  simp only [memWf, Bool.and_eq_true, List.all_eq_true, bne_iff_ne, ne_eq]

/-- Writing a byte keeps a memory canonical. -/
@[simp] theorem memWf_wrB {m : Memory} (a : Nat) (b : Byte) (h : memWf m = true) :
    memWf (wrB m a b) = true := by
  rw [memWf_iff] at h ⊢
  unfold wrB
  split
  · exact ⟨keysRising_mdel a h.1, fun e he => h.2 e (mem_mdel he)⟩
  · refine ⟨keysRising_mset a b h.1, fun e he => ?_⟩
    rcases mem_mset he with rfl | he
    · assumption
    · exact h.2 e he

/-- Writing bytes keeps a memory canonical. -/
@[simp] theorem memWf_wrBytes {m : Memory} (a : Nat) (l : List Byte) (h : memWf m = true) :
    memWf (wrBytes m a l) = true := by
  induction l generalizing m a with
  | nil => exact h
  | cons b r ih => exact ih (a + 1) (memWf_wrB a b h)

/-- Keeping some entries keeps a memory canonical. -/
@[simp] theorem memWf_mfilter {m : Memory} (p : Nat → Byte → Bool) (h : memWf m = true) :
    memWf (mfilter m p) = true := by
  rw [memWf_iff] at h ⊢
  exact ⟨keysRising_filter _ h.1, fun e he => h.2 e (List.mem_filter.1 he).1⟩

/-- Clearing a range keeps a memory canonical. -/
@[simp] theorem memWf_zeroRange {m : Memory} (lo hi : Nat) (h : memWf m = true) :
    memWf (zeroRange m lo hi) = true := memWf_mfilter _ h

/-- A byte read after a byte written. -/
theorem rdB_wrB (m : Memory) (a j : Nat) (b : Byte) :
    rdB (wrB m a b) j = if j = a then b else rdB m j := by
  unfold rdB wrB
  by_cases hb : b = 0
  · rw [if_pos hb]
    split
    · subst_vars; simp
    · rw [mget_mdel_ne _ ‹_›]
  · rw [if_neg hb]
    split
    · subst_vars; simp
    · rw [mget_mset_ne _ _ ‹_›]

/-- A byte below a written range reads as before. -/
theorem rdB_wrBytes_below (m : Memory) (a j : Nat) (l : List Byte) (h : j < a) :
    rdB (wrBytes m a l) j = rdB m j := by
  induction l generalizing m a with
  | nil => rfl
  | cons b r ih =>
    rw [wrBytes, ih _ _ (Nat.lt_succ_of_lt h), rdB_wrB, if_neg (by omega)]

/-- A byte outside a written range reads as before. -/
theorem rdB_wrBytes_out (m : Memory) (a j : Nat) (l : List Byte) (h : j < a ∨ a + l.length ≤ j) :
    rdB (wrBytes m a l) j = rdB m j := by
  induction l generalizing m a with
  | nil => rfl
  | cons b r ih =>
    simp only [List.length_cons] at h
    rw [wrBytes, ih _ _ (by omega), rdB_wrB, if_neg (by omega)]

/-- A byte of a written range reads as written. -/
theorem rdB_wrBytes_in (m : Memory) (a i : Nat) (l : List Byte) (h : i < l.length) :
    rdB (wrBytes m a l) (a + i) = l[i] := by
  induction l generalizing m a i with
  | nil => simp at h
  | cons b r ih =>
    cases i with
    | zero =>
      rw [wrBytes, rdB_wrBytes_below _ _ _ _ (by omega), rdB_wrB]
      simp
    | succ n =>
      have := ih (wrB m a b) (a + 1) n (by simpa using h)
      rw [wrBytes, show a + (n + 1) = a + 1 + n by omega, this]
      rfl

/-- The bytes written are read back. -/
theorem rdBytes_wrBytes (m : Memory) (a : Nat) (l : List Byte) :
    rdBytes (wrBytes m a l) a l.length = l := by
  induction l generalizing m a with
  | nil => rfl
  | cons b r ih =>
    rw [List.length_cons, rdBytes, wrBytes, ih]
    rw [rdB_wrBytes_below _ _ _ _ (by omega), rdB_wrB, if_pos rfl]

/-- Folding an operation keeps what each single one keeps. -/
theorem foldl_keeps {σ : Type} (g : σ → β) (f : σ → α → σ) (l : List α) (s : σ)
    (h : ∀ s a, g (f s a) = g s) : g (l.foldl f s) = g s := by
  induction l generalizing s with
  | nil => rfl
  | cons a r ih => rw [List.foldl_cons, ih, h]

/-- Folding an operation keeps an invariant that each single one keeps. -/
theorem foldl_inv {σ : Type} (p : σ → Prop) (f : σ → α → σ) (l : List α) (s : σ) (h0 : p s)
    (h : ∀ s a, p s → p (f s a)) : p (l.foldl f s) := by
  induction l generalizing s with
  | nil => exact h0
  | cons a r ih => exact ih _ (h s a h0)

end Sys2Proof.Machine
end

