-- ==== Sys2Proof/Laws/State.lean ====
section
/-!
SUPPORT. State: registers read after they are written, and what a fold over a list, and a choice,
leave unchanged, one lemma per component of State.
-/
namespace Sys2Proof.Machine
open Sys2Proof

@[simp] theorem regGet_regSet_same (r : AMap Word) (o v : Nat) :
    regGet (regSet r o v) o = v % 2 ^ 32 := by
  simp [regGet, regSet]

theorem regGet_regSet_ne (r : AMap Word) {o o' : Nat} (v : Nat) (h : o' ≠ o) :
    regGet (regSet r o v) o' = regGet r o' := by
  simp [regGet, regSet, mget_mset_ne r _ h]

/-- Reading a register after a register is written. -/
theorem regGet_regSet (r : AMap Word) (o o' v : Nat) :
    regGet (regSet r o v) o' = if o' = o then v % 2 ^ 32 else regGet r o' := by
  split
  · subst_vars; simp
  · exact regGet_regSet_ne r v ‹_›

@[simp] theorem rset_regs (s : State) (k : PageKind) (n off v : Nat) :
    (rset s k n off v).regs = regSet s.regs (regOff k n off) v := rfl

@[simp] theorem rg_rset_same (s : State) (k : PageKind) (n off v : Nat) :
    rg (rset s k n off v) k n off = v % 2 ^ 32 := by
  simp [rg]

theorem rg_rset_ne (s : State) {k k' : PageKind} {n n' off off' : Nat} (v : Nat)
    (h : regOff k' n' off' ≠ regOff k n off) :
    rg (rset s k n off v) k' n' off' = rg s k' n' off' := by
  simp [rg, regGet_regSet_ne _ _ h]

/-- Bits of a number whose bits were replaced read as the value put there. -/
theorem bits_putBits_same (n hi lo v : Nat) :
    bits (putBits n hi lo v) hi lo = v % 2 ^ (hi + 1 - lo) := by
  have hp : 0 < 2 ^ lo := Nat.two_pow_pos lo
  have hw : 0 < 2 ^ (hi + 1 - lo) := Nat.two_pow_pos _
  have hq : n / 2 ^ lo % 2 ^ (hi + 1 - lo) * 2 ^ lo ≤ n := by
    calc n / 2 ^ lo % 2 ^ (hi + 1 - lo) * 2 ^ lo ≤ n / 2 ^ lo * 2 ^ lo :=
          Nat.mul_le_mul_right _ (Nat.mod_le _ _)
      _ ≤ n := Nat.div_mul_le_self _ _
  unfold bits putBits bits
  rw [Nat.add_mul_div_right _ _ hp]
  have : (n - n / 2 ^ lo % 2 ^ (hi + 1 - lo) * 2 ^ lo) / 2 ^ lo
      = n / 2 ^ lo - n / 2 ^ lo % 2 ^ (hi + 1 - lo) := by
    rw [Nat.mul_comm, Nat.sub_mul_div]
  rw [this, Nat.add_mod]
  have h0 : (n / 2 ^ lo - n / 2 ^ lo % 2 ^ (hi + 1 - lo)) % 2 ^ (hi + 1 - lo) = 0 := by
    have := Nat.div_add_mod (n / 2 ^ lo) (2 ^ (hi + 1 - lo))
    have e : n / 2 ^ lo - n / 2 ^ lo % 2 ^ (hi + 1 - lo)
        = 2 ^ (hi + 1 - lo) * (n / 2 ^ lo / 2 ^ (hi + 1 - lo)) := by omega
    rw [e, Nat.mul_mod_right]
  rw [h0, Nat.zero_add, Nat.mod_mod, Nat.mod_mod]

/-- Bits of the low word of a number. -/
theorem bits_mod_word (n hi lo : Nat) (h : hi < 32) : bits (n % 2 ^ 32) hi lo = bits n hi lo := by
  unfold bits
  rcases Nat.lt_or_ge hi lo with h' | h'
  · have : hi + 1 - lo = 0 := by omega
    simp [this, Nat.mod_one]
  · have e1 : (2 : Nat) ^ 32 = 2 ^ lo * 2 ^ (32 - lo) := by rw [← Nat.pow_add]; congr 1; omega
    have e2 : (2 : Nat) ^ (32 - lo) = 2 ^ (hi + 1 - lo) * 2 ^ (31 - hi) := by
      rw [← Nat.pow_add]; congr 1; omega
    rw [e1, Nat.mod_mul_right_div_self, e2, Nat.mod_mul_right_mod]

/-- A field reads as it was put. -/
theorem rf_rput_same (s : State) (k : PageKind) (n off hi lo v : Nat) (h : hi < 32) :
    rf (rput s k n off hi lo v) k n off hi lo = v % 2 ^ (hi + 1 - lo) := by
  unfold rf rput
  rw [rg_rset_same, bits_mod_word _ _ _ h, bits_putBits_same]

theorem rg_rput_ne (s : State) {k k' : PageKind} {n n' off off' : Nat} (hi lo v : Nat)
    (h : regOff k' n' off' ≠ regOff k n off) :
    rg (rput s k n off hi lo v) k' n' off' = rg s k' n' off' := rg_rset_ne s _ h

/-- A fold whose steps keep a component keeps it. -/
theorem foldl_same {α β : Type} (π : State → β) (f : State → α → State)
    (h : ∀ s x, π (f s x) = π s) (l : List α) (s : State) : π (l.foldl f s) = π s := by
  induction l generalizing s with
  | nil => rfl
  | cons x r ih => simp only [List.foldl_cons, ih, h]

/-- The same of a fold that carries a value beside the state. -/
theorem foldl_fst_same {α β γ : Type} (π : State → β) (f : State × γ → α → State × γ)
    (h : ∀ s x, π (f s x).1 = π s.1) (l : List α) (s : State × γ) :
    π (l.foldl f s).1 = π s.1 := by
  induction l generalizing s with
  | nil => rfl
  | cons x r ih => simp only [List.foldl_cons, ih, h]

/-- The same with the value in front. -/
theorem foldl_snd_same {α β γ : Type} (π : State → β) (f : γ × State → α → γ × State)
    (h : ∀ s x, π (f s x).2 = π s.2) (l : List α) (s : γ × State) :
    π (l.foldl f s).2 = π s.2 := by
  induction l generalizing s with
  | nil => rfl
  | cons x r ih => simp only [List.foldl_cons, ih, h]

/-- The same with two values in front. -/
theorem foldl_snd_snd_same {α β γ δ : Type} (π : State → β) (f : γ × δ × State → α → γ × δ × State)
    (h : ∀ s x, π (f s x).2.2 = π s.2.2) (l : List α) (s : γ × δ × State) :
    π (l.foldl f s).2.2 = π s.2.2 := by
  induction l generalizing s with
  | nil => rfl
  | cons x r ih => simp only [List.foldl_cons, ih, h]

@[simp] theorem foldl_regs {α : Type} {f : State → α → State} (h : ∀ s x, (f s x).regs = s.regs)
    (l : List α) (s : State) : (l.foldl f s).regs = s.regs := foldl_same (·.regs) f h l s
@[simp] theorem foldl_reg {α : Type} {f : State → α → State} (h : ∀ s x, (f s x).reg = s.reg)
    (l : List α) (s : State) : (l.foldl f s).reg = s.reg := foldl_same (·.reg) f h l s
@[simp] theorem foldl_heat {α : Type} {f : State → α → State} (h : ∀ s x, (f s x).heat = s.heat)
    (l : List α) (s : State) : (l.foldl f s).heat = s.heat := foldl_same (·.heat) f h l s
@[simp] theorem foldl_sprint {α : Type} {f : State → α → State} (h : ∀ s x, (f s x).sprint = s.sprint)
    (l : List α) (s : State) : (l.foldl f s).sprint = s.sprint := foldl_same (·.sprint) f h l s
@[simp] theorem foldl_ports {α : Type} {f : State → α → State} (h : ∀ s x, (f s x).ports = s.ports)
    (l : List α) (s : State) : (l.foldl f s).ports = s.ports := foldl_same (·.ports) f h l s
@[simp] theorem foldl_grid {α : Type} {f : State → α → State} (h : ∀ s x, (f s x).grid = s.grid)
    (l : List α) (s : State) : (l.foldl f s).grid = s.grid := foldl_same (·.grid) f h l s
@[simp] theorem foldl_tile {α : Type} {f : State → α → State} (h : ∀ s x, (f s x).tile = s.tile)
    (l : List α) (s : State) : (l.foldl f s).tile = s.tile := foldl_same (·.tile) f h l s
@[simp] theorem foldl_att {α : Type} {f : State → α → State} (h : ∀ s x, (f s x).att = s.att)
    (l : List α) (s : State) : (l.foldl f s).att = s.att := foldl_same (·.att) f h l s
@[simp] theorem foldl_tier {α : Type} {f : State → α → State} (h : ∀ s x, (f s x).tier = s.tier)
    (l : List α) (s : State) : (l.foldl f s).tier = s.tier := foldl_same (·.tier) f h l s
@[simp] theorem foldl_net {α : Type} {f : State → α → State} (h : ∀ s x, (f s x).net = s.net)
    (l : List α) (s : State) : (l.foldl f s).net = s.net := foldl_same (·.net) f h l s
@[simp] theorem foldl_links {α : Type} {f : State → α → State} (h : ∀ s x, (f s x).links = s.links)
    (l : List α) (s : State) : (l.foldl f s).links = s.links := foldl_same (·.links) f h l s
@[simp] theorem foldl_coll {α : Type} {f : State → α → State} (h : ∀ s x, (f s x).coll = s.coll)
    (l : List α) (s : State) : (l.foldl f s).coll = s.coll := foldl_same (·.coll) f h l s
@[simp] theorem foldl_host {α : Type} {f : State → α → State} (h : ∀ s x, (f s x).host = s.host)
    (l : List α) (s : State) : (l.foldl f s).host = s.host := foldl_same (·.host) f h l s
@[simp] theorem foldl_crew {α : Type} {f : State → α → State} (h : ∀ s x, (f s x).crew = s.crew)
    (l : List α) (s : State) : (l.foldl f s).crew = s.crew := foldl_same (·.crew) f h l s
@[simp] theorem foldl_power {α : Type} {f : State → α → State} (h : ∀ s x, (f s x).power = s.power)
    (l : List α) (s : State) : (l.foldl f s).power = s.power := foldl_same (·.power) f h l s
@[simp] theorem foldl_twin {α : Type} {f : State → α → State} (h : ∀ s x, (f s x).twin = s.twin)
    (l : List α) (s : State) : (l.foldl f s).twin = s.twin := foldl_same (·.twin) f h l s
@[simp] theorem foldl_ud {α : Type} {f : State → α → State} (h : ∀ s x, (f s x).ud = s.ud)
    (l : List α) (s : State) : (l.foldl f s).ud = s.ud := foldl_same (·.ud) f h l s
@[simp] theorem foldl_back {α : Type} {f : State → α → State} (h : ∀ s x, (f s x).back = s.back)
    (l : List α) (s : State) : (l.foldl f s).back = s.back := foldl_same (·.back) f h l s
@[simp] theorem foldl_now {α : Type} {f : State → α → State} (h : ∀ s x, (f s x).now = s.now)
    (l : List α) (s : State) : (l.foldl f s).now = s.now := foldl_same (·.now) f h l s
@[simp] theorem foldl_free {α : Type} {f : State → α → State} (h : ∀ s x, (f s x).free = s.free)
    (l : List α) (s : State) : (l.foldl f s).free = s.free := foldl_same (·.free) f h l s
@[simp] theorem foldl_pending {α : Type} {f : State → α → State} (h : ∀ s x, (f s x).pending = s.pending)
    (l : List α) (s : State) : (l.foldl f s).pending = s.pending := foldl_same (·.pending) f h l s
@[simp] theorem foldl_reg_log {α : Type} {f : State → α → State} (h : ∀ s x, (f s x).reg.log = s.reg.log)
    (l : List α) (s : State) : (l.foldl f s).reg.log = s.reg.log := foldl_same (·.reg.log) f h l s
@[simp] theorem foldl_heat_num {α : Type} {f : State → α → State} (h : ∀ s x, (f s x).heat.num = s.heat.num)
    (l : List α) (s : State) : (l.foldl f s).heat.num = s.heat.num := foldl_same (·.heat.num) f h l s
@[simp] theorem foldl_sprint_readout {α : Type} {f : State → α → State} (h : ∀ s x, (f s x).sprint.readout = s.sprint.readout)
    (l : List α) (s : State) : (l.foldl f s).sprint.readout = s.sprint.readout := foldl_same (·.sprint.readout) f h l s
@[simp] theorem foldl_ports_live {α : Type} {f : State → α → State} (h : ∀ s x, (f s x).ports.live = s.ports.live)
    (l : List α) (s : State) : (l.foldl f s).ports.live = s.ports.live := foldl_same (·.ports.live) f h l s
@[simp] theorem foldl_ports_shadow {α : Type} {f : State → α → State} (h : ∀ s x, (f s x).ports.shadow = s.ports.shadow)
    (l : List α) (s : State) : (l.foldl f s).ports.shadow = s.ports.shadow := foldl_same (·.ports.shadow) f h l s
@[simp] theorem foldl_grid_scratch {α : Type} {f : State → α → State} (h : ∀ s x, (f s x).grid.scratch = s.grid.scratch)
    (l : List α) (s : State) : (l.foldl f s).grid.scratch = s.grid.scratch := foldl_same (·.grid.scratch) f h l s
@[simp] theorem foldl_tier_data {α : Type} {f : State → α → State} (h : ∀ s x, (f s x).tier.data = s.tier.data)
    (l : List α) (s : State) : (l.foldl f s).tier.data = s.tier.data := foldl_same (·.tier.data) f h l s
@[simp] theorem foldl_host_mem {α : Type} {f : State → α → State} (h : ∀ s x, (f s x).host.mem = s.host.mem)
    (l : List α) (s : State) : (l.foldl f s).host.mem = s.host.mem := foldl_same (·.host.mem) f h l s
@[simp] theorem foldl_ud_vcount {α : Type} {f : State → α → State} (h : ∀ s x, (f s x).ud.vcount = s.ud.vcount)
    (l : List α) (s : State) : (l.foldl f s).ud.vcount = s.ud.vcount := foldl_same (·.ud.vcount) f h l s
@[simp] theorem foldl_ud_staging {α : Type} {f : State → α → State} (h : ∀ s x, (f s x).ud.staging = s.ud.staging)
    (l : List α) (s : State) : (l.foldl f s).ud.staging = s.ud.staging := foldl_same (·.ud.staging) f h l s

@[simp] theorem ite_regs (c : Prop) [Decidable c] (a b : State) :
    (if c then a else b).regs = if c then a.regs else b.regs := apply_ite State.regs c a b
@[simp] theorem ite_reg (c : Prop) [Decidable c] (a b : State) :
    (if c then a else b).reg = if c then a.reg else b.reg := apply_ite State.reg c a b
@[simp] theorem ite_heat (c : Prop) [Decidable c] (a b : State) :
    (if c then a else b).heat = if c then a.heat else b.heat := apply_ite State.heat c a b
@[simp] theorem ite_sprint (c : Prop) [Decidable c] (a b : State) :
    (if c then a else b).sprint = if c then a.sprint else b.sprint := apply_ite State.sprint c a b
@[simp] theorem ite_ports (c : Prop) [Decidable c] (a b : State) :
    (if c then a else b).ports = if c then a.ports else b.ports := apply_ite State.ports c a b
@[simp] theorem ite_grid (c : Prop) [Decidable c] (a b : State) :
    (if c then a else b).grid = if c then a.grid else b.grid := apply_ite State.grid c a b
@[simp] theorem ite_tile (c : Prop) [Decidable c] (a b : State) :
    (if c then a else b).tile = if c then a.tile else b.tile := apply_ite State.tile c a b
@[simp] theorem ite_att (c : Prop) [Decidable c] (a b : State) :
    (if c then a else b).att = if c then a.att else b.att := apply_ite State.att c a b
@[simp] theorem ite_tier (c : Prop) [Decidable c] (a b : State) :
    (if c then a else b).tier = if c then a.tier else b.tier := apply_ite State.tier c a b
@[simp] theorem ite_net (c : Prop) [Decidable c] (a b : State) :
    (if c then a else b).net = if c then a.net else b.net := apply_ite State.net c a b
@[simp] theorem ite_links (c : Prop) [Decidable c] (a b : State) :
    (if c then a else b).links = if c then a.links else b.links := apply_ite State.links c a b
@[simp] theorem ite_coll (c : Prop) [Decidable c] (a b : State) :
    (if c then a else b).coll = if c then a.coll else b.coll := apply_ite State.coll c a b
@[simp] theorem ite_host (c : Prop) [Decidable c] (a b : State) :
    (if c then a else b).host = if c then a.host else b.host := apply_ite State.host c a b
@[simp] theorem ite_crew (c : Prop) [Decidable c] (a b : State) :
    (if c then a else b).crew = if c then a.crew else b.crew := apply_ite State.crew c a b
@[simp] theorem ite_power (c : Prop) [Decidable c] (a b : State) :
    (if c then a else b).power = if c then a.power else b.power := apply_ite State.power c a b
@[simp] theorem ite_twin (c : Prop) [Decidable c] (a b : State) :
    (if c then a else b).twin = if c then a.twin else b.twin := apply_ite State.twin c a b
@[simp] theorem ite_ud (c : Prop) [Decidable c] (a b : State) :
    (if c then a else b).ud = if c then a.ud else b.ud := apply_ite State.ud c a b
@[simp] theorem ite_back (c : Prop) [Decidable c] (a b : State) :
    (if c then a else b).back = if c then a.back else b.back := apply_ite State.back c a b
@[simp] theorem ite_now (c : Prop) [Decidable c] (a b : State) :
    (if c then a else b).now = if c then a.now else b.now := apply_ite State.now c a b
@[simp] theorem ite_free (c : Prop) [Decidable c] (a b : State) :
    (if c then a else b).free = if c then a.free else b.free := apply_ite State.free c a b
@[simp] theorem ite_pending (c : Prop) [Decidable c] (a b : State) :
    (if c then a else b).pending = if c then a.pending else b.pending := apply_ite State.pending c a b

@[simp] theorem ite_RegSt_log (c : Prop) [Decidable c] (a b : RegSt) :
    (if c then a else b).log = if c then a.log else b.log := apply_ite RegSt.log c a b
@[simp] theorem ite_HeatSt_num (c : Prop) [Decidable c] (a b : HeatSt) :
    (if c then a else b).num = if c then a.num else b.num := apply_ite HeatSt.num c a b
@[simp] theorem ite_SprintSt_readout (c : Prop) [Decidable c] (a b : SprintSt) :
    (if c then a else b).readout = if c then a.readout else b.readout := apply_ite SprintSt.readout c a b
@[simp] theorem ite_PortsSt_live (c : Prop) [Decidable c] (a b : PortsSt) :
    (if c then a else b).live = if c then a.live else b.live := apply_ite PortsSt.live c a b
@[simp] theorem ite_PortsSt_shadow (c : Prop) [Decidable c] (a b : PortsSt) :
    (if c then a else b).shadow = if c then a.shadow else b.shadow := apply_ite PortsSt.shadow c a b
@[simp] theorem ite_GridSt_scratch (c : Prop) [Decidable c] (a b : GridSt) :
    (if c then a else b).scratch = if c then a.scratch else b.scratch := apply_ite GridSt.scratch c a b
@[simp] theorem ite_TierSt_data (c : Prop) [Decidable c] (a b : TierSt) :
    (if c then a else b).data = if c then a.data else b.data := apply_ite TierSt.data c a b
@[simp] theorem ite_HostSt_mem (c : Prop) [Decidable c] (a b : HostSt) :
    (if c then a else b).mem = if c then a.mem else b.mem := apply_ite HostSt.mem c a b
@[simp] theorem ite_SealSt_vcount (c : Prop) [Decidable c] (a b : SealSt) :
    (if c then a else b).vcount = if c then a.vcount else b.vcount := apply_ite SealSt.vcount c a b
@[simp] theorem ite_SealSt_staging (c : Prop) [Decidable c] (a b : SealSt) :
    (if c then a else b).staging = if c then a.staging else b.staging := apply_ite SealSt.staging c a b

end Sys2Proof.Machine
end

