-- ==== Sys2Proof/Laws/FrameOps.lean ====
section
/-!
SUPPORT. What the operations of Machine/Ops.lean leave unchanged.
-/
namespace Sys2Proof.Machine
open Sys2Proof

@[simp] theorem rset_frame (s : State) (k : PageKind) (n : Nat) (off : Nat) (v : Nat) :
    (rset s k n off v).reg = s.reg ∧ (rset s k n off v).heat = s.heat ∧
    (rset s k n off v).sprint = s.sprint ∧ (rset s k n off v).ports = s.ports ∧
    (rset s k n off v).grid = s.grid ∧ (rset s k n off v).tile = s.tile ∧
    (rset s k n off v).att = s.att ∧ (rset s k n off v).tier = s.tier ∧
    (rset s k n off v).net = s.net ∧ (rset s k n off v).links = s.links ∧
    (rset s k n off v).coll = s.coll ∧ (rset s k n off v).host = s.host ∧
    (rset s k n off v).crew = s.crew ∧ (rset s k n off v).power = s.power ∧
    (rset s k n off v).twin = s.twin ∧ (rset s k n off v).ud = s.ud ∧
    (rset s k n off v).back = s.back ∧ (rset s k n off v).now = s.now ∧
    (rset s k n off v).free = s.free ∧ (rset s k n off v).pending = s.pending := by
  simp only [rset]
  repeat' split
  all_goals simp

@[simp] theorem rput_frame (s : State) (k : PageKind) (n : Nat) (off : Nat) (hi : Nat) (lo : Nat) (v : Nat) :
    (rput s k n off hi lo v).reg = s.reg ∧ (rput s k n off hi lo v).heat = s.heat ∧
    (rput s k n off hi lo v).sprint = s.sprint ∧ (rput s k n off hi lo v).ports = s.ports ∧
    (rput s k n off hi lo v).grid = s.grid ∧ (rput s k n off hi lo v).tile = s.tile ∧
    (rput s k n off hi lo v).att = s.att ∧ (rput s k n off hi lo v).tier = s.tier ∧
    (rput s k n off hi lo v).net = s.net ∧ (rput s k n off hi lo v).links = s.links ∧
    (rput s k n off hi lo v).coll = s.coll ∧ (rput s k n off hi lo v).host = s.host ∧
    (rput s k n off hi lo v).crew = s.crew ∧ (rput s k n off hi lo v).power = s.power ∧
    (rput s k n off hi lo v).twin = s.twin ∧ (rput s k n off hi lo v).ud = s.ud ∧
    (rput s k n off hi lo v).back = s.back ∧ (rput s k n off hi lo v).now = s.now ∧
    (rput s k n off hi lo v).free = s.free ∧ (rput s k n off hi lo v).pending = s.pending := by
  simp [rput]

@[simp] theorem bumpBy_frame (s : State) (k : PageKind) (n : Nat) (off : Nat) (c : Nat) :
    (bumpBy s k n off c).reg = s.reg ∧ (bumpBy s k n off c).heat = s.heat ∧
    (bumpBy s k n off c).sprint = s.sprint ∧ (bumpBy s k n off c).ports = s.ports ∧
    (bumpBy s k n off c).grid = s.grid ∧ (bumpBy s k n off c).tile = s.tile ∧
    (bumpBy s k n off c).att = s.att ∧ (bumpBy s k n off c).tier = s.tier ∧
    (bumpBy s k n off c).net = s.net ∧ (bumpBy s k n off c).links = s.links ∧
    (bumpBy s k n off c).coll = s.coll ∧ (bumpBy s k n off c).host = s.host ∧
    (bumpBy s k n off c).crew = s.crew ∧ (bumpBy s k n off c).power = s.power ∧
    (bumpBy s k n off c).twin = s.twin ∧ (bumpBy s k n off c).ud = s.ud ∧
    (bumpBy s k n off c).back = s.back ∧ (bumpBy s k n off c).now = s.now ∧
    (bumpBy s k n off c).free = s.free ∧ (bumpBy s k n off c).pending = s.pending := by
  simp [bumpBy]

@[simp] theorem bump_frame (s : State) (k : PageKind) (n : Nat) (off : Nat) :
    (bump s k n off).reg = s.reg ∧ (bump s k n off).heat = s.heat ∧
    (bump s k n off).sprint = s.sprint ∧ (bump s k n off).ports = s.ports ∧
    (bump s k n off).grid = s.grid ∧ (bump s k n off).tile = s.tile ∧
    (bump s k n off).att = s.att ∧ (bump s k n off).tier = s.tier ∧ (bump s k n off).net = s.net ∧
    (bump s k n off).links = s.links ∧ (bump s k n off).coll = s.coll ∧
    (bump s k n off).host = s.host ∧ (bump s k n off).crew = s.crew ∧
    (bump s k n off).power = s.power ∧ (bump s k n off).twin = s.twin ∧
    (bump s k n off).ud = s.ud ∧ (bump s k n off).back = s.back ∧ (bump s k n off).now = s.now ∧
    (bump s k n off).free = s.free ∧ (bump s k n off).pending = s.pending := by
  simp [bump]

@[simp] theorem bumpC_frame (s : State) (k : PageKind) (n : Nat) (j : Nat) :
    (bumpC s k n j).reg = s.reg ∧ (bumpC s k n j).heat = s.heat ∧
    (bumpC s k n j).sprint = s.sprint ∧ (bumpC s k n j).ports = s.ports ∧
    (bumpC s k n j).grid = s.grid ∧ (bumpC s k n j).tile = s.tile ∧ (bumpC s k n j).att = s.att ∧
    (bumpC s k n j).tier = s.tier ∧ (bumpC s k n j).net = s.net ∧
    (bumpC s k n j).links = s.links ∧ (bumpC s k n j).coll = s.coll ∧
    (bumpC s k n j).host = s.host ∧ (bumpC s k n j).crew = s.crew ∧
    (bumpC s k n j).power = s.power ∧ (bumpC s k n j).twin = s.twin ∧ (bumpC s k n j).ud = s.ud ∧
    (bumpC s k n j).back = s.back ∧ (bumpC s k n j).now = s.now ∧ (bumpC s k n j).free = s.free ∧
    (bumpC s k n j).pending = s.pending := by
  simp [bumpC]

@[simp] theorem rzero_frame (s : State) (k : PageKind) (n : Nat) (offs : List Nat) :
    (rzero s k n offs).reg = s.reg ∧ (rzero s k n offs).heat = s.heat ∧
    (rzero s k n offs).sprint = s.sprint ∧ (rzero s k n offs).ports = s.ports ∧
    (rzero s k n offs).grid = s.grid ∧ (rzero s k n offs).tile = s.tile ∧
    (rzero s k n offs).att = s.att ∧ (rzero s k n offs).tier = s.tier ∧
    (rzero s k n offs).net = s.net ∧ (rzero s k n offs).links = s.links ∧
    (rzero s k n offs).coll = s.coll ∧ (rzero s k n offs).host = s.host ∧
    (rzero s k n offs).crew = s.crew ∧ (rzero s k n offs).power = s.power ∧
    (rzero s k n offs).twin = s.twin ∧ (rzero s k n offs).ud = s.ud ∧
    (rzero s k n offs).back = s.back ∧ (rzero s k n offs).now = s.now ∧
    (rzero s k n offs).free = s.free ∧ (rzero s k n offs).pending = s.pending := by
  simp [rzero]

@[simp] theorem hostWrite_frame (s : State) (a : Nat) (b : List Byte) :
    (hostWrite s a b).regs = s.regs ∧ (hostWrite s a b).reg = s.reg ∧
    (hostWrite s a b).heat = s.heat ∧ (hostWrite s a b).sprint = s.sprint ∧
    (hostWrite s a b).ports = s.ports ∧ (hostWrite s a b).grid = s.grid ∧
    (hostWrite s a b).tile = s.tile ∧ (hostWrite s a b).att = s.att ∧
    (hostWrite s a b).tier = s.tier ∧ (hostWrite s a b).net = s.net ∧
    (hostWrite s a b).links = s.links ∧ (hostWrite s a b).coll = s.coll ∧
    (hostWrite s a b).crew = s.crew ∧ (hostWrite s a b).power = s.power ∧
    (hostWrite s a b).twin = s.twin ∧ (hostWrite s a b).ud = s.ud ∧
    (hostWrite s a b).back = s.back ∧ (hostWrite s a b).now = s.now ∧
    (hostWrite s a b).free = s.free ∧ (hostWrite s a b).pending = s.pending := by
  simp [hostWrite]

@[simp] theorem msix_frame (s : State) (fn : Nat) (vec : Nat) :
    (msix s fn vec).regs = s.regs ∧ (msix s fn vec).reg = s.reg ∧ (msix s fn vec).heat = s.heat ∧
    (msix s fn vec).sprint = s.sprint ∧ (msix s fn vec).ports = s.ports ∧
    (msix s fn vec).grid = s.grid ∧ (msix s fn vec).tile = s.tile ∧ (msix s fn vec).att = s.att ∧
    (msix s fn vec).tier = s.tier ∧ (msix s fn vec).net = s.net ∧
    (msix s fn vec).links = s.links ∧ (msix s fn vec).coll = s.coll ∧
    (msix s fn vec).host.mem = s.host.mem ∧ (msix s fn vec).crew = s.crew ∧
    (msix s fn vec).power = s.power ∧ (msix s fn vec).twin = s.twin ∧ (msix s fn vec).ud = s.ud ∧
    (msix s fn vec).back = s.back ∧ (msix s fn vec).now = s.now ∧ (msix s fn vec).free = s.free ∧
    (msix s fn vec).pending = s.pending := by
  simp [msix]

@[simp] theorem irqSend_frame (s : State) (k : PageKind) (n : Nat) :
    (irqSend s k n).regs = s.regs ∧ (irqSend s k n).reg = s.reg ∧ (irqSend s k n).heat = s.heat ∧
    (irqSend s k n).sprint = s.sprint ∧ (irqSend s k n).ports = s.ports ∧
    (irqSend s k n).grid = s.grid ∧ (irqSend s k n).tile = s.tile ∧ (irqSend s k n).att = s.att ∧
    (irqSend s k n).tier = s.tier ∧ (irqSend s k n).net = s.net ∧
    (irqSend s k n).links = s.links ∧ (irqSend s k n).coll = s.coll ∧
    (irqSend s k n).host.mem = s.host.mem ∧ (irqSend s k n).crew = s.crew ∧
    (irqSend s k n).power = s.power ∧ (irqSend s k n).twin = s.twin ∧ (irqSend s k n).ud = s.ud ∧
    (irqSend s k n).back = s.back ∧ (irqSend s k n).now = s.now ∧ (irqSend s k n).free = s.free ∧
    (irqSend s k n).pending = s.pending := by
  simp [irqSend]

@[simp] theorem irqRaise_frame (s : State) (k : PageKind) (n : Nat) (mask : Nat) :
    (irqRaise s k n mask).reg = s.reg ∧ (irqRaise s k n mask).heat = s.heat ∧
    (irqRaise s k n mask).sprint = s.sprint ∧ (irqRaise s k n mask).ports = s.ports ∧
    (irqRaise s k n mask).grid = s.grid ∧ (irqRaise s k n mask).tile = s.tile ∧
    (irqRaise s k n mask).att = s.att ∧ (irqRaise s k n mask).tier = s.tier ∧
    (irqRaise s k n mask).net = s.net ∧ (irqRaise s k n mask).links = s.links ∧
    (irqRaise s k n mask).coll = s.coll ∧ (irqRaise s k n mask).host.mem = s.host.mem ∧
    (irqRaise s k n mask).crew = s.crew ∧ (irqRaise s k n mask).power = s.power ∧
    (irqRaise s k n mask).twin = s.twin ∧ (irqRaise s k n mask).ud = s.ud ∧
    (irqRaise s k n mask).back = s.back ∧ (irqRaise s k n mask).now = s.now ∧
    (irqRaise s k n mask).free = s.free ∧ (irqRaise s k n mask).pending = s.pending := by
  simp [irqRaise]

@[simp] theorem event_frame (s : State) (k : PageKind) (n : Nat) :
    (event s k n).reg = s.reg ∧ (event s k n).heat = s.heat ∧ (event s k n).sprint = s.sprint ∧
    (event s k n).ports = s.ports ∧ (event s k n).grid = s.grid ∧ (event s k n).tile = s.tile ∧
    (event s k n).att = s.att ∧ (event s k n).tier = s.tier ∧ (event s k n).net = s.net ∧
    (event s k n).links = s.links ∧ (event s k n).coll = s.coll ∧
    (event s k n).host.mem = s.host.mem ∧ (event s k n).crew = s.crew ∧
    (event s k n).power = s.power ∧ (event s k n).twin = s.twin ∧ (event s k n).ud = s.ud ∧
    (event s k n).back = s.back ∧ (event s k n).now = s.now ∧ (event s k n).free = s.free ∧
    (event s k n).pending = s.pending := by
  simp [event]

@[simp] theorem raiseSwap_frame (s : State) (k : PageKind) (n : Nat) :
    (raiseSwap s k n).reg = s.reg ∧ (raiseSwap s k n).heat = s.heat ∧
    (raiseSwap s k n).sprint = s.sprint ∧ (raiseSwap s k n).ports = s.ports ∧
    (raiseSwap s k n).grid = s.grid ∧ (raiseSwap s k n).tile = s.tile ∧
    (raiseSwap s k n).att = s.att ∧ (raiseSwap s k n).tier = s.tier ∧
    (raiseSwap s k n).net = s.net ∧ (raiseSwap s k n).links = s.links ∧
    (raiseSwap s k n).coll = s.coll ∧ (raiseSwap s k n).host.mem = s.host.mem ∧
    (raiseSwap s k n).crew = s.crew ∧ (raiseSwap s k n).power = s.power ∧
    (raiseSwap s k n).twin = s.twin ∧ (raiseSwap s k n).ud = s.ud ∧
    (raiseSwap s k n).back = s.back ∧ (raiseSwap s k n).now = s.now ∧
    (raiseSwap s k n).free = s.free ∧ (raiseSwap s k n).pending = s.pending := by
  simp [raiseSwap]

@[simp] theorem countScope_frame (s : State) (code : Nat) :
    (countScope s code).reg = s.reg ∧ (countScope s code).heat = s.heat ∧
    (countScope s code).sprint = s.sprint ∧ (countScope s code).ports = s.ports ∧
    (countScope s code).grid = s.grid ∧ (countScope s code).tile = s.tile ∧
    (countScope s code).att = s.att ∧ (countScope s code).tier = s.tier ∧
    (countScope s code).net = s.net ∧ (countScope s code).links = s.links ∧
    (countScope s code).coll = s.coll ∧ (countScope s code).host = s.host ∧
    (countScope s code).crew = s.crew ∧ (countScope s code).power = s.power ∧
    (countScope s code).twin = s.twin ∧ (countScope s code).ud = s.ud ∧
    (countScope s code).back = s.back ∧ (countScope s code).now = s.now ∧
    (countScope s code).free = s.free ∧ (countScope s code).pending = s.pending := by
  simp [countScope]

@[simp] theorem tapSend_frame (s : State) (m : TapMsg) :
    (tapSend s m).regs = s.regs ∧ (tapSend s m).reg = s.reg ∧ (tapSend s m).heat = s.heat ∧
    (tapSend s m).sprint = s.sprint ∧ (tapSend s m).ports = s.ports ∧
    (tapSend s m).grid = s.grid ∧ (tapSend s m).tile = s.tile ∧ (tapSend s m).att = s.att ∧
    (tapSend s m).tier = s.tier ∧ (tapSend s m).net = s.net ∧ (tapSend s m).links = s.links ∧
    (tapSend s m).coll = s.coll ∧ (tapSend s m).host = s.host ∧ (tapSend s m).crew = s.crew ∧
    (tapSend s m).power = s.power ∧ (tapSend s m).twin = s.twin ∧
    (tapSend s m).ud.vcount = s.ud.vcount ∧ (tapSend s m).ud.staging = s.ud.staging ∧
    (tapSend s m).back = s.back ∧ (tapSend s m).now = s.now ∧ (tapSend s m).free = s.free ∧
    (tapSend s m).pending = s.pending := by
  simp [tapSend]

@[simp] theorem logErr_frame (s : State) (e : ErrEntry) :
    (logErr s e).heat = s.heat ∧ (logErr s e).sprint = s.sprint ∧ (logErr s e).ports = s.ports ∧
    (logErr s e).grid = s.grid ∧ (logErr s e).tile = s.tile ∧ (logErr s e).att = s.att ∧
    (logErr s e).tier = s.tier ∧ (logErr s e).net = s.net ∧ (logErr s e).links = s.links ∧
    (logErr s e).coll = s.coll ∧ (logErr s e).host = s.host ∧ (logErr s e).crew = s.crew ∧
    (logErr s e).power = s.power ∧ (logErr s e).twin = s.twin ∧ (logErr s e).ud = s.ud ∧
    (logErr s e).back = s.back ∧ (logErr s e).now = s.now ∧ (logErr s e).free = s.free ∧
    (logErr s e).pending = s.pending := by
  simp [logErr]

@[simp] theorem recordErr_frame (s : State) (k : PageKind) (n : Nat) (code : Nat) (addr : Nat) (crew : Nat) :
    (recordErr s k n code addr crew).heat = s.heat ∧
    (recordErr s k n code addr crew).sprint.readout = s.sprint.readout ∧
    (recordErr s k n code addr crew).ports = s.ports ∧
    (recordErr s k n code addr crew).grid = s.grid ∧
    (recordErr s k n code addr crew).tile = s.tile ∧
    (recordErr s k n code addr crew).att = s.att ∧
    (recordErr s k n code addr crew).tier = s.tier ∧
    (recordErr s k n code addr crew).net = s.net ∧
    (recordErr s k n code addr crew).links = s.links ∧
    (recordErr s k n code addr crew).coll = s.coll ∧
    (recordErr s k n code addr crew).host.mem = s.host.mem ∧
    (recordErr s k n code addr crew).crew = s.crew ∧
    (recordErr s k n code addr crew).power = s.power ∧
    (recordErr s k n code addr crew).twin = s.twin ∧
    (recordErr s k n code addr crew).ud.vcount = s.ud.vcount ∧
    (recordErr s k n code addr crew).ud.staging = s.ud.staging ∧
    (recordErr s k n code addr crew).back = s.back ∧
    (recordErr s k n code addr crew).now = s.now ∧
    (recordErr s k n code addr crew).free = s.free ∧
    (recordErr s k n code addr crew).pending = s.pending := by
  simp [recordErr]

@[simp] theorem errConfig_frame (s : State) (k : PageKind) (n : Nat) (addr : Nat) (crew : Nat) :
    (errConfig s k n addr crew).heat = s.heat ∧
    (errConfig s k n addr crew).sprint.readout = s.sprint.readout ∧
    (errConfig s k n addr crew).ports = s.ports ∧ (errConfig s k n addr crew).grid = s.grid ∧
    (errConfig s k n addr crew).tile = s.tile ∧ (errConfig s k n addr crew).att = s.att ∧
    (errConfig s k n addr crew).tier = s.tier ∧ (errConfig s k n addr crew).net = s.net ∧
    (errConfig s k n addr crew).links = s.links ∧ (errConfig s k n addr crew).coll = s.coll ∧
    (errConfig s k n addr crew).host.mem = s.host.mem ∧
    (errConfig s k n addr crew).crew = s.crew ∧ (errConfig s k n addr crew).power = s.power ∧
    (errConfig s k n addr crew).twin = s.twin ∧
    (errConfig s k n addr crew).ud.vcount = s.ud.vcount ∧
    (errConfig s k n addr crew).ud.staging = s.ud.staging ∧
    (errConfig s k n addr crew).back = s.back ∧ (errConfig s k n addr crew).now = s.now ∧
    (errConfig s k n addr crew).free = s.free ∧ (errConfig s k n addr crew).pending = s.pending := by
  simp [errConfig]

@[simp] theorem seen_frame (s : State) (t : Time) :
    (seen s t).regs = s.regs ∧ (seen s t).reg = s.reg ∧ (seen s t).heat = s.heat ∧
    (seen s t).sprint = s.sprint ∧ (seen s t).ports = s.ports ∧ (seen s t).grid = s.grid ∧
    (seen s t).tile = s.tile ∧ (seen s t).att = s.att ∧ (seen s t).tier = s.tier ∧
    (seen s t).net = s.net ∧ (seen s t).links = s.links ∧ (seen s t).coll = s.coll ∧
    (seen s t).host = s.host ∧ (seen s t).crew = s.crew ∧ (seen s t).power = s.power ∧
    (seen s t).twin = s.twin ∧ (seen s t).ud = s.ud ∧ (seen s t).back = s.back ∧
    (seen s t).free = s.free ∧ (seen s t).pending = s.pending := by
  simp [seen]

@[simp] theorem draw_frame (s : State) :
    (draw s).2.regs = s.regs ∧ (draw s).2.reg = s.reg ∧ (draw s).2.heat = s.heat ∧
    (draw s).2.sprint = s.sprint ∧ (draw s).2.ports = s.ports ∧ (draw s).2.grid = s.grid ∧
    (draw s).2.tile = s.tile ∧ (draw s).2.att = s.att ∧ (draw s).2.tier = s.tier ∧
    (draw s).2.net = s.net ∧ (draw s).2.links = s.links ∧ (draw s).2.coll = s.coll ∧
    (draw s).2.host = s.host ∧ (draw s).2.crew = s.crew ∧ (draw s).2.power = s.power ∧
    (draw s).2.twin = s.twin ∧ (draw s).2.ud = s.ud ∧ (draw s).2.back = s.back ∧
    (draw s).2.now = s.now ∧ (draw s).2.pending = s.pending := by
  simp [draw]

@[simp] theorem returnCredits_frame (s : State) (link : Option (Nat × Nat)) (flits : Nat) :
    (returnCredits s link flits).regs = s.regs ∧ (returnCredits s link flits).reg = s.reg ∧
    (returnCredits s link flits).heat = s.heat ∧ (returnCredits s link flits).sprint = s.sprint ∧
    (returnCredits s link flits).ports = s.ports ∧ (returnCredits s link flits).grid = s.grid ∧
    (returnCredits s link flits).tile = s.tile ∧ (returnCredits s link flits).att = s.att ∧
    (returnCredits s link flits).tier = s.tier ∧ (returnCredits s link flits).net = s.net ∧
    (returnCredits s link flits).coll = s.coll ∧ (returnCredits s link flits).host = s.host ∧
    (returnCredits s link flits).crew = s.crew ∧ (returnCredits s link flits).power = s.power ∧
    (returnCredits s link flits).twin = s.twin ∧ (returnCredits s link flits).ud = s.ud ∧
    (returnCredits s link flits).back = s.back ∧ (returnCredits s link flits).now = s.now ∧
    (returnCredits s link flits).free = s.free ∧ (returnCredits s link flits).pending = s.pending := by
  simp only [returnCredits]
  repeat' split
  all_goals simp

@[simp] theorem dropHeld_frame (s : State) :
    (dropHeld s).regs = s.regs ∧ (dropHeld s).reg = s.reg ∧ (dropHeld s).heat = s.heat ∧
    (dropHeld s).sprint = s.sprint ∧ (dropHeld s).ports = s.ports ∧ (dropHeld s).grid = s.grid ∧
    (dropHeld s).tile = s.tile ∧ (dropHeld s).att = s.att ∧ (dropHeld s).tier = s.tier ∧
    (dropHeld s).links = s.links ∧ (dropHeld s).coll = s.coll ∧ (dropHeld s).host = s.host ∧
    (dropHeld s).crew = s.crew ∧ (dropHeld s).power = s.power ∧ (dropHeld s).twin = s.twin ∧
    (dropHeld s).ud = s.ud ∧ (dropHeld s).back = s.back ∧ (dropHeld s).now = s.now ∧
    (dropHeld s).free = s.free ∧ (dropHeld s).pending = s.pending := by
  simp [dropHeld]

@[simp] theorem copyFell_frame (s : State) :
    (copyFell s).reg = s.reg ∧ (copyFell s).heat.num = s.heat.num ∧
    (copyFell s).sprint = s.sprint ∧ (copyFell s).ports = s.ports ∧ (copyFell s).grid = s.grid ∧
    (copyFell s).tile = s.tile ∧ (copyFell s).att = s.att ∧ (copyFell s).tier = s.tier ∧
    (copyFell s).coll = s.coll ∧ (copyFell s).host.mem = s.host.mem ∧ (copyFell s).crew = s.crew ∧
    (copyFell s).power = s.power ∧ (copyFell s).twin = s.twin ∧ (copyFell s).ud = s.ud ∧
    (copyFell s).back = s.back ∧ (copyFell s).now = s.now ∧ (copyFell s).free = s.free ∧
    (copyFell s).pending = s.pending := by
  simp [copyFell]

@[simp] theorem xactResult_frame (s : State) (p : Port) (code : Nat) :
    (xactResult s p code).heat = s.heat ∧
    (xactResult s p code).sprint.readout = s.sprint.readout ∧
    (xactResult s p code).ports = s.ports ∧ (xactResult s p code).grid = s.grid ∧
    (xactResult s p code).tile = s.tile ∧ (xactResult s p code).att = s.att ∧
    (xactResult s p code).tier = s.tier ∧ (xactResult s p code).net = s.net ∧
    (xactResult s p code).links = s.links ∧ (xactResult s p code).coll = s.coll ∧
    (xactResult s p code).host.mem = s.host.mem ∧ (xactResult s p code).crew = s.crew ∧
    (xactResult s p code).power = s.power ∧ (xactResult s p code).twin = s.twin ∧
    (xactResult s p code).ud.vcount = s.ud.vcount ∧
    (xactResult s p code).ud.staging = s.ud.staging ∧ (xactResult s p code).back = s.back ∧
    (xactResult s p code).now = s.now ∧ (xactResult s p code).free = s.free ∧
    (xactResult s p code).pending = s.pending := by
  simp [xactResult]

@[simp] theorem xactIdle_frame (s : State) :
    (xactIdle s).regs = s.regs ∧ (xactIdle s).reg.log = s.reg.log ∧ (xactIdle s).heat = s.heat ∧
    (xactIdle s).sprint = s.sprint ∧ (xactIdle s).ports = s.ports ∧ (xactIdle s).grid = s.grid ∧
    (xactIdle s).tile = s.tile ∧ (xactIdle s).att = s.att ∧ (xactIdle s).tier = s.tier ∧
    (xactIdle s).net = s.net ∧ (xactIdle s).links = s.links ∧ (xactIdle s).coll = s.coll ∧
    (xactIdle s).host = s.host ∧ (xactIdle s).crew = s.crew ∧ (xactIdle s).power = s.power ∧
    (xactIdle s).twin = s.twin ∧ (xactIdle s).ud = s.ud ∧ (xactIdle s).back = s.back ∧
    (xactIdle s).now = s.now ∧ (xactIdle s).free = s.free ∧ (xactIdle s).pending = s.pending := by
  simp [xactIdle]

@[simp] theorem xactLate_frame (s : State) :
    (xactLate s).heat = s.heat ∧ (xactLate s).sprint.readout = s.sprint.readout ∧
    (xactLate s).ports = s.ports ∧ (xactLate s).grid = s.grid ∧ (xactLate s).tile = s.tile ∧
    (xactLate s).att = s.att ∧ (xactLate s).tier = s.tier ∧ (xactLate s).net = s.net ∧
    (xactLate s).links = s.links ∧ (xactLate s).coll = s.coll ∧
    (xactLate s).host.mem = s.host.mem ∧ (xactLate s).crew = s.crew ∧
    (xactLate s).power = s.power ∧ (xactLate s).twin = s.twin ∧
    (xactLate s).ud.vcount = s.ud.vcount ∧ (xactLate s).ud.staging = s.ud.staging ∧
    (xactLate s).back = s.back ∧ (xactLate s).now = s.now ∧ (xactLate s).free = s.free ∧
    (xactLate s).pending = s.pending := by
  simp only [xactLate]
  repeat' split
  all_goals simp

@[simp] theorem gather_frame (s : State) (off : Nat) (f : Flags) :
    (gather s off f).reg = s.reg ∧ (gather s off f).heat = s.heat ∧
    (gather s off f).sprint = s.sprint ∧ (gather s off f).ports = s.ports ∧
    (gather s off f).grid = s.grid ∧ (gather s off f).tile = s.tile ∧
    (gather s off f).att = s.att ∧ (gather s off f).tier = s.tier ∧ (gather s off f).net = s.net ∧
    (gather s off f).links = s.links ∧ (gather s off f).coll = s.coll ∧
    (gather s off f).host.mem = s.host.mem ∧ (gather s off f).crew = s.crew ∧
    (gather s off f).power = s.power ∧ (gather s off f).twin = s.twin ∧
    (gather s off f).ud = s.ud ∧ (gather s off f).back = s.back ∧ (gather s off f).now = s.now ∧
    (gather s off f).free = s.free ∧ (gather s off f).pending = s.pending := by
  simp [gather]

@[simp] theorem gatherCrew_frame (s : State) (crew : Nat) (f : Flags) :
    (gatherCrew s crew f).reg = s.reg ∧ (gatherCrew s crew f).heat = s.heat ∧
    (gatherCrew s crew f).sprint = s.sprint ∧ (gatherCrew s crew f).ports = s.ports ∧
    (gatherCrew s crew f).grid = s.grid ∧ (gatherCrew s crew f).tile = s.tile ∧
    (gatherCrew s crew f).att = s.att ∧ (gatherCrew s crew f).tier = s.tier ∧
    (gatherCrew s crew f).net = s.net ∧ (gatherCrew s crew f).links = s.links ∧
    (gatherCrew s crew f).coll = s.coll ∧ (gatherCrew s crew f).host.mem = s.host.mem ∧
    (gatherCrew s crew f).crew = s.crew ∧ (gatherCrew s crew f).power = s.power ∧
    (gatherCrew s crew f).twin = s.twin ∧ (gatherCrew s crew f).ud = s.ud ∧
    (gatherCrew s crew f).back = s.back ∧ (gatherCrew s crew f).now = s.now ∧
    (gatherCrew s crew f).free = s.free ∧ (gatherCrew s crew f).pending = s.pending := by
  simp [gatherCrew]

@[simp] theorem gatherSprint_frame (s : State) (f : Flags) :
    (gatherSprint s f).reg = s.reg ∧ (gatherSprint s f).heat = s.heat ∧
    (gatherSprint s f).sprint = s.sprint ∧ (gatherSprint s f).ports = s.ports ∧
    (gatherSprint s f).grid = s.grid ∧ (gatherSprint s f).tile = s.tile ∧
    (gatherSprint s f).att = s.att ∧ (gatherSprint s f).tier = s.tier ∧
    (gatherSprint s f).net = s.net ∧ (gatherSprint s f).links = s.links ∧
    (gatherSprint s f).coll = s.coll ∧ (gatherSprint s f).host.mem = s.host.mem ∧
    (gatherSprint s f).crew = s.crew ∧ (gatherSprint s f).power = s.power ∧
    (gatherSprint s f).twin = s.twin ∧ (gatherSprint s f).ud = s.ud ∧
    (gatherSprint s f).back = s.back ∧ (gatherSprint s f).now = s.now ∧
    (gatherSprint s f).free = s.free ∧ (gatherSprint s f).pending = s.pending := by
  simp [gatherSprint]

end Sys2Proof.Machine
end

