-- ==== Sys2Proof/Laws/FrameObjects.lean ====
section
/-!
SUPPORT. What the operations of Machine/Objects.lean leave unchanged.
-/
namespace Sys2Proof.Machine
open Sys2Proof

@[simp] theorem objSet_frame (s : State) (crew : Nat) (obj : Nat) (o : Obj) :
    (objSet s crew obj o).regs = s.regs ∧ (objSet s crew obj o).reg = s.reg ∧
    (objSet s crew obj o).heat = s.heat ∧ (objSet s crew obj o).sprint = s.sprint ∧
    (objSet s crew obj o).ports = s.ports ∧ (objSet s crew obj o).grid = s.grid ∧
    (objSet s crew obj o).tile = s.tile ∧ (objSet s crew obj o).att = s.att ∧
    (objSet s crew obj o).tier.data = s.tier.data ∧ (objSet s crew obj o).net = s.net ∧
    (objSet s crew obj o).links = s.links ∧ (objSet s crew obj o).coll = s.coll ∧
    (objSet s crew obj o).host = s.host ∧ (objSet s crew obj o).crew = s.crew ∧
    (objSet s crew obj o).power = s.power ∧ (objSet s crew obj o).twin = s.twin ∧
    (objSet s crew obj o).ud = s.ud ∧ (objSet s crew obj o).back = s.back ∧
    (objSet s crew obj o).now = s.now ∧ (objSet s crew obj o).free = s.free ∧
    (objSet s crew obj o).pending = s.pending := by
  simp only [objSet]
  repeat' split
  all_goals simp

@[simp] theorem wrU_frame (s : State) (crew : Nat) (a : Nat) (b : List Byte) :
    (wrU s crew a b).regs = s.regs ∧ (wrU s crew a b).reg = s.reg ∧
    (wrU s crew a b).heat = s.heat ∧ (wrU s crew a b).sprint = s.sprint ∧
    (wrU s crew a b).ports = s.ports ∧ (wrU s crew a b).grid = s.grid ∧
    (wrU s crew a b).tile = s.tile ∧ (wrU s crew a b).att = s.att ∧ (wrU s crew a b).net = s.net ∧
    (wrU s crew a b).links = s.links ∧ (wrU s crew a b).coll = s.coll ∧
    (wrU s crew a b).host = s.host ∧ (wrU s crew a b).crew = s.crew ∧
    (wrU s crew a b).power = s.power ∧ (wrU s crew a b).twin = s.twin ∧
    (wrU s crew a b).ud = s.ud ∧ (wrU s crew a b).back = s.back ∧ (wrU s crew a b).now = s.now ∧
    (wrU s crew a b).free = s.free ∧ (wrU s crew a b).pending = s.pending := by
  simp [wrU]

@[simp] theorem addReader_frame (s : State) (crew : Nat) (a : Nat) (slot : Nat) :
    (addReader s crew a slot).regs = s.regs ∧ (addReader s crew a slot).reg = s.reg ∧
    (addReader s crew a slot).heat = s.heat ∧ (addReader s crew a slot).sprint = s.sprint ∧
    (addReader s crew a slot).ports = s.ports ∧ (addReader s crew a slot).grid = s.grid ∧
    (addReader s crew a slot).tile = s.tile ∧ (addReader s crew a slot).att = s.att ∧
    (addReader s crew a slot).tier.data = s.tier.data ∧ (addReader s crew a slot).net = s.net ∧
    (addReader s crew a slot).links = s.links ∧ (addReader s crew a slot).coll = s.coll ∧
    (addReader s crew a slot).host = s.host ∧ (addReader s crew a slot).crew = s.crew ∧
    (addReader s crew a slot).power = s.power ∧ (addReader s crew a slot).twin = s.twin ∧
    (addReader s crew a slot).ud = s.ud ∧ (addReader s crew a slot).back = s.back ∧
    (addReader s crew a slot).now = s.now ∧ (addReader s crew a slot).free = s.free ∧
    (addReader s crew a slot).pending = s.pending := by
  simp only [addReader]
  repeat' split
  all_goals simp

@[simp] theorem slotMod_frame (s : State) (i : Nat) (f : Slot → Slot) :
    (slotMod s i f).regs = s.regs ∧ (slotMod s i f).reg = s.reg ∧ (slotMod s i f).heat = s.heat ∧
    (slotMod s i f).sprint = s.sprint ∧ (slotMod s i f).ports = s.ports ∧
    (slotMod s i f).grid = s.grid ∧ (slotMod s i f).tile = s.tile ∧ (slotMod s i f).att = s.att ∧
    (slotMod s i f).tier = s.tier ∧ (slotMod s i f).net = s.net ∧
    (slotMod s i f).links = s.links ∧ (slotMod s i f).coll = s.coll ∧
    (slotMod s i f).host.mem = s.host.mem ∧ (slotMod s i f).crew = s.crew ∧
    (slotMod s i f).power = s.power ∧ (slotMod s i f).twin = s.twin ∧ (slotMod s i f).ud = s.ud ∧
    (slotMod s i f).back = s.back ∧ (slotMod s i f).now = s.now ∧ (slotMod s i f).free = s.free ∧
    (slotMod s i f).pending = s.pending := by
  simp [slotMod]

@[simp] theorem dropReader_frame (s : State) (i : Nat) :
    (dropReader s i).regs = s.regs ∧ (dropReader s i).reg = s.reg ∧
    (dropReader s i).heat = s.heat ∧ (dropReader s i).sprint = s.sprint ∧
    (dropReader s i).ports = s.ports ∧ (dropReader s i).grid = s.grid ∧
    (dropReader s i).tile = s.tile ∧ (dropReader s i).att = s.att ∧
    (dropReader s i).tier.data = s.tier.data ∧ (dropReader s i).net = s.net ∧
    (dropReader s i).links = s.links ∧ (dropReader s i).coll = s.coll ∧
    (dropReader s i).host = s.host ∧ (dropReader s i).crew = s.crew ∧
    (dropReader s i).power = s.power ∧ (dropReader s i).twin = s.twin ∧
    (dropReader s i).ud = s.ud ∧ (dropReader s i).back = s.back ∧ (dropReader s i).now = s.now ∧
    (dropReader s i).free = s.free ∧ (dropReader s i).pending = s.pending := by
  simp [dropReader]

@[simp] theorem dropReqs_frame (s : State) (p : TierReq → Bool) :
    (dropReqs s p).regs = s.regs ∧ (dropReqs s p).reg = s.reg ∧ (dropReqs s p).heat = s.heat ∧
    (dropReqs s p).sprint = s.sprint ∧ (dropReqs s p).ports = s.ports ∧
    (dropReqs s p).grid = s.grid ∧ (dropReqs s p).tile = s.tile ∧ (dropReqs s p).att = s.att ∧
    (dropReqs s p).tier.data = s.tier.data ∧ (dropReqs s p).net = s.net ∧
    (dropReqs s p).links = s.links ∧ (dropReqs s p).coll = s.coll ∧ (dropReqs s p).host = s.host ∧
    (dropReqs s p).crew = s.crew ∧ (dropReqs s p).power = s.power ∧ (dropReqs s p).twin = s.twin ∧
    (dropReqs s p).ud = s.ud ∧ (dropReqs s p).back = s.back ∧ (dropReqs s p).now = s.now ∧
    (dropReqs s p).free = s.free ∧ (dropReqs s p).pending = s.pending := by
  simp [dropReqs]

@[simp] theorem endCmd_frame (s : State) (i : Nat) (status : Nat) (detail : Nat) (result : Nat) (flags : Flags) :
    (endCmd s i status detail result flags).regs = s.regs ∧
    (endCmd s i status detail result flags).reg = s.reg ∧
    (endCmd s i status detail result flags).heat = s.heat ∧
    (endCmd s i status detail result flags).sprint = s.sprint ∧
    (endCmd s i status detail result flags).ports = s.ports ∧
    (endCmd s i status detail result flags).grid = s.grid ∧
    (endCmd s i status detail result flags).tile = s.tile ∧
    (endCmd s i status detail result flags).att = s.att ∧
    (endCmd s i status detail result flags).tier.data = s.tier.data ∧
    (endCmd s i status detail result flags).net = s.net ∧
    (endCmd s i status detail result flags).links = s.links ∧
    (endCmd s i status detail result flags).coll = s.coll ∧
    (endCmd s i status detail result flags).host.mem = s.host.mem ∧
    (endCmd s i status detail result flags).crew = s.crew ∧
    (endCmd s i status detail result flags).power = s.power ∧
    (endCmd s i status detail result flags).twin = s.twin ∧
    (endCmd s i status detail result flags).ud = s.ud ∧
    (endCmd s i status detail result flags).back = s.back ∧
    (endCmd s i status detail result flags).now = s.now ∧
    (endCmd s i status detail result flags).free = s.free ∧
    (endCmd s i status detail result flags).pending = s.pending := by
  simp only [endCmd]
  repeat' split
  all_goals simp

@[simp] theorem poison_frame (s : State) (crew : Nat) (obj : Nat) :
    (poison s crew obj).reg = s.reg ∧ (poison s crew obj).heat = s.heat ∧
    (poison s crew obj).sprint = s.sprint ∧ (poison s crew obj).ports = s.ports ∧
    (poison s crew obj).grid = s.grid ∧ (poison s crew obj).tile = s.tile ∧
    (poison s crew obj).att = s.att ∧ (poison s crew obj).tier.data = s.tier.data ∧
    (poison s crew obj).net = s.net ∧ (poison s crew obj).links = s.links ∧
    (poison s crew obj).coll = s.coll ∧ (poison s crew obj).host.mem = s.host.mem ∧
    (poison s crew obj).crew = s.crew ∧ (poison s crew obj).power = s.power ∧
    (poison s crew obj).twin = s.twin ∧ (poison s crew obj).ud = s.ud ∧
    (poison s crew obj).back = s.back ∧ (poison s crew obj).now = s.now ∧
    (poison s crew obj).free = s.free ∧ (poison s crew obj).pending = s.pending := by
  simp only [poison]
  repeat' split
  all_goals simp

@[simp] theorem invalidate_frame (s : State) (crew : Nat) (a : Nat) (len : Nat) :
    (invalidate s crew a len).regs = s.regs ∧ (invalidate s crew a len).reg = s.reg ∧
    (invalidate s crew a len).heat = s.heat ∧ (invalidate s crew a len).sprint = s.sprint ∧
    (invalidate s crew a len).ports = s.ports ∧ (invalidate s crew a len).grid = s.grid ∧
    (invalidate s crew a len).att = s.att ∧ (invalidate s crew a len).tier = s.tier ∧
    (invalidate s crew a len).net = s.net ∧ (invalidate s crew a len).links = s.links ∧
    (invalidate s crew a len).coll = s.coll ∧ (invalidate s crew a len).host = s.host ∧
    (invalidate s crew a len).crew = s.crew ∧ (invalidate s crew a len).power = s.power ∧
    (invalidate s crew a len).twin = s.twin ∧ (invalidate s crew a len).ud = s.ud ∧
    (invalidate s crew a len).back = s.back ∧ (invalidate s crew a len).now = s.now ∧
    (invalidate s crew a len).free = s.free ∧ (invalidate s crew a len).pending = s.pending := by
  simp [invalidate]

@[simp] theorem flagCmd_frame (s : State) (i : Nat) (f : Flags) :
    (flagCmd s i f).regs = s.regs ∧ (flagCmd s i f).reg = s.reg ∧ (flagCmd s i f).heat = s.heat ∧
    (flagCmd s i f).sprint = s.sprint ∧ (flagCmd s i f).ports = s.ports ∧
    (flagCmd s i f).grid = s.grid ∧ (flagCmd s i f).tile = s.tile ∧ (flagCmd s i f).att = s.att ∧
    (flagCmd s i f).tier = s.tier ∧ (flagCmd s i f).net = s.net ∧
    (flagCmd s i f).links = s.links ∧ (flagCmd s i f).coll = s.coll ∧
    (flagCmd s i f).host.mem = s.host.mem ∧ (flagCmd s i f).crew = s.crew ∧
    (flagCmd s i f).power = s.power ∧ (flagCmd s i f).twin = s.twin ∧ (flagCmd s i f).ud = s.ud ∧
    (flagCmd s i f).back = s.back ∧ (flagCmd s i f).now = s.now ∧ (flagCmd s i f).free = s.free ∧
    (flagCmd s i f).pending = s.pending := by
  simp [flagCmd]

@[simp] theorem countNotResident_frame (s : State) (code : Nat) :
    (countNotResident s code).reg = s.reg ∧ (countNotResident s code).heat = s.heat ∧
    (countNotResident s code).sprint = s.sprint ∧ (countNotResident s code).ports = s.ports ∧
    (countNotResident s code).grid = s.grid ∧ (countNotResident s code).tile = s.tile ∧
    (countNotResident s code).att = s.att ∧ (countNotResident s code).tier = s.tier ∧
    (countNotResident s code).net = s.net ∧ (countNotResident s code).links = s.links ∧
    (countNotResident s code).coll = s.coll ∧ (countNotResident s code).host = s.host ∧
    (countNotResident s code).crew = s.crew ∧ (countNotResident s code).power = s.power ∧
    (countNotResident s code).twin = s.twin ∧ (countNotResident s code).ud = s.ud ∧
    (countNotResident s code).back = s.back ∧ (countNotResident s code).now = s.now ∧
    (countNotResident s code).free = s.free ∧ (countNotResident s code).pending = s.pending := by
  simp [countNotResident]

@[simp] theorem endAt_frame (s : State) (i : Nat) (code : Nat) (a : Nat) :
    (endAt s i code a).reg = s.reg ∧ (endAt s i code a).heat = s.heat ∧
    (endAt s i code a).sprint = s.sprint ∧ (endAt s i code a).ports = s.ports ∧
    (endAt s i code a).grid = s.grid ∧ (endAt s i code a).tile = s.tile ∧
    (endAt s i code a).att = s.att ∧ (endAt s i code a).tier.data = s.tier.data ∧
    (endAt s i code a).net = s.net ∧ (endAt s i code a).links = s.links ∧
    (endAt s i code a).coll = s.coll ∧ (endAt s i code a).host.mem = s.host.mem ∧
    (endAt s i code a).crew = s.crew ∧ (endAt s i code a).power = s.power ∧
    (endAt s i code a).twin = s.twin ∧ (endAt s i code a).ud = s.ud ∧
    (endAt s i code a).back = s.back ∧ (endAt s i code a).now = s.now ∧
    (endAt s i code a).free = s.free ∧ (endAt s i code a).pending = s.pending := by
  simp [endAt]

end Sys2Proof.Machine
end

