-- ==== Sys2Proof/Laws/FrameGridOps.lean ====
section
/-!
SUPPORT. What the operations of Machine/GridOps.lean leave unchanged.
-/
namespace Sys2Proof.Machine
open Sys2Proof

@[simp] theorem pushQ_frame (s : State) (q : Nat) (p : Pkt) :
    (pushQ s q p).regs = s.regs ∧ (pushQ s q p).reg = s.reg ∧ (pushQ s q p).heat = s.heat ∧
    (pushQ s q p).sprint = s.sprint ∧ (pushQ s q p).ports = s.ports ∧
    (pushQ s q p).grid = s.grid ∧ (pushQ s q p).tile = s.tile ∧ (pushQ s q p).att = s.att ∧
    (pushQ s q p).tier = s.tier ∧ (pushQ s q p).links = s.links ∧ (pushQ s q p).coll = s.coll ∧
    (pushQ s q p).host = s.host ∧ (pushQ s q p).crew = s.crew ∧ (pushQ s q p).power = s.power ∧
    (pushQ s q p).twin = s.twin ∧ (pushQ s q p).ud = s.ud ∧ (pushQ s q p).back = s.back ∧
    (pushQ s q p).now = s.now ∧ (pushQ s q p).free = s.free ∧ (pushQ s q p).pending = s.pending := by
  simp only [pushQ]
  repeat' split
  all_goals simp

@[simp] theorem inject_frame (s : State) (p : Pkt) :
    (inject s p).regs = s.regs ∧ (inject s p).reg = s.reg ∧ (inject s p).heat = s.heat ∧
    (inject s p).sprint = s.sprint ∧ (inject s p).ports = s.ports ∧ (inject s p).grid = s.grid ∧
    (inject s p).tile = s.tile ∧ (inject s p).att = s.att ∧ (inject s p).tier = s.tier ∧
    (inject s p).links = s.links ∧ (inject s p).coll = s.coll ∧ (inject s p).host = s.host ∧
    (inject s p).crew = s.crew ∧ (inject s p).power = s.power ∧ (inject s p).twin = s.twin ∧
    (inject s p).ud = s.ud ∧ (inject s p).back = s.back ∧ (inject s p).now = s.now ∧
    (inject s p).free = s.free ∧ (inject s p).pending = s.pending := by
  simp [inject]

@[simp] theorem pumpOutbox_frame (s : State) (q : Nat) :
    (pumpOutbox s q).regs = s.regs ∧ (pumpOutbox s q).reg = s.reg ∧
    (pumpOutbox s q).heat = s.heat ∧ (pumpOutbox s q).sprint = s.sprint ∧
    (pumpOutbox s q).ports = s.ports ∧ (pumpOutbox s q).grid = s.grid ∧
    (pumpOutbox s q).tile = s.tile ∧ (pumpOutbox s q).att = s.att ∧
    (pumpOutbox s q).tier = s.tier ∧ (pumpOutbox s q).links = s.links ∧
    (pumpOutbox s q).coll = s.coll ∧ (pumpOutbox s q).host = s.host ∧
    (pumpOutbox s q).crew = s.crew ∧ (pumpOutbox s q).power = s.power ∧
    (pumpOutbox s q).twin = s.twin ∧ (pumpOutbox s q).ud = s.ud ∧ (pumpOutbox s q).back = s.back ∧
    (pumpOutbox s q).now = s.now ∧ (pumpOutbox s q).free = s.free ∧
    (pumpOutbox s q).pending = s.pending := by
  simp only [pumpOutbox]
  repeat' split
  all_goals simp

@[simp] theorem oarMod_frame (s : State) (k : Nat) (f : Oar → Oar) :
    (oarMod s k f).regs = s.regs ∧ (oarMod s k f).reg = s.reg ∧ (oarMod s k f).heat = s.heat ∧
    (oarMod s k f).sprint = s.sprint ∧ (oarMod s k f).ports = s.ports ∧
    (oarMod s k f).grid.scratch = s.grid.scratch ∧ (oarMod s k f).tile = s.tile ∧
    (oarMod s k f).att = s.att ∧ (oarMod s k f).tier = s.tier ∧ (oarMod s k f).net = s.net ∧
    (oarMod s k f).links = s.links ∧ (oarMod s k f).coll = s.coll ∧ (oarMod s k f).host = s.host ∧
    (oarMod s k f).crew = s.crew ∧ (oarMod s k f).power = s.power ∧ (oarMod s k f).twin = s.twin ∧
    (oarMod s k f).ud = s.ud ∧ (oarMod s k f).back = s.back ∧ (oarMod s k f).now = s.now ∧
    (oarMod s k f).free = s.free ∧ (oarMod s k f).pending = s.pending := by
  simp [oarMod]

@[simp] theorem shellSet_frame (s : State) (k : Nat) (x : Shell) :
    (shellSet s k x).regs = s.regs ∧ (shellSet s k x).reg = s.reg ∧
    (shellSet s k x).heat = s.heat ∧ (shellSet s k x).sprint = s.sprint ∧
    (shellSet s k x).ports = s.ports ∧ (shellSet s k x).grid.scratch = s.grid.scratch ∧
    (shellSet s k x).tile = s.tile ∧ (shellSet s k x).att = s.att ∧
    (shellSet s k x).tier = s.tier ∧ (shellSet s k x).net = s.net ∧
    (shellSet s k x).links = s.links ∧ (shellSet s k x).coll = s.coll ∧
    (shellSet s k x).host = s.host ∧ (shellSet s k x).crew = s.crew ∧
    (shellSet s k x).power = s.power ∧ (shellSet s k x).twin = s.twin ∧
    (shellSet s k x).ud = s.ud ∧ (shellSet s k x).back = s.back ∧ (shellSet s k x).now = s.now ∧
    (shellSet s k x).free = s.free ∧ (shellSet s k x).pending = s.pending := by
  simp [shellSet]

@[simp] theorem slicePut_frame (s : State) (area : Bool) (u : Nat) (b : List Byte) :
    (slicePut s area u b).regs = s.regs ∧ (slicePut s area u b).reg = s.reg ∧
    (slicePut s area u b).heat = s.heat ∧ (slicePut s area u b).sprint = s.sprint ∧
    (slicePut s area u b).ports = s.ports ∧ (slicePut s area u b).tile = s.tile ∧
    (slicePut s area u b).att = s.att ∧ (slicePut s area u b).tier = s.tier ∧
    (slicePut s area u b).net = s.net ∧ (slicePut s area u b).links = s.links ∧
    (slicePut s area u b).coll = s.coll ∧ (slicePut s area u b).host = s.host ∧
    (slicePut s area u b).crew = s.crew ∧ (slicePut s area u b).power = s.power ∧
    (slicePut s area u b).twin = s.twin ∧ (slicePut s area u b).ud = s.ud ∧
    (slicePut s area u b).back = s.back ∧ (slicePut s area u b).now = s.now ∧
    (slicePut s area u b).free = s.free ∧ (slicePut s area u b).pending = s.pending := by
  simp [slicePut]

@[simp] theorem tileFault_frame (s : State) (die : Nat) (code : Nat) (oar : Nat) (pc : Nat) (list : Nat) (addr : Nat) (crew :
    Nat) :
    (tileFault s die code oar pc list addr crew).heat = s.heat ∧
    (tileFault s die code oar pc list addr crew).sprint.readout = s.sprint.readout ∧
    (tileFault s die code oar pc list addr crew).ports = s.ports ∧
    (tileFault s die code oar pc list addr crew).grid = s.grid ∧
    (tileFault s die code oar pc list addr crew).tile = s.tile ∧
    (tileFault s die code oar pc list addr crew).att = s.att ∧
    (tileFault s die code oar pc list addr crew).tier = s.tier ∧
    (tileFault s die code oar pc list addr crew).net = s.net ∧
    (tileFault s die code oar pc list addr crew).links = s.links ∧
    (tileFault s die code oar pc list addr crew).coll = s.coll ∧
    (tileFault s die code oar pc list addr crew).host.mem = s.host.mem ∧
    (tileFault s die code oar pc list addr crew).crew = s.crew ∧
    (tileFault s die code oar pc list addr crew).power = s.power ∧
    (tileFault s die code oar pc list addr crew).twin = s.twin ∧
    (tileFault s die code oar pc list addr crew).ud.vcount = s.ud.vcount ∧
    (tileFault s die code oar pc list addr crew).ud.staging = s.ud.staging ∧
    (tileFault s die code oar pc list addr crew).back = s.back ∧
    (tileFault s die code oar pc list addr crew).now = s.now ∧
    (tileFault s die code oar pc list addr crew).free = s.free ∧
    (tileFault s die code oar pc list addr crew).pending = s.pending := by
  simp [tileFault]

@[simp] theorem progEnd_frame (s : State) (i : Nat) :
    (progEnd s i).regs = s.regs ∧ (progEnd s i).reg = s.reg ∧ (progEnd s i).heat = s.heat ∧
    (progEnd s i).sprint = s.sprint ∧ (progEnd s i).ports = s.ports ∧
    (progEnd s i).grid.scratch = s.grid.scratch ∧ (progEnd s i).tile = s.tile ∧
    (progEnd s i).att = s.att ∧ (progEnd s i).tier.data = s.tier.data ∧
    (progEnd s i).net = s.net ∧ (progEnd s i).links = s.links ∧ (progEnd s i).coll = s.coll ∧
    (progEnd s i).host.mem = s.host.mem ∧ (progEnd s i).crew = s.crew ∧
    (progEnd s i).power = s.power ∧ (progEnd s i).twin = s.twin ∧ (progEnd s i).ud = s.ud ∧
    (progEnd s i).back = s.back ∧ (progEnd s i).now = s.now ∧ (progEnd s i).free = s.free ∧
    (progEnd s i).pending = s.pending := by
  simp only [progEnd]
  repeat' split
  all_goals simp

@[simp] theorem shellEnd_frame (s : State) (k : Nat) (code : Nat) (detail : Nat) :
    (shellEnd s k code detail).regs = s.regs ∧ (shellEnd s k code detail).reg = s.reg ∧
    (shellEnd s k code detail).heat = s.heat ∧ (shellEnd s k code detail).sprint = s.sprint ∧
    (shellEnd s k code detail).ports = s.ports ∧
    (shellEnd s k code detail).grid.scratch = s.grid.scratch ∧
    (shellEnd s k code detail).tile = s.tile ∧ (shellEnd s k code detail).att = s.att ∧
    (shellEnd s k code detail).tier.data = s.tier.data ∧ (shellEnd s k code detail).net = s.net ∧
    (shellEnd s k code detail).links = s.links ∧ (shellEnd s k code detail).coll = s.coll ∧
    (shellEnd s k code detail).host.mem = s.host.mem ∧ (shellEnd s k code detail).crew = s.crew ∧
    (shellEnd s k code detail).power = s.power ∧ (shellEnd s k code detail).twin = s.twin ∧
    (shellEnd s k code detail).ud = s.ud ∧ (shellEnd s k code detail).back = s.back ∧
    (shellEnd s k code detail).now = s.now ∧ (shellEnd s k code detail).free = s.free ∧
    (shellEnd s k code detail).pending = s.pending := by
  simp only [shellEnd]
  repeat' split
  all_goals simp

@[simp] theorem haltShell_frame (s : State) (k : Nat) (code : Nat) (detail : Nat) :
    (haltShell s k code detail).reg = s.reg ∧ (haltShell s k code detail).heat = s.heat ∧
    (haltShell s k code detail).sprint = s.sprint ∧ (haltShell s k code detail).ports = s.ports ∧
    (haltShell s k code detail).grid.scratch = s.grid.scratch ∧
    (haltShell s k code detail).tile = s.tile ∧ (haltShell s k code detail).att = s.att ∧
    (haltShell s k code detail).tier.data = s.tier.data ∧
    (haltShell s k code detail).net = s.net ∧ (haltShell s k code detail).links = s.links ∧
    (haltShell s k code detail).coll = s.coll ∧
    (haltShell s k code detail).host.mem = s.host.mem ∧
    (haltShell s k code detail).crew = s.crew ∧ (haltShell s k code detail).power = s.power ∧
    (haltShell s k code detail).twin = s.twin ∧ (haltShell s k code detail).ud = s.ud ∧
    (haltShell s k code detail).back = s.back ∧ (haltShell s k code detail).now = s.now ∧
    (haltShell s k code detail).free = s.free ∧ (haltShell s k code detail).pending = s.pending := by
  simp [haltShell]

@[simp] theorem stopTile_frame (s : State) (k : Nat) (code : Nat) (oar : Nat) (pc : Nat) (list : Nat) (addr : Nat) :
    (stopTile s k code oar pc list addr).heat = s.heat ∧
    (stopTile s k code oar pc list addr).sprint.readout = s.sprint.readout ∧
    (stopTile s k code oar pc list addr).ports = s.ports ∧
    (stopTile s k code oar pc list addr).grid.scratch = s.grid.scratch ∧
    (stopTile s k code oar pc list addr).tile = s.tile ∧
    (stopTile s k code oar pc list addr).att = s.att ∧
    (stopTile s k code oar pc list addr).tier.data = s.tier.data ∧
    (stopTile s k code oar pc list addr).net = s.net ∧
    (stopTile s k code oar pc list addr).links = s.links ∧
    (stopTile s k code oar pc list addr).coll = s.coll ∧
    (stopTile s k code oar pc list addr).host.mem = s.host.mem ∧
    (stopTile s k code oar pc list addr).crew = s.crew ∧
    (stopTile s k code oar pc list addr).power = s.power ∧
    (stopTile s k code oar pc list addr).twin = s.twin ∧
    (stopTile s k code oar pc list addr).ud.vcount = s.ud.vcount ∧
    (stopTile s k code oar pc list addr).ud.staging = s.ud.staging ∧
    (stopTile s k code oar pc list addr).back = s.back ∧
    (stopTile s k code oar pc list addr).now = s.now ∧
    (stopTile s k code oar pc list addr).free = s.free ∧
    (stopTile s k code oar pc list addr).pending = s.pending := by
  simp [stopTile]

@[simp] theorem stopGrid_frame (s : State) (k : Nat) (code : Nat) (oar : Nat) :
    (stopGrid s k code oar).heat = s.heat ∧
    (stopGrid s k code oar).sprint.readout = s.sprint.readout ∧
    (stopGrid s k code oar).ports = s.ports ∧
    (stopGrid s k code oar).grid.scratch = s.grid.scratch ∧
    (stopGrid s k code oar).tile = s.tile ∧ (stopGrid s k code oar).att = s.att ∧
    (stopGrid s k code oar).tier.data = s.tier.data ∧ (stopGrid s k code oar).net = s.net ∧
    (stopGrid s k code oar).links = s.links ∧ (stopGrid s k code oar).coll = s.coll ∧
    (stopGrid s k code oar).host.mem = s.host.mem ∧ (stopGrid s k code oar).crew = s.crew ∧
    (stopGrid s k code oar).power = s.power ∧ (stopGrid s k code oar).twin = s.twin ∧
    (stopGrid s k code oar).ud.vcount = s.ud.vcount ∧
    (stopGrid s k code oar).ud.staging = s.ud.staging ∧ (stopGrid s k code oar).back = s.back ∧
    (stopGrid s k code oar).now = s.now ∧ (stopGrid s k code oar).free = s.free ∧
    (stopGrid s k code oar).pending = s.pending := by
  simp [stopGrid]

@[simp] theorem creditBack_frame (s : State) (q : Nat) (n : Nat) :
    (creditBack s q n).regs = s.regs ∧ (creditBack s q n).reg = s.reg ∧
    (creditBack s q n).heat = s.heat ∧ (creditBack s q n).sprint = s.sprint ∧
    (creditBack s q n).ports = s.ports ∧ (creditBack s q n).grid.scratch = s.grid.scratch ∧
    (creditBack s q n).tile = s.tile ∧ (creditBack s q n).att = s.att ∧
    (creditBack s q n).tier = s.tier ∧ (creditBack s q n).net = s.net ∧
    (creditBack s q n).links = s.links ∧ (creditBack s q n).coll = s.coll ∧
    (creditBack s q n).host = s.host ∧ (creditBack s q n).crew = s.crew ∧
    (creditBack s q n).power = s.power ∧ (creditBack s q n).twin = s.twin ∧
    (creditBack s q n).ud = s.ud ∧ (creditBack s q n).back = s.back ∧
    (creditBack s q n).now = s.now ∧ (creditBack s q n).free = s.free ∧
    (creditBack s q n).pending = s.pending := by
  simp [creditBack]

@[simp] theorem useCredits_frame (s : State) (qs : List Nat) :
    (useCredits s qs).regs = s.regs ∧ (useCredits s qs).reg = s.reg ∧
    (useCredits s qs).heat = s.heat ∧ (useCredits s qs).sprint = s.sprint ∧
    (useCredits s qs).ports = s.ports ∧ (useCredits s qs).grid.scratch = s.grid.scratch ∧
    (useCredits s qs).tile = s.tile ∧ (useCredits s qs).att = s.att ∧
    (useCredits s qs).tier = s.tier ∧ (useCredits s qs).net = s.net ∧
    (useCredits s qs).links = s.links ∧ (useCredits s qs).coll = s.coll ∧
    (useCredits s qs).host = s.host ∧ (useCredits s qs).crew = s.crew ∧
    (useCredits s qs).power = s.power ∧ (useCredits s qs).twin = s.twin ∧
    (useCredits s qs).ud = s.ud ∧ (useCredits s qs).back = s.back ∧
    (useCredits s qs).now = s.now ∧ (useCredits s qs).free = s.free ∧
    (useCredits s qs).pending = s.pending := by
  simp [useCredits]

@[simp] theorem absorb_frame (s : State) (k : Nat) :
    (absorb s k).regs = s.regs ∧ (absorb s k).reg = s.reg ∧ (absorb s k).heat = s.heat ∧
    (absorb s k).sprint = s.sprint ∧ (absorb s k).ports = s.ports ∧
    (absorb s k).grid.scratch = s.grid.scratch ∧ (absorb s k).tile = s.tile ∧
    (absorb s k).att = s.att ∧ (absorb s k).tier = s.tier ∧ (absorb s k).net = s.net ∧
    (absorb s k).links = s.links ∧ (absorb s k).coll = s.coll ∧ (absorb s k).host = s.host ∧
    (absorb s k).crew = s.crew ∧ (absorb s k).power = s.power ∧ (absorb s k).twin = s.twin ∧
    (absorb s k).ud = s.ud ∧ (absorb s k).back = s.back ∧ (absorb s k).now = s.now ∧
    (absorb s k).free = s.free ∧ (absorb s k).pending = s.pending := by
  simp only [absorb]
  refine ⟨foldl_regs ?_ _ _, foldl_reg ?_ _ _, foldl_heat ?_ _ _, foldl_sprint ?_ _ _,
    foldl_ports ?_ _ _, foldl_grid_scratch ?_ _ _, foldl_tile ?_ _ _, foldl_att ?_ _ _,
    foldl_tier ?_ _ _, foldl_net ?_ _ _, foldl_links ?_ _ _, foldl_coll ?_ _ _, foldl_host ?_ _ _,
    foldl_crew ?_ _ _, foldl_power ?_ _ _, foldl_twin ?_ _ _, foldl_ud ?_ _ _, foldl_back ?_ _ _,
    foldl_now ?_ _ _, foldl_free ?_ _ _, foldl_pending ?_ _ _⟩
  all_goals (intro s q; repeat' split)
  all_goals simp

@[simp] theorem arrive_frame (s : State) (q : Nat) (e : QEntry) :
    (arrive s q e).heat = s.heat ∧ (arrive s q e).sprint.readout = s.sprint.readout ∧
    (arrive s q e).ports = s.ports ∧ (arrive s q e).grid.scratch = s.grid.scratch ∧
    (arrive s q e).tile = s.tile ∧ (arrive s q e).att = s.att ∧
    (arrive s q e).tier.data = s.tier.data ∧ (arrive s q e).net = s.net ∧
    (arrive s q e).links = s.links ∧ (arrive s q e).coll = s.coll ∧
    (arrive s q e).host.mem = s.host.mem ∧ (arrive s q e).crew = s.crew ∧
    (arrive s q e).power = s.power ∧ (arrive s q e).twin = s.twin ∧
    (arrive s q e).ud.vcount = s.ud.vcount ∧ (arrive s q e).ud.staging = s.ud.staging ∧
    (arrive s q e).back = s.back ∧ (arrive s q e).now = s.now ∧ (arrive s q e).free = s.free ∧
    (arrive s q e).pending = s.pending := by
  simp [arrive]

@[simp] theorem sendRoute_frame (s : State) (src : Place) (crew : Nat) (r : Route) (e : QEntry) :
    (sendRoute s src crew r e).regs = s.regs ∧ (sendRoute s src crew r e).reg = s.reg ∧
    (sendRoute s src crew r e).heat = s.heat ∧ (sendRoute s src crew r e).sprint = s.sprint ∧
    (sendRoute s src crew r e).ports = s.ports ∧
    (sendRoute s src crew r e).grid.scratch = s.grid.scratch ∧
    (sendRoute s src crew r e).tile = s.tile ∧ (sendRoute s src crew r e).att = s.att ∧
    (sendRoute s src crew r e).tier = s.tier ∧ (sendRoute s src crew r e).links = s.links ∧
    (sendRoute s src crew r e).coll = s.coll ∧ (sendRoute s src crew r e).host = s.host ∧
    (sendRoute s src crew r e).crew = s.crew ∧ (sendRoute s src crew r e).power = s.power ∧
    (sendRoute s src crew r e).twin = s.twin ∧ (sendRoute s src crew r e).ud = s.ud ∧
    (sendRoute s src crew r e).back = s.back ∧ (sendRoute s src crew r e).now = s.now ∧
    (sendRoute s src crew r e).free = s.free ∧ (sendRoute s src crew r e).pending = s.pending := by
  simp only [sendRoute]
  repeat' split
  all_goals simp

@[simp] theorem oq0Send_frame (s : State) (k : Nat) :
    (oq0Send s k).regs = s.regs ∧ (oq0Send s k).reg = s.reg ∧ (oq0Send s k).heat = s.heat ∧
    (oq0Send s k).sprint = s.sprint ∧ (oq0Send s k).ports = s.ports ∧
    (oq0Send s k).grid.scratch = s.grid.scratch ∧ (oq0Send s k).tile = s.tile ∧
    (oq0Send s k).att = s.att ∧ (oq0Send s k).tier = s.tier ∧ (oq0Send s k).links = s.links ∧
    (oq0Send s k).coll = s.coll ∧ (oq0Send s k).host = s.host ∧ (oq0Send s k).crew = s.crew ∧
    (oq0Send s k).power = s.power ∧ (oq0Send s k).twin = s.twin ∧ (oq0Send s k).ud = s.ud ∧
    (oq0Send s k).back = s.back ∧ (oq0Send s k).now = s.now ∧ (oq0Send s k).free = s.free ∧
    (oq0Send s k).pending = s.pending := by
  simp only [oq0Send]
  repeat' split
  all_goals simp

@[simp] theorem pumpOar_frame (s : State) (k : Nat) :
    (pumpOar s k).regs = s.regs ∧ (pumpOar s k).reg = s.reg ∧ (pumpOar s k).heat = s.heat ∧
    (pumpOar s k).sprint = s.sprint ∧ (pumpOar s k).ports = s.ports ∧
    (pumpOar s k).grid.scratch = s.grid.scratch ∧ (pumpOar s k).tile = s.tile ∧
    (pumpOar s k).att = s.att ∧ (pumpOar s k).tier = s.tier ∧ (pumpOar s k).links = s.links ∧
    (pumpOar s k).coll = s.coll ∧ (pumpOar s k).host = s.host ∧ (pumpOar s k).crew = s.crew ∧
    (pumpOar s k).power = s.power ∧ (pumpOar s k).twin = s.twin ∧ (pumpOar s k).ud = s.ud ∧
    (pumpOar s k).back = s.back ∧ (pumpOar s k).now = s.now ∧ (pumpOar s k).free = s.free ∧
    (pumpOar s k).pending = s.pending := by
  simp only [pumpOar]
  repeat' split
  all_goals simp

@[simp] theorem seatCredits_frame (s : State) (k : Nat) (old : List (Nat × Oar)) :
    (seatCredits s k old).regs = s.regs ∧ (seatCredits s k old).reg = s.reg ∧
    (seatCredits s k old).heat = s.heat ∧ (seatCredits s k old).sprint = s.sprint ∧
    (seatCredits s k old).ports = s.ports ∧ (seatCredits s k old).grid.scratch = s.grid.scratch ∧
    (seatCredits s k old).tile = s.tile ∧ (seatCredits s k old).att = s.att ∧
    (seatCredits s k old).tier = s.tier ∧ (seatCredits s k old).net = s.net ∧
    (seatCredits s k old).links = s.links ∧ (seatCredits s k old).coll = s.coll ∧
    (seatCredits s k old).host = s.host ∧ (seatCredits s k old).crew = s.crew ∧
    (seatCredits s k old).power = s.power ∧ (seatCredits s k old).twin = s.twin ∧
    (seatCredits s k old).ud = s.ud ∧ (seatCredits s k old).back = s.back ∧
    (seatCredits s k old).now = s.now ∧ (seatCredits s k old).free = s.free ∧
    (seatCredits s k old).pending = s.pending := by
  simp [seatCredits]

@[simp] theorem enterSeat_frame (s : State) (k : Nat) (imgs : List (List Byte)) (round : Nat) :
    (enterSeat s k imgs round).regs = s.regs ∧ (enterSeat s k imgs round).reg = s.reg ∧
    (enterSeat s k imgs round).heat = s.heat ∧ (enterSeat s k imgs round).sprint = s.sprint ∧
    (enterSeat s k imgs round).ports = s.ports ∧
    (enterSeat s k imgs round).grid.scratch = s.grid.scratch ∧
    (enterSeat s k imgs round).tile = s.tile ∧ (enterSeat s k imgs round).att = s.att ∧
    (enterSeat s k imgs round).tier = s.tier ∧ (enterSeat s k imgs round).net = s.net ∧
    (enterSeat s k imgs round).links = s.links ∧ (enterSeat s k imgs round).coll = s.coll ∧
    (enterSeat s k imgs round).host = s.host ∧ (enterSeat s k imgs round).crew = s.crew ∧
    (enterSeat s k imgs round).power = s.power ∧ (enterSeat s k imgs round).twin = s.twin ∧
    (enterSeat s k imgs round).ud = s.ud ∧ (enterSeat s k imgs round).back = s.back ∧
    (enterSeat s k imgs round).now = s.now ∧ (enterSeat s k imgs round).free = s.free ∧
    (enterSeat s k imgs round).pending = s.pending := by
  simp [enterSeat]

end Sys2Proof.Machine
end

