-- ==== Sys2Proof/Laws/FrameLinkOps.lean ====
section
/-!
SUPPORT. What the operations of Machine/LinkOps.lean leave unchanged.
-/
namespace Sys2Proof.Machine
open Sys2Proof

@[simp] theorem linkCount_frame (s : State) (l : Nat) (j : Nat) (c : Nat) :
    (linkCount s l j c).reg = s.reg ∧ (linkCount s l j c).heat = s.heat ∧
    (linkCount s l j c).sprint = s.sprint ∧ (linkCount s l j c).ports = s.ports ∧
    (linkCount s l j c).grid = s.grid ∧ (linkCount s l j c).tile = s.tile ∧
    (linkCount s l j c).att = s.att ∧ (linkCount s l j c).tier = s.tier ∧
    (linkCount s l j c).net = s.net ∧ (linkCount s l j c).links = s.links ∧
    (linkCount s l j c).coll = s.coll ∧ (linkCount s l j c).host = s.host ∧
    (linkCount s l j c).crew = s.crew ∧ (linkCount s l j c).power = s.power ∧
    (linkCount s l j c).twin = s.twin ∧ (linkCount s l j c).ud = s.ud ∧
    (linkCount s l j c).back = s.back ∧ (linkCount s l j c).now = s.now ∧
    (linkCount s l j c).free = s.free ∧ (linkCount s l j c).pending = s.pending := by
  simp only [linkCount]
  repeat' split
  all_goals simp

@[simp] theorem linkSet_frame (s : State) (l : Nat) (k : Link) :
    (linkSet s l k).regs = s.regs ∧ (linkSet s l k).reg = s.reg ∧ (linkSet s l k).heat = s.heat ∧
    (linkSet s l k).sprint = s.sprint ∧ (linkSet s l k).ports = s.ports ∧
    (linkSet s l k).grid = s.grid ∧ (linkSet s l k).tile = s.tile ∧ (linkSet s l k).att = s.att ∧
    (linkSet s l k).tier = s.tier ∧ (linkSet s l k).net = s.net ∧ (linkSet s l k).coll = s.coll ∧
    (linkSet s l k).host = s.host ∧ (linkSet s l k).crew = s.crew ∧
    (linkSet s l k).power = s.power ∧ (linkSet s l k).twin = s.twin ∧ (linkSet s l k).ud = s.ud ∧
    (linkSet s l k).back = s.back ∧ (linkSet s l k).now = s.now ∧ (linkSet s l k).free = s.free ∧
    (linkSet s l k).pending = s.pending := by
  simp [linkSet]

@[simp] theorem txPut_frame (s : State) (l : Nat) (p : HPkt) (dl : Bool) :
    (txPut s l p dl).regs = s.regs ∧ (txPut s l p dl).reg = s.reg ∧
    (txPut s l p dl).heat = s.heat ∧ (txPut s l p dl).sprint = s.sprint ∧
    (txPut s l p dl).ports = s.ports ∧ (txPut s l p dl).grid = s.grid ∧
    (txPut s l p dl).tile = s.tile ∧ (txPut s l p dl).att = s.att ∧
    (txPut s l p dl).tier = s.tier ∧ (txPut s l p dl).net = s.net ∧
    (txPut s l p dl).coll = s.coll ∧ (txPut s l p dl).host = s.host ∧
    (txPut s l p dl).crew = s.crew ∧ (txPut s l p dl).power = s.power ∧
    (txPut s l p dl).twin = s.twin ∧ (txPut s l p dl).ud = s.ud ∧ (txPut s l p dl).back = s.back ∧
    (txPut s l p dl).now = s.now ∧ (txPut s l p dl).free = s.free ∧
    (txPut s l p dl).pending = s.pending := by
  simp [txPut]

@[simp] theorem edgeIn_frame (s : State) (p : HPkt) :
    (edgeIn s p).regs = s.regs ∧ (edgeIn s p).reg = s.reg ∧ (edgeIn s p).heat = s.heat ∧
    (edgeIn s p).sprint = s.sprint ∧ (edgeIn s p).ports = s.ports ∧ (edgeIn s p).grid = s.grid ∧
    (edgeIn s p).tile = s.tile ∧ (edgeIn s p).att = s.att ∧ (edgeIn s p).tier = s.tier ∧
    (edgeIn s p).links = s.links ∧ (edgeIn s p).coll = s.coll ∧ (edgeIn s p).host = s.host ∧
    (edgeIn s p).crew = s.crew ∧ (edgeIn s p).power = s.power ∧ (edgeIn s p).twin = s.twin ∧
    (edgeIn s p).ud = s.ud ∧ (edgeIn s p).back = s.back ∧ (edgeIn s p).now = s.now ∧
    (edgeIn s p).free = s.free ∧ (edgeIn s p).pending = s.pending := by
  simp only [edgeIn]
  repeat' split
  all_goals simp

@[simp] theorem forward_frame (s : State) (p : HPkt) (came : Option (Nat × Bool)) :
    (forward s p came).reg = s.reg ∧ (forward s p came).heat = s.heat ∧
    (forward s p came).sprint = s.sprint ∧ (forward s p came).ports = s.ports ∧
    (forward s p came).grid = s.grid ∧ (forward s p came).tile = s.tile ∧
    (forward s p came).att = s.att ∧ (forward s p came).tier = s.tier ∧
    (forward s p came).coll = s.coll ∧ (forward s p came).host = s.host ∧
    (forward s p came).crew = s.crew ∧ (forward s p came).power = s.power ∧
    (forward s p came).twin = s.twin ∧ (forward s p came).ud = s.ud ∧
    (forward s p came).back = s.back ∧ (forward s p came).now = s.now ∧
    (forward s p came).free = s.free ∧ (forward s p came).pending = s.pending := by
  simp only [forward]
  repeat' split
  all_goals simp

@[simp] theorem sendH_frame (s : State) (p : HPkt) :
    (sendH s p).reg = s.reg ∧ (sendH s p).heat = s.heat ∧ (sendH s p).sprint = s.sprint ∧
    (sendH s p).ports = s.ports ∧ (sendH s p).grid = s.grid ∧ (sendH s p).tile = s.tile ∧
    (sendH s p).att = s.att ∧ (sendH s p).tier = s.tier ∧ (sendH s p).coll = s.coll ∧
    (sendH s p).host = s.host ∧ (sendH s p).crew = s.crew ∧ (sendH s p).power = s.power ∧
    (sendH s p).twin = s.twin ∧ (sendH s p).ud = s.ud ∧ (sendH s p).back = s.back ∧
    (sendH s p).now = s.now ∧ (sendH s p).free = s.free ∧ (sendH s p).pending = s.pending := by
  simp [sendH]

@[simp] theorem edgeOut_frame (s : State) (p : Pkt) :
    (edgeOut s p).reg = s.reg ∧ (edgeOut s p).heat = s.heat ∧ (edgeOut s p).sprint = s.sprint ∧
    (edgeOut s p).ports = s.ports ∧ (edgeOut s p).grid = s.grid ∧ (edgeOut s p).tile = s.tile ∧
    (edgeOut s p).att = s.att ∧ (edgeOut s p).tier = s.tier ∧ (edgeOut s p).coll = s.coll ∧
    (edgeOut s p).host = s.host ∧ (edgeOut s p).crew = s.crew ∧ (edgeOut s p).power = s.power ∧
    (edgeOut s p).twin = s.twin ∧ (edgeOut s p).ud = s.ud ∧ (edgeOut s p).back = s.back ∧
    (edgeOut s p).now = s.now ∧ (edgeOut s p).free = s.free ∧ (edgeOut s p).pending = s.pending := by
  simp [edgeOut]

@[simp] theorem epSet_frame (s : State) (port : Nat) (e : EPort) :
    (epSet s port e).regs = s.regs ∧ (epSet s port e).reg = s.reg ∧
    (epSet s port e).heat = s.heat ∧ (epSet s port e).sprint = s.sprint ∧
    (epSet s port e).ports.live = s.ports.live ∧ (epSet s port e).ports.shadow = s.ports.shadow ∧
    (epSet s port e).grid = s.grid ∧ (epSet s port e).tile = s.tile ∧
    (epSet s port e).att = s.att ∧ (epSet s port e).tier = s.tier ∧ (epSet s port e).net = s.net ∧
    (epSet s port e).links = s.links ∧ (epSet s port e).coll = s.coll ∧
    (epSet s port e).host = s.host ∧ (epSet s port e).crew = s.crew ∧
    (epSet s port e).power = s.power ∧ (epSet s port e).twin = s.twin ∧
    (epSet s port e).ud = s.ud ∧ (epSet s port e).back = s.back ∧ (epSet s port e).now = s.now ∧
    (epSet s port e).free = s.free ∧ (epSet s port e).pending = s.pending := by
  simp [epSet]

@[simp] theorem assignHeld_frame (s : State) (port : Nat) (pick : Time → Nat → Nat × Nat) :
    (assignHeld s port pick).regs = s.regs ∧ (assignHeld s port pick).reg = s.reg ∧
    (assignHeld s port pick).heat = s.heat ∧ (assignHeld s port pick).sprint = s.sprint ∧
    (assignHeld s port pick).ports.live = s.ports.live ∧
    (assignHeld s port pick).ports.shadow = s.ports.shadow ∧
    (assignHeld s port pick).grid = s.grid ∧ (assignHeld s port pick).tile = s.tile ∧
    (assignHeld s port pick).att = s.att ∧ (assignHeld s port pick).tier = s.tier ∧
    (assignHeld s port pick).net = s.net ∧ (assignHeld s port pick).links = s.links ∧
    (assignHeld s port pick).coll = s.coll ∧ (assignHeld s port pick).host = s.host ∧
    (assignHeld s port pick).crew = s.crew ∧ (assignHeld s port pick).power = s.power ∧
    (assignHeld s port pick).twin = s.twin ∧ (assignHeld s port pick).ud = s.ud ∧
    (assignHeld s port pick).back = s.back ∧ (assignHeld s port pick).now = s.now ∧
    (assignHeld s port pick).free = s.free ∧ (assignHeld s port pick).pending = s.pending := by
  simp only [assignHeld]
  repeat' split
  all_goals simp

@[simp] theorem assignByStamp_frame (s : State) (port : Nat) (b : Time) :
    (assignByStamp s port b).regs = s.regs ∧ (assignByStamp s port b).reg = s.reg ∧
    (assignByStamp s port b).heat = s.heat ∧ (assignByStamp s port b).sprint = s.sprint ∧
    (assignByStamp s port b).ports.live = s.ports.live ∧
    (assignByStamp s port b).ports.shadow = s.ports.shadow ∧
    (assignByStamp s port b).grid = s.grid ∧ (assignByStamp s port b).tile = s.tile ∧
    (assignByStamp s port b).att = s.att ∧ (assignByStamp s port b).tier = s.tier ∧
    (assignByStamp s port b).net = s.net ∧ (assignByStamp s port b).links = s.links ∧
    (assignByStamp s port b).coll = s.coll ∧ (assignByStamp s port b).host = s.host ∧
    (assignByStamp s port b).crew = s.crew ∧ (assignByStamp s port b).power = s.power ∧
    (assignByStamp s port b).twin = s.twin ∧ (assignByStamp s port b).ud = s.ud ∧
    (assignByStamp s port b).back = s.back ∧ (assignByStamp s port b).now = s.now ∧
    (assignByStamp s port b).free = s.free ∧ (assignByStamp s port b).pending = s.pending := by
  simp [assignByStamp]

@[simp] theorem assignAll_frame (s : State) (b : Time) :
    (assignAll s b).regs = s.regs ∧ (assignAll s b).reg = s.reg ∧ (assignAll s b).heat = s.heat ∧
    (assignAll s b).sprint = s.sprint ∧ (assignAll s b).ports.live = s.ports.live ∧
    (assignAll s b).ports.shadow = s.ports.shadow ∧ (assignAll s b).grid = s.grid ∧
    (assignAll s b).tile = s.tile ∧ (assignAll s b).att = s.att ∧ (assignAll s b).tier = s.tier ∧
    (assignAll s b).net = s.net ∧ (assignAll s b).links = s.links ∧
    (assignAll s b).coll = s.coll ∧ (assignAll s b).host = s.host ∧
    (assignAll s b).crew = s.crew ∧ (assignAll s b).power = s.power ∧
    (assignAll s b).twin = s.twin ∧ (assignAll s b).ud = s.ud ∧ (assignAll s b).back = s.back ∧
    (assignAll s b).now = s.now ∧ (assignAll s b).free = s.free ∧
    (assignAll s b).pending = s.pending := by
  simp [assignAll]

@[simp] theorem portLost_frame (s : State) :
    (portLost s).reg = s.reg ∧ (portLost s).heat = s.heat ∧ (portLost s).sprint = s.sprint ∧
    (portLost s).ports.live = s.ports.live ∧ (portLost s).ports.shadow = s.ports.shadow ∧
    (portLost s).grid = s.grid ∧ (portLost s).tile = s.tile ∧ (portLost s).att = s.att ∧
    (portLost s).tier = s.tier ∧ (portLost s).net = s.net ∧ (portLost s).links = s.links ∧
    (portLost s).coll = s.coll ∧ (portLost s).host = s.host ∧ (portLost s).crew = s.crew ∧
    (portLost s).power = s.power ∧ (portLost s).ud = s.ud ∧ (portLost s).back = s.back ∧
    (portLost s).now = s.now ∧ (portLost s).free = s.free ∧ (portLost s).pending = s.pending := by
  simp [portLost]

@[simp] theorem peersGone_frame (s : State) :
    (peersGone s).regs = s.regs ∧ (peersGone s).reg = s.reg ∧ (peersGone s).heat = s.heat ∧
    (peersGone s).sprint = s.sprint ∧ (peersGone s).ports = s.ports ∧
    (peersGone s).grid = s.grid ∧ (peersGone s).tile = s.tile ∧ (peersGone s).att = s.att ∧
    (peersGone s).tier = s.tier ∧ (peersGone s).net = s.net ∧ (peersGone s).links = s.links ∧
    (peersGone s).coll = s.coll ∧ (peersGone s).host = s.host ∧ (peersGone s).crew = s.crew ∧
    (peersGone s).power = s.power ∧ (peersGone s).ud = s.ud ∧ (peersGone s).back = s.back ∧
    (peersGone s).now = s.now ∧ (peersGone s).free = s.free ∧ (peersGone s).pending = s.pending := by
  simp [peersGone]

@[simp] theorem linkTo_frame (s : State) (l : Nat) (state : Nat) (refuse : Nat) :
    (linkTo s l state refuse).heat = s.heat ∧
    (linkTo s l state refuse).sprint.readout = s.sprint.readout ∧
    (linkTo s l state refuse).ports.live = s.ports.live ∧
    (linkTo s l state refuse).ports.shadow = s.ports.shadow ∧
    (linkTo s l state refuse).grid = s.grid ∧ (linkTo s l state refuse).tile = s.tile ∧
    (linkTo s l state refuse).att = s.att ∧ (linkTo s l state refuse).tier = s.tier ∧
    (linkTo s l state refuse).net = s.net ∧ (linkTo s l state refuse).coll = s.coll ∧
    (linkTo s l state refuse).host.mem = s.host.mem ∧ (linkTo s l state refuse).crew = s.crew ∧
    (linkTo s l state refuse).power = s.power ∧
    (linkTo s l state refuse).ud.vcount = s.ud.vcount ∧
    (linkTo s l state refuse).ud.staging = s.ud.staging ∧
    (linkTo s l state refuse).back = s.back ∧ (linkTo s l state refuse).now = s.now ∧
    (linkTo s l state refuse).free = s.free ∧ (linkTo s l state refuse).pending = s.pending := by
  simp [linkTo]

@[simp] theorem trainStart_frame (s : State) (l : Nat) :
    (trainStart s l).heat = s.heat ∧ (trainStart s l).sprint.readout = s.sprint.readout ∧
    (trainStart s l).ports.live = s.ports.live ∧ (trainStart s l).ports.shadow = s.ports.shadow ∧
    (trainStart s l).grid = s.grid ∧ (trainStart s l).tile = s.tile ∧
    (trainStart s l).att = s.att ∧ (trainStart s l).tier = s.tier ∧ (trainStart s l).net = s.net ∧
    (trainStart s l).coll = s.coll ∧ (trainStart s l).host.mem = s.host.mem ∧
    (trainStart s l).crew = s.crew ∧ (trainStart s l).power = s.power ∧
    (trainStart s l).ud.vcount = s.ud.vcount ∧ (trainStart s l).ud.staging = s.ud.staging ∧
    (trainStart s l).back = s.back ∧ (trainStart s l).now = s.now ∧
    (trainStart s l).free = s.free ∧ (trainStart s l).pending = s.pending := by
  simp [trainStart]

@[simp] theorem linkEnable_frame (s : State) (l : Nat) (en : Bool) :
    (linkEnable s l en).heat = s.heat ∧ (linkEnable s l en).sprint.readout = s.sprint.readout ∧
    (linkEnable s l en).ports.live = s.ports.live ∧
    (linkEnable s l en).ports.shadow = s.ports.shadow ∧ (linkEnable s l en).grid = s.grid ∧
    (linkEnable s l en).tile = s.tile ∧ (linkEnable s l en).att = s.att ∧
    (linkEnable s l en).tier = s.tier ∧ (linkEnable s l en).net = s.net ∧
    (linkEnable s l en).coll = s.coll ∧ (linkEnable s l en).host.mem = s.host.mem ∧
    (linkEnable s l en).crew = s.crew ∧ (linkEnable s l en).power = s.power ∧
    (linkEnable s l en).ud.vcount = s.ud.vcount ∧ (linkEnable s l en).ud.staging = s.ud.staging ∧
    (linkEnable s l en).back = s.back ∧ (linkEnable s l en).now = s.now ∧
    (linkEnable s l en).free = s.free ∧ (linkEnable s l en).pending = s.pending := by
  simp [linkEnable]

@[simp] theorem linkRetrain_frame (s : State) (l : Nat) :
    (linkRetrain s l).heat = s.heat ∧ (linkRetrain s l).sprint.readout = s.sprint.readout ∧
    (linkRetrain s l).ports.live = s.ports.live ∧
    (linkRetrain s l).ports.shadow = s.ports.shadow ∧ (linkRetrain s l).grid = s.grid ∧
    (linkRetrain s l).tile = s.tile ∧ (linkRetrain s l).att = s.att ∧
    (linkRetrain s l).tier = s.tier ∧ (linkRetrain s l).net = s.net ∧
    (linkRetrain s l).coll = s.coll ∧ (linkRetrain s l).host.mem = s.host.mem ∧
    (linkRetrain s l).crew = s.crew ∧ (linkRetrain s l).power = s.power ∧
    (linkRetrain s l).ud.vcount = s.ud.vcount ∧ (linkRetrain s l).ud.staging = s.ud.staging ∧
    (linkRetrain s l).back = s.back ∧ (linkRetrain s l).now = s.now ∧
    (linkRetrain s l).free = s.free ∧ (linkRetrain s l).pending = s.pending := by
  simp [linkRetrain]

@[simp] theorem joinCheck_frame (s : State) :
    (joinCheck s).regs = s.regs ∧ (joinCheck s).reg = s.reg ∧ (joinCheck s).heat = s.heat ∧
    (joinCheck s).sprint = s.sprint ∧ (joinCheck s).ports = s.ports ∧
    (joinCheck s).grid = s.grid ∧ (joinCheck s).tile = s.tile ∧ (joinCheck s).att = s.att ∧
    (joinCheck s).tier = s.tier ∧ (joinCheck s).net = s.net ∧ (joinCheck s).links = s.links ∧
    (joinCheck s).coll = s.coll ∧ (joinCheck s).host = s.host ∧ (joinCheck s).crew = s.crew ∧
    (joinCheck s).twin = s.twin ∧ (joinCheck s).ud = s.ud ∧ (joinCheck s).back = s.back ∧
    (joinCheck s).now = s.now ∧ (joinCheck s).free = s.free ∧ (joinCheck s).pending = s.pending := by
  simp [joinCheck]

@[simp] theorem enterStage8_frame (s : State) :
    (enterStage8 s).regs = s.regs ∧ (enterStage8 s).reg = s.reg ∧ (enterStage8 s).heat = s.heat ∧
    (enterStage8 s).sprint = s.sprint ∧ (enterStage8 s).ports = s.ports ∧
    (enterStage8 s).grid = s.grid ∧ (enterStage8 s).tile = s.tile ∧ (enterStage8 s).att = s.att ∧
    (enterStage8 s).tier = s.tier ∧ (enterStage8 s).net = s.net ∧
    (enterStage8 s).links = s.links ∧ (enterStage8 s).coll = s.coll ∧
    (enterStage8 s).host = s.host ∧ (enterStage8 s).crew = s.crew ∧
    (enterStage8 s).twin = s.twin ∧ (enterStage8 s).ud = s.ud ∧ (enterStage8 s).back = s.back ∧
    (enterStage8 s).now = s.now ∧ (enterStage8 s).free = s.free ∧
    (enterStage8 s).pending = s.pending := by
  simp [enterStage8]

end Sys2Proof.Machine
end

