-- ==== Sys2Proof/Laws/FrameGrid.lean ====
section
/-!
SUPPORT. What the operations of Machine/Grid.lean leave unchanged.
-/
namespace Sys2Proof.Machine
open Sys2Proof

@[simp] theorem countStall_frame (s : State) (k : Nat) (x : Nat × List Nat) :
    (countStall s k x).regs = s.regs ∧ (countStall s k x).reg = s.reg ∧
    (countStall s k x).heat = s.heat ∧ (countStall s k x).sprint = s.sprint ∧
    (countStall s k x).ports = s.ports ∧ (countStall s k x).grid.scratch = s.grid.scratch ∧
    (countStall s k x).tile = s.tile ∧ (countStall s k x).att = s.att ∧
    (countStall s k x).tier = s.tier ∧ (countStall s k x).net = s.net ∧
    (countStall s k x).links = s.links ∧ (countStall s k x).coll = s.coll ∧
    (countStall s k x).host = s.host ∧ (countStall s k x).crew = s.crew ∧
    (countStall s k x).power = s.power ∧ (countStall s k x).twin = s.twin ∧
    (countStall s k x).ud = s.ud ∧ (countStall s k x).back = s.back ∧
    (countStall s k x).now = s.now ∧ (countStall s k x).free = s.free ∧
    (countStall s k x).pending = s.pending := by
  simp only [countStall]
  repeat' split
  all_goals simp

@[simp] theorem takeIq_frame (s : State) (k : Nat) (q : Nat) (n : Nat) :
    (takeIq s k q n).regs = s.regs ∧ (takeIq s k q n).reg = s.reg ∧
    (takeIq s k q n).heat = s.heat ∧ (takeIq s k q n).sprint = s.sprint ∧
    (takeIq s k q n).ports = s.ports ∧ (takeIq s k q n).grid.scratch = s.grid.scratch ∧
    (takeIq s k q n).tile = s.tile ∧ (takeIq s k q n).att = s.att ∧
    (takeIq s k q n).tier = s.tier ∧ (takeIq s k q n).net = s.net ∧
    (takeIq s k q n).links = s.links ∧ (takeIq s k q n).coll = s.coll ∧
    (takeIq s k q n).host = s.host ∧ (takeIq s k q n).crew = s.crew ∧
    (takeIq s k q n).power = s.power ∧ (takeIq s k q n).twin = s.twin ∧
    (takeIq s k q n).ud = s.ud ∧ (takeIq s k q n).back = s.back ∧ (takeIq s k q n).now = s.now ∧
    (takeIq s k q n).free = s.free ∧ (takeIq s k q n).pending = s.pending := by
  simp [takeIq]

@[simp] theorem fireSeat_frame (s : State) (k : Nat) (o : Oar) :
    (fireSeat s k o).regs = s.regs ∧ (fireSeat s k o).reg = s.reg ∧
    (fireSeat s k o).heat = s.heat ∧ (fireSeat s k o).sprint = s.sprint ∧
    (fireSeat s k o).ports = s.ports ∧ (fireSeat s k o).grid.scratch = s.grid.scratch ∧
    (fireSeat s k o).tile = s.tile ∧ (fireSeat s k o).att = s.att ∧
    (fireSeat s k o).tier = s.tier ∧ (fireSeat s k o).links = s.links ∧
    (fireSeat s k o).coll = s.coll ∧ (fireSeat s k o).host = s.host ∧
    (fireSeat s k o).crew = s.crew ∧ (fireSeat s k o).power = s.power ∧
    (fireSeat s k o).twin = s.twin ∧ (fireSeat s k o).ud = s.ud ∧ (fireSeat s k o).back = s.back ∧
    (fireSeat s k o).now = s.now ∧ (fireSeat s k o).free = s.free ∧
    (fireSeat s k o).pending = s.pending := by
  simp [fireSeat]

@[simp] theorem fire_frame (s : State) (k : Nat) (o : Oar) (w : Nat) (addrs : List Int) :
    (fire s k o w addrs).regs = s.regs ∧ (fire s k o w addrs).reg = s.reg ∧
    (fire s k o w addrs).heat = s.heat ∧ (fire s k o w addrs).sprint = s.sprint ∧
    (fire s k o w addrs).ports = s.ports ∧ (fire s k o w addrs).grid.scratch = s.grid.scratch ∧
    (fire s k o w addrs).tile = s.tile ∧ (fire s k o w addrs).att = s.att ∧
    (fire s k o w addrs).tier.data = s.tier.data ∧ (fire s k o w addrs).links = s.links ∧
    (fire s k o w addrs).coll = s.coll ∧ (fire s k o w addrs).host.mem = s.host.mem ∧
    (fire s k o w addrs).crew = s.crew ∧ (fire s k o w addrs).power = s.power ∧
    (fire s k o w addrs).twin = s.twin ∧ (fire s k o w addrs).ud = s.ud ∧
    (fire s k o w addrs).back = s.back ∧ (fire s k o w addrs).now = s.now ∧
    (fire s k o w addrs).free = s.free ∧ (fire s k o w addrs).pending = s.pending := by
  simp only [fire]
  repeat' split
  all_goals simp

@[simp] theorem wrScratch_frame (s : State) (k : Nat) (a : Int) (b : List Byte) :
    (wrScratch s k a b).regs = s.regs ∧ (wrScratch s k a b).reg = s.reg ∧
    (wrScratch s k a b).heat = s.heat ∧ (wrScratch s k a b).sprint = s.sprint ∧
    (wrScratch s k a b).ports = s.ports ∧ (wrScratch s k a b).tile = s.tile ∧
    (wrScratch s k a b).att = s.att ∧ (wrScratch s k a b).tier = s.tier ∧
    (wrScratch s k a b).net = s.net ∧ (wrScratch s k a b).links = s.links ∧
    (wrScratch s k a b).coll = s.coll ∧ (wrScratch s k a b).host = s.host ∧
    (wrScratch s k a b).crew = s.crew ∧ (wrScratch s k a b).power = s.power ∧
    (wrScratch s k a b).twin = s.twin ∧ (wrScratch s k a b).ud = s.ud ∧
    (wrScratch s k a b).back = s.back ∧ (wrScratch s k a b).now = s.now ∧
    (wrScratch s k a b).free = s.free ∧ (wrScratch s k a b).pending = s.pending := by
  simp [wrScratch]

@[simp] theorem outEntries_frame (s : State) (w : Nat) (b : List Byte) :
    (outEntries s w b).2.regs = s.regs ∧ (outEntries s w b).2.reg = s.reg ∧
    (outEntries s w b).2.heat = s.heat ∧ (outEntries s w b).2.sprint = s.sprint ∧
    (outEntries s w b).2.ports = s.ports ∧ (outEntries s w b).2.grid = s.grid ∧
    (outEntries s w b).2.tile = s.tile ∧ (outEntries s w b).2.att = s.att ∧
    (outEntries s w b).2.tier = s.tier ∧ (outEntries s w b).2.net = s.net ∧
    (outEntries s w b).2.links = s.links ∧ (outEntries s w b).2.coll = s.coll ∧
    (outEntries s w b).2.host = s.host ∧ (outEntries s w b).2.crew = s.crew ∧
    (outEntries s w b).2.power = s.power ∧ (outEntries s w b).2.twin = s.twin ∧
    (outEntries s w b).2.ud = s.ud ∧ (outEntries s w b).2.back = s.back ∧
    (outEntries s w b).2.now = s.now ∧ (outEntries s w b).2.pending = s.pending := by
  simp [outEntries]

@[simp] theorem finishOp_frame (s : State) (k : Nat) (op : UnitOp) :
    (finishOp s k op).regs = s.regs ∧ (finishOp s k op).reg = s.reg ∧
    (finishOp s k op).heat = s.heat ∧ (finishOp s k op).sprint = s.sprint ∧
    (finishOp s k op).ports = s.ports ∧ (finishOp s k op).tile = s.tile ∧
    (finishOp s k op).att = s.att ∧ (finishOp s k op).tier = s.tier ∧
    (finishOp s k op).links = s.links ∧ (finishOp s k op).coll = s.coll ∧
    (finishOp s k op).host = s.host ∧ (finishOp s k op).crew = s.crew ∧
    (finishOp s k op).power = s.power ∧ (finishOp s k op).twin = s.twin ∧
    (finishOp s k op).ud = s.ud ∧ (finishOp s k op).back = s.back ∧
    (finishOp s k op).now = s.now ∧ (finishOp s k op).pending = s.pending := by
  simp only [finishOp]
  repeat' split
  all_goals simp

@[simp] theorem steerMod_frame (s : State) (sh : Nat) (i : Nat) (f : SteerSt → SteerSt) :
    (steerMod s sh i f).regs = s.regs ∧ (steerMod s sh i f).reg = s.reg ∧
    (steerMod s sh i f).heat = s.heat ∧ (steerMod s sh i f).sprint = s.sprint ∧
    (steerMod s sh i f).ports = s.ports ∧ (steerMod s sh i f).grid.scratch = s.grid.scratch ∧
    (steerMod s sh i f).tile = s.tile ∧ (steerMod s sh i f).att = s.att ∧
    (steerMod s sh i f).tier = s.tier ∧ (steerMod s sh i f).net = s.net ∧
    (steerMod s sh i f).links = s.links ∧ (steerMod s sh i f).coll = s.coll ∧
    (steerMod s sh i f).host = s.host ∧ (steerMod s sh i f).crew = s.crew ∧
    (steerMod s sh i f).power = s.power ∧ (steerMod s sh i f).twin = s.twin ∧
    (steerMod s sh i f).ud = s.ud ∧ (steerMod s sh i f).back = s.back ∧
    (steerMod s sh i f).now = s.now ∧ (steerMod s sh i f).free = s.free ∧
    (steerMod s sh i f).pending = s.pending := by
  simp [steerMod]

@[simp] theorem steerPop_frame (s : State) (sh : Nat) (i : Nat) (src : Nat) :
    (steerPop s sh i src).regs = s.regs ∧ (steerPop s sh i src).reg = s.reg ∧
    (steerPop s sh i src).heat = s.heat ∧ (steerPop s sh i src).sprint = s.sprint ∧
    (steerPop s sh i src).ports = s.ports ∧ (steerPop s sh i src).grid.scratch = s.grid.scratch ∧
    (steerPop s sh i src).tile = s.tile ∧ (steerPop s sh i src).att = s.att ∧
    (steerPop s sh i src).tier = s.tier ∧ (steerPop s sh i src).net = s.net ∧
    (steerPop s sh i src).links = s.links ∧ (steerPop s sh i src).coll = s.coll ∧
    (steerPop s sh i src).host = s.host ∧ (steerPop s sh i src).crew = s.crew ∧
    (steerPop s sh i src).power = s.power ∧ (steerPop s sh i src).twin = s.twin ∧
    (steerPop s sh i src).ud = s.ud ∧ (steerPop s sh i src).back = s.back ∧
    (steerPop s sh i src).now = s.now ∧ (steerPop s sh i src).free = s.free ∧
    (steerPop s sh i src).pending = s.pending := by
  simp [steerPop]

@[simp] theorem dstPut_frame (s : State) (sh : Nat) (e : QEntry) (d : Nat) :
    (dstPut s sh e d).heat = s.heat ∧ (dstPut s sh e d).sprint.readout = s.sprint.readout ∧
    (dstPut s sh e d).ports = s.ports ∧ (dstPut s sh e d).grid.scratch = s.grid.scratch ∧
    (dstPut s sh e d).tile = s.tile ∧ (dstPut s sh e d).att = s.att ∧
    (dstPut s sh e d).tier.data = s.tier.data ∧ (dstPut s sh e d).net = s.net ∧
    (dstPut s sh e d).links = s.links ∧ (dstPut s sh e d).coll = s.coll ∧
    (dstPut s sh e d).host.mem = s.host.mem ∧ (dstPut s sh e d).crew = s.crew ∧
    (dstPut s sh e d).power = s.power ∧ (dstPut s sh e d).twin = s.twin ∧
    (dstPut s sh e d).ud.vcount = s.ud.vcount ∧ (dstPut s sh e d).ud.staging = s.ud.staging ∧
    (dstPut s sh e d).back = s.back ∧ (dstPut s sh e d).now = s.now ∧
    (dstPut s sh e d).free = s.free ∧ (dstPut s sh e d).pending = s.pending := by
  simp [dstPut]

@[simp] theorem steerTo_frame (s : State) (sh : Nat) (i : Nat) (src : Nat) (e : QEntry) (ds : List Nat) :
    (steerTo s sh i src e ds).heat = s.heat ∧
    (steerTo s sh i src e ds).sprint.readout = s.sprint.readout ∧
    (steerTo s sh i src e ds).ports = s.ports ∧
    (steerTo s sh i src e ds).grid.scratch = s.grid.scratch ∧
    (steerTo s sh i src e ds).tile = s.tile ∧ (steerTo s sh i src e ds).att = s.att ∧
    (steerTo s sh i src e ds).tier.data = s.tier.data ∧ (steerTo s sh i src e ds).net = s.net ∧
    (steerTo s sh i src e ds).links = s.links ∧ (steerTo s sh i src e ds).coll = s.coll ∧
    (steerTo s sh i src e ds).host.mem = s.host.mem ∧ (steerTo s sh i src e ds).crew = s.crew ∧
    (steerTo s sh i src e ds).power = s.power ∧ (steerTo s sh i src e ds).twin = s.twin ∧
    (steerTo s sh i src e ds).ud.vcount = s.ud.vcount ∧
    (steerTo s sh i src e ds).ud.staging = s.ud.staging ∧
    (steerTo s sh i src e ds).back = s.back ∧ (steerTo s sh i src e ds).now = s.now ∧
    (steerTo s sh i src e ds).free = s.free ∧ (steerTo s sh i src e ds).pending = s.pending := by
  simp [steerTo]

@[simp] theorem steerCount_frame (s : State) (sh : Nat) (i : Nat) (e : Nat) (b : Bool) :
    (steerCount s sh i e b).regs = s.regs ∧ (steerCount s sh i e b).reg = s.reg ∧
    (steerCount s sh i e b).heat = s.heat ∧ (steerCount s sh i e b).sprint = s.sprint ∧
    (steerCount s sh i e b).ports = s.ports ∧
    (steerCount s sh i e b).grid.scratch = s.grid.scratch ∧
    (steerCount s sh i e b).tile = s.tile ∧ (steerCount s sh i e b).att = s.att ∧
    (steerCount s sh i e b).tier = s.tier ∧ (steerCount s sh i e b).net = s.net ∧
    (steerCount s sh i e b).links = s.links ∧ (steerCount s sh i e b).coll = s.coll ∧
    (steerCount s sh i e b).host = s.host ∧ (steerCount s sh i e b).crew = s.crew ∧
    (steerCount s sh i e b).power = s.power ∧ (steerCount s sh i e b).twin = s.twin ∧
    (steerCount s sh i e b).ud = s.ud ∧ (steerCount s sh i e b).back = s.back ∧
    (steerCount s sh i e b).now = s.now ∧ (steerCount s sh i e b).free = s.free ∧
    (steerCount s sh i e b).pending = s.pending := by
  simp [steerCount]

@[simp] theorem mergeEnd_frame (s : State) (sh : Nat) (i : Nat) (e : Nat) (first : Bool) :
    (mergeEnd s sh i e first).heat = s.heat ∧
    (mergeEnd s sh i e first).sprint.readout = s.sprint.readout ∧
    (mergeEnd s sh i e first).ports = s.ports ∧
    (mergeEnd s sh i e first).grid.scratch = s.grid.scratch ∧
    (mergeEnd s sh i e first).tile = s.tile ∧ (mergeEnd s sh i e first).att = s.att ∧
    (mergeEnd s sh i e first).tier.data = s.tier.data ∧ (mergeEnd s sh i e first).net = s.net ∧
    (mergeEnd s sh i e first).links = s.links ∧ (mergeEnd s sh i e first).coll = s.coll ∧
    (mergeEnd s sh i e first).host.mem = s.host.mem ∧ (mergeEnd s sh i e first).crew = s.crew ∧
    (mergeEnd s sh i e first).power = s.power ∧ (mergeEnd s sh i e first).twin = s.twin ∧
    (mergeEnd s sh i e first).ud.vcount = s.ud.vcount ∧
    (mergeEnd s sh i e first).ud.staging = s.ud.staging ∧
    (mergeEnd s sh i e first).back = s.back ∧ (mergeEnd s sh i e first).now = s.now ∧
    (mergeEnd s sh i e first).free = s.free ∧ (mergeEnd s sh i e first).pending = s.pending := by
  simp [mergeEnd]

@[simp] theorem steer_frame (s : State) (sh : Nat) (i : Nat) :
    (steer s sh i).heat = s.heat ∧ (steer s sh i).sprint.readout = s.sprint.readout ∧
    (steer s sh i).ports = s.ports ∧ (steer s sh i).grid.scratch = s.grid.scratch ∧
    (steer s sh i).tile = s.tile ∧ (steer s sh i).att = s.att ∧
    (steer s sh i).tier.data = s.tier.data ∧ (steer s sh i).net = s.net ∧
    (steer s sh i).links = s.links ∧ (steer s sh i).coll = s.coll ∧
    (steer s sh i).host.mem = s.host.mem ∧ (steer s sh i).crew = s.crew ∧
    (steer s sh i).power = s.power ∧ (steer s sh i).twin = s.twin ∧
    (steer s sh i).ud.vcount = s.ud.vcount ∧ (steer s sh i).ud.staging = s.ud.staging ∧
    (steer s sh i).back = s.back ∧ (steer s sh i).now = s.now ∧ (steer s sh i).free = s.free ∧
    (steer s sh i).pending = s.pending := by
  simp only [steer]
  repeat' split
  all_goals simp

@[simp] theorem drainStart_frame (s : State) (die : Nat) :
    (drainStart s die).heat = s.heat ∧ (drainStart s die).sprint.readout = s.sprint.readout ∧
    (drainStart s die).ports = s.ports ∧ (drainStart s die).grid.scratch = s.grid.scratch ∧
    (drainStart s die).tile = s.tile ∧ (drainStart s die).att = s.att ∧
    (drainStart s die).tier = s.tier ∧ (drainStart s die).net = s.net ∧
    (drainStart s die).links = s.links ∧ (drainStart s die).coll = s.coll ∧
    (drainStart s die).host.mem = s.host.mem ∧ (drainStart s die).crew = s.crew ∧
    (drainStart s die).power = s.power ∧ (drainStart s die).twin = s.twin ∧
    (drainStart s die).ud.vcount = s.ud.vcount ∧ (drainStart s die).ud.staging = s.ud.staging ∧
    (drainStart s die).back = s.back ∧ (drainStart s die).now = s.now ∧
    (drainStart s die).free = s.free ∧ (drainStart s die).pending = s.pending := by
  simp [drainStart]

@[simp] theorem setDrained_frame (s : State) (k : Nat) :
    (setDrained s k).regs = s.regs ∧ (setDrained s k).reg = s.reg ∧
    (setDrained s k).heat = s.heat ∧ (setDrained s k).sprint = s.sprint ∧
    (setDrained s k).ports = s.ports ∧ (setDrained s k).grid.scratch = s.grid.scratch ∧
    (setDrained s k).tile = s.tile ∧ (setDrained s k).att = s.att ∧
    (setDrained s k).tier = s.tier ∧ (setDrained s k).net = s.net ∧
    (setDrained s k).links = s.links ∧ (setDrained s k).coll = s.coll ∧
    (setDrained s k).host = s.host ∧ (setDrained s k).crew = s.crew ∧
    (setDrained s k).power = s.power ∧ (setDrained s k).twin = s.twin ∧
    (setDrained s k).ud = s.ud ∧ (setDrained s k).back = s.back ∧ (setDrained s k).now = s.now ∧
    (setDrained s k).free = s.free ∧ (setDrained s k).pending = s.pending := by
  simp [setDrained]

@[simp] theorem drainResume_frame (s : State) (die : Nat) :
    (drainResume s die).regs = s.regs ∧ (drainResume s die).reg = s.reg ∧
    (drainResume s die).heat = s.heat ∧ (drainResume s die).sprint = s.sprint ∧
    (drainResume s die).ports = s.ports ∧ (drainResume s die).grid.scratch = s.grid.scratch ∧
    (drainResume s die).tile = s.tile ∧ (drainResume s die).att = s.att ∧
    (drainResume s die).tier = s.tier ∧ (drainResume s die).net = s.net ∧
    (drainResume s die).links = s.links ∧ (drainResume s die).coll = s.coll ∧
    (drainResume s die).host = s.host ∧ (drainResume s die).crew = s.crew ∧
    (drainResume s die).power = s.power ∧ (drainResume s die).twin = s.twin ∧
    (drainResume s die).ud = s.ud ∧ (drainResume s die).back = s.back ∧
    (drainResume s die).now = s.now ∧ (drainResume s die).free = s.free ∧
    (drainResume s die).pending = s.pending := by
  simp [drainResume]

@[simp] theorem gridSnap_frame (s : State) (die : Nat) :
    (gridSnap s die).reg = s.reg ∧ (gridSnap s die).heat = s.heat ∧
    (gridSnap s die).sprint = s.sprint ∧ (gridSnap s die).ports = s.ports ∧
    (gridSnap s die).grid = s.grid ∧ (gridSnap s die).tile = s.tile ∧
    (gridSnap s die).att = s.att ∧ (gridSnap s die).tier = s.tier ∧ (gridSnap s die).net = s.net ∧
    (gridSnap s die).links = s.links ∧ (gridSnap s die).coll = s.coll ∧
    (gridSnap s die).host = s.host ∧ (gridSnap s die).crew = s.crew ∧
    (gridSnap s die).power = s.power ∧ (gridSnap s die).twin = s.twin ∧
    (gridSnap s die).ud = s.ud ∧ (gridSnap s die).back = s.back ∧ (gridSnap s die).now = s.now ∧
    (gridSnap s die).free = s.free ∧ (gridSnap s die).pending = s.pending := by
  simp [gridSnap]

@[simp] theorem gridClear_frame (s : State) (die : Nat) :
    (gridClear s die).regs = s.regs ∧ (gridClear s die).reg = s.reg ∧
    (gridClear s die).heat = s.heat ∧ (gridClear s die).sprint = s.sprint ∧
    (gridClear s die).ports = s.ports ∧ (gridClear s die).grid.scratch = s.grid.scratch ∧
    (gridClear s die).tile = s.tile ∧ (gridClear s die).att = s.att ∧
    (gridClear s die).tier = s.tier ∧ (gridClear s die).net = s.net ∧
    (gridClear s die).links = s.links ∧ (gridClear s die).coll = s.coll ∧
    (gridClear s die).host = s.host ∧ (gridClear s die).crew = s.crew ∧
    (gridClear s die).power = s.power ∧ (gridClear s die).twin = s.twin ∧
    (gridClear s die).ud = s.ud ∧ (gridClear s die).back = s.back ∧
    (gridClear s die).now = s.now ∧ (gridClear s die).free = s.free ∧
    (gridClear s die).pending = s.pending := by
  simp [gridClear]

@[simp] theorem takeShell_frame (s : State) (k : Nat) (crew : Nat) :
    (takeShell s k crew).regs = s.regs ∧ (takeShell s k crew).reg = s.reg ∧
    (takeShell s k crew).heat = s.heat ∧ (takeShell s k crew).sprint = s.sprint ∧
    (takeShell s k crew).ports = s.ports ∧ (takeShell s k crew).tile = s.tile ∧
    (takeShell s k crew).att = s.att ∧ (takeShell s k crew).tier = s.tier ∧
    (takeShell s k crew).net = s.net ∧ (takeShell s k crew).links = s.links ∧
    (takeShell s k crew).coll = s.coll ∧ (takeShell s k crew).host = s.host ∧
    (takeShell s k crew).crew = s.crew ∧ (takeShell s k crew).power = s.power ∧
    (takeShell s k crew).twin = s.twin ∧ (takeShell s k crew).ud = s.ud ∧
    (takeShell s k crew).back = s.back ∧ (takeShell s k crew).now = s.now ∧
    (takeShell s k crew).free = s.free ∧ (takeShell s k crew).pending = s.pending := by
  simp [takeShell]

@[simp] theorem startShell_frame (s : State) (k : Nat) (slot : Nat) (crew : Nat) (image : Nat) :
    (startShell s k slot crew image).heat = s.heat ∧
    (startShell s k slot crew image).sprint.readout = s.sprint.readout ∧
    (startShell s k slot crew image).ports = s.ports ∧
    (startShell s k slot crew image).tile = s.tile ∧
    (startShell s k slot crew image).att = s.att ∧
    (startShell s k slot crew image).tier.data = s.tier.data ∧
    (startShell s k slot crew image).net = s.net ∧
    (startShell s k slot crew image).links = s.links ∧
    (startShell s k slot crew image).coll = s.coll ∧
    (startShell s k slot crew image).host.mem = s.host.mem ∧
    (startShell s k slot crew image).crew = s.crew ∧
    (startShell s k slot crew image).power = s.power ∧
    (startShell s k slot crew image).twin = s.twin ∧
    (startShell s k slot crew image).ud.vcount = s.ud.vcount ∧
    (startShell s k slot crew image).ud.staging = s.ud.staging ∧
    (startShell s k slot crew image).back = s.back ∧
    (startShell s k slot crew image).now = s.now ∧
    (startShell s k slot crew image).free = s.free ∧
    (startShell s k slot crew image).pending = s.pending := by
  simp only [startShell]
  repeat' split
  all_goals simp

@[simp] theorem loadTable_frame (s : State) (k : Nat) (crew : Nat) (slot : Nat) (img : List Byte) :
    (loadTable s k crew slot img).regs = s.regs ∧ (loadTable s k crew slot img).reg = s.reg ∧
    (loadTable s k crew slot img).heat = s.heat ∧
    (loadTable s k crew slot img).sprint = s.sprint ∧
    (loadTable s k crew slot img).ports = s.ports ∧ (loadTable s k crew slot img).tile = s.tile ∧
    (loadTable s k crew slot img).att = s.att ∧ (loadTable s k crew slot img).tier = s.tier ∧
    (loadTable s k crew slot img).net = s.net ∧ (loadTable s k crew slot img).links = s.links ∧
    (loadTable s k crew slot img).coll = s.coll ∧ (loadTable s k crew slot img).host = s.host ∧
    (loadTable s k crew slot img).crew = s.crew ∧ (loadTable s k crew slot img).power = s.power ∧
    (loadTable s k crew slot img).twin = s.twin ∧ (loadTable s k crew slot img).ud = s.ud ∧
    (loadTable s k crew slot img).back = s.back ∧ (loadTable s k crew slot img).now = s.now ∧
    (loadTable s k crew slot img).free = s.free ∧
    (loadTable s k crew slot img).pending = s.pending := by
  simp [loadTable]

end Sys2Proof.Machine
end

