-- ==== Sys2Proof/Laws/FrameTier.lean ====
section
/-!
SUPPORT. What the operations of Machine/Tier.lean leave unchanged.
-/
namespace Sys2Proof.Machine
open Sys2Proof

@[simp] theorem allocObj_frame (s : State) (crew : Nat) (obj : Nat) (tier : Nat) (die : Nat) (size : Nat) (pin : Bool) :
    (allocObj s crew obj tier die size pin).regs = s.regs ∧
    (allocObj s crew obj tier die size pin).reg = s.reg ∧
    (allocObj s crew obj tier die size pin).heat = s.heat ∧
    (allocObj s crew obj tier die size pin).sprint = s.sprint ∧
    (allocObj s crew obj tier die size pin).ports = s.ports ∧
    (allocObj s crew obj tier die size pin).grid = s.grid ∧
    (allocObj s crew obj tier die size pin).tile = s.tile ∧
    (allocObj s crew obj tier die size pin).att = s.att ∧
    (allocObj s crew obj tier die size pin).net = s.net ∧
    (allocObj s crew obj tier die size pin).links = s.links ∧
    (allocObj s crew obj tier die size pin).coll = s.coll ∧
    (allocObj s crew obj tier die size pin).host = s.host ∧
    (allocObj s crew obj tier die size pin).crew = s.crew ∧
    (allocObj s crew obj tier die size pin).power = s.power ∧
    (allocObj s crew obj tier die size pin).twin = s.twin ∧
    (allocObj s crew obj tier die size pin).ud = s.ud ∧
    (allocObj s crew obj tier die size pin).back = s.back ∧
    (allocObj s crew obj tier die size pin).now = s.now ∧
    (allocObj s crew obj tier die size pin).pending = s.pending := by
  simp only [allocObj]
  repeat' split
  all_goals simp

@[simp] theorem endPlace_frame (s : State) (i : Nat) (c : Nat) :
    (endPlace s i c).reg = s.reg ∧ (endPlace s i c).heat = s.heat ∧
    (endPlace s i c).sprint = s.sprint ∧ (endPlace s i c).ports = s.ports ∧
    (endPlace s i c).grid = s.grid ∧ (endPlace s i c).tile = s.tile ∧
    (endPlace s i c).att = s.att ∧ (endPlace s i c).tier.data = s.tier.data ∧
    (endPlace s i c).net = s.net ∧ (endPlace s i c).links = s.links ∧
    (endPlace s i c).coll = s.coll ∧ (endPlace s i c).host.mem = s.host.mem ∧
    (endPlace s i c).crew = s.crew ∧ (endPlace s i c).power = s.power ∧
    (endPlace s i c).twin = s.twin ∧ (endPlace s i c).ud = s.ud ∧ (endPlace s i c).back = s.back ∧
    (endPlace s i c).now = s.now ∧ (endPlace s i c).free = s.free ∧
    (endPlace s i c).pending = s.pending := by
  simp [endPlace]

@[simp] theorem dropMigration_frame (s : State) (i : Nat) :
    (dropMigration s i).regs = s.regs ∧ (dropMigration s i).reg = s.reg ∧
    (dropMigration s i).heat = s.heat ∧ (dropMigration s i).sprint = s.sprint ∧
    (dropMigration s i).ports = s.ports ∧ (dropMigration s i).grid = s.grid ∧
    (dropMigration s i).tile = s.tile ∧ (dropMigration s i).att = s.att ∧
    (dropMigration s i).tier.data = s.tier.data ∧ (dropMigration s i).net = s.net ∧
    (dropMigration s i).links = s.links ∧ (dropMigration s i).coll = s.coll ∧
    (dropMigration s i).host = s.host ∧ (dropMigration s i).crew = s.crew ∧
    (dropMigration s i).power = s.power ∧ (dropMigration s i).twin = s.twin ∧
    (dropMigration s i).ud = s.ud ∧ (dropMigration s i).back = s.back ∧
    (dropMigration s i).now = s.now ∧ (dropMigration s i).free = s.free ∧
    (dropMigration s i).pending = s.pending := by
  simp only [dropMigration]
  repeat' split
  all_goals simp

@[simp] theorem copyPiece_frame (s : State) (crew : Nat) (src : Nat) (dst : Nat) (pos : Nat) (len : Nat) :
    (copyPiece s crew src dst pos len).regs = s.regs ∧
    (copyPiece s crew src dst pos len).reg = s.reg ∧
    (copyPiece s crew src dst pos len).heat = s.heat ∧
    (copyPiece s crew src dst pos len).sprint = s.sprint ∧
    (copyPiece s crew src dst pos len).ports = s.ports ∧
    (copyPiece s crew src dst pos len).grid = s.grid ∧
    (copyPiece s crew src dst pos len).tile = s.tile ∧
    (copyPiece s crew src dst pos len).att = s.att ∧
    (copyPiece s crew src dst pos len).net = s.net ∧
    (copyPiece s crew src dst pos len).links = s.links ∧
    (copyPiece s crew src dst pos len).coll = s.coll ∧
    (copyPiece s crew src dst pos len).host = s.host ∧
    (copyPiece s crew src dst pos len).crew = s.crew ∧
    (copyPiece s crew src dst pos len).power = s.power ∧
    (copyPiece s crew src dst pos len).twin = s.twin ∧
    (copyPiece s crew src dst pos len).ud = s.ud ∧
    (copyPiece s crew src dst pos len).back = s.back ∧
    (copyPiece s crew src dst pos len).now = s.now ∧
    (copyPiece s crew src dst pos len).free = s.free ∧
    (copyPiece s crew src dst pos len).pending = s.pending := by
  simp [copyPiece]

@[simp] theorem copyAll_frame (s : State) (crew : Nat) (src : Nat) (dst : Nat) (len : Nat) :
    (copyAll s crew src dst len).regs = s.regs ∧ (copyAll s crew src dst len).reg = s.reg ∧
    (copyAll s crew src dst len).heat = s.heat ∧ (copyAll s crew src dst len).sprint = s.sprint ∧
    (copyAll s crew src dst len).ports = s.ports ∧ (copyAll s crew src dst len).grid = s.grid ∧
    (copyAll s crew src dst len).tile = s.tile ∧ (copyAll s crew src dst len).att = s.att ∧
    (copyAll s crew src dst len).net = s.net ∧ (copyAll s crew src dst len).links = s.links ∧
    (copyAll s crew src dst len).coll = s.coll ∧ (copyAll s crew src dst len).host = s.host ∧
    (copyAll s crew src dst len).crew = s.crew ∧ (copyAll s crew src dst len).power = s.power ∧
    (copyAll s crew src dst len).twin = s.twin ∧ (copyAll s crew src dst len).ud = s.ud ∧
    (copyAll s crew src dst len).back = s.back ∧ (copyAll s crew src dst len).now = s.now ∧
    (copyAll s crew src dst len).free = s.free ∧ (copyAll s crew src dst len).pending = s.pending := by
  simp [copyAll]

@[simp] theorem unpoison_frame (s : State) (crew : Nat) (a : Nat) (len : Nat) :
    (unpoison s crew a len).regs = s.regs ∧ (unpoison s crew a len).reg = s.reg ∧
    (unpoison s crew a len).heat = s.heat ∧ (unpoison s crew a len).sprint = s.sprint ∧
    (unpoison s crew a len).ports = s.ports ∧ (unpoison s crew a len).grid = s.grid ∧
    (unpoison s crew a len).tile = s.tile ∧ (unpoison s crew a len).att = s.att ∧
    (unpoison s crew a len).tier.data = s.tier.data ∧ (unpoison s crew a len).net = s.net ∧
    (unpoison s crew a len).links = s.links ∧ (unpoison s crew a len).coll = s.coll ∧
    (unpoison s crew a len).host = s.host ∧ (unpoison s crew a len).crew = s.crew ∧
    (unpoison s crew a len).power = s.power ∧ (unpoison s crew a len).twin = s.twin ∧
    (unpoison s crew a len).ud = s.ud ∧ (unpoison s crew a len).back = s.back ∧
    (unpoison s crew a len).now = s.now ∧ (unpoison s crew a len).free = s.free ∧
    (unpoison s crew a len).pending = s.pending := by
  simp only [unpoison]
  repeat' split
  all_goals simp

@[simp] theorem finishReq_frame (s : State) (r : TierReq) :
    (finishReq s r).reg = s.reg ∧ (finishReq s r).heat = s.heat ∧
    (finishReq s r).sprint = s.sprint ∧ (finishReq s r).ports = s.ports ∧
    (finishReq s r).grid = s.grid ∧ (finishReq s r).att = s.att ∧ (finishReq s r).net = s.net ∧
    (finishReq s r).links = s.links ∧ (finishReq s r).coll = s.coll ∧
    (finishReq s r).crew = s.crew ∧ (finishReq s r).power = s.power ∧
    (finishReq s r).twin = s.twin ∧ (finishReq s r).ud = s.ud ∧ (finishReq s r).back = s.back ∧
    (finishReq s r).now = s.now ∧ (finishReq s r).free = s.free ∧
    (finishReq s r).pending = s.pending := by
  simp only [finishReq]
  repeat' split
  all_goals simp

@[simp] theorem beginReq_frame (s : State) (r : TierReq) :
    (beginReq s r).reg = s.reg ∧ (beginReq s r).heat = s.heat ∧ (beginReq s r).sprint = s.sprint ∧
    (beginReq s r).ports = s.ports ∧ (beginReq s r).grid = s.grid ∧ (beginReq s r).att = s.att ∧
    (beginReq s r).net = s.net ∧ (beginReq s r).links = s.links ∧ (beginReq s r).coll = s.coll ∧
    (beginReq s r).crew = s.crew ∧ (beginReq s r).power = s.power ∧ (beginReq s r).twin = s.twin ∧
    (beginReq s r).ud = s.ud ∧ (beginReq s r).back = s.back ∧ (beginReq s r).now = s.now ∧
    (beginReq s r).free = s.free ∧ (beginReq s r).pending = s.pending := by
  simp [beginReq]

@[simp] theorem strayReply_frame (s : State) (i : Nat) (unit : Nat) :
    (strayReply s i unit).reg = s.reg ∧ (strayReply s i unit).heat = s.heat ∧
    (strayReply s i unit).sprint = s.sprint ∧ (strayReply s i unit).ports = s.ports ∧
    (strayReply s i unit).grid = s.grid ∧ (strayReply s i unit).tile = s.tile ∧
    (strayReply s i unit).att = s.att ∧ (strayReply s i unit).tier.data = s.tier.data ∧
    (strayReply s i unit).net = s.net ∧ (strayReply s i unit).links = s.links ∧
    (strayReply s i unit).coll = s.coll ∧ (strayReply s i unit).host = s.host ∧
    (strayReply s i unit).crew = s.crew ∧ (strayReply s i unit).power = s.power ∧
    (strayReply s i unit).twin = s.twin ∧ (strayReply s i unit).ud = s.ud ∧
    (strayReply s i unit).back = s.back ∧ (strayReply s i unit).now = s.now ∧
    (strayReply s i unit).free = s.free ∧ (strayReply s i unit).pending = s.pending := by
  simp only [strayReply]
  repeat' split
  all_goals simp

@[simp] theorem chanOut_frame (s : State) (tier : Nat) (ch : Nat) :
    (chanOut s tier ch).reg = s.reg ∧ (chanOut s tier ch).heat = s.heat ∧
    (chanOut s tier ch).sprint = s.sprint ∧ (chanOut s tier ch).ports = s.ports ∧
    (chanOut s tier ch).grid = s.grid ∧ (chanOut s tier ch).tile = s.tile ∧
    (chanOut s tier ch).att = s.att ∧ (chanOut s tier ch).tier.data = s.tier.data ∧
    (chanOut s tier ch).net = s.net ∧ (chanOut s tier ch).links = s.links ∧
    (chanOut s tier ch).coll = s.coll ∧ (chanOut s tier ch).host.mem = s.host.mem ∧
    (chanOut s tier ch).crew = s.crew ∧ (chanOut s tier ch).power = s.power ∧
    (chanOut s tier ch).twin = s.twin ∧ (chanOut s tier ch).ud = s.ud ∧
    (chanOut s tier ch).back = s.back ∧ (chanOut s tier ch).now = s.now ∧
    (chanOut s tier ch).free = s.free ∧ (chanOut s tier ch).pending = s.pending := by
  simp [chanOut]

@[simp] theorem t4ReadOnly_frame (s : State) :
    (t4ReadOnly s).reg = s.reg ∧ (t4ReadOnly s).heat = s.heat ∧ (t4ReadOnly s).sprint = s.sprint ∧
    (t4ReadOnly s).ports = s.ports ∧ (t4ReadOnly s).grid = s.grid ∧ (t4ReadOnly s).tile = s.tile ∧
    (t4ReadOnly s).att = s.att ∧ (t4ReadOnly s).tier.data = s.tier.data ∧
    (t4ReadOnly s).net = s.net ∧ (t4ReadOnly s).links = s.links ∧ (t4ReadOnly s).coll = s.coll ∧
    (t4ReadOnly s).host.mem = s.host.mem ∧ (t4ReadOnly s).crew = s.crew ∧
    (t4ReadOnly s).power = s.power ∧ (t4ReadOnly s).twin = s.twin ∧ (t4ReadOnly s).ud = s.ud ∧
    (t4ReadOnly s).back = s.back ∧ (t4ReadOnly s).now = s.now ∧ (t4ReadOnly s).free = s.free ∧
    (t4ReadOnly s).pending = s.pending := by
  simp [t4ReadOnly]

@[simp] theorem blockSet_frame (s : State) (b : Nat) (x : Block) :
    (blockSet s b x).regs = s.regs ∧ (blockSet s b x).reg = s.reg ∧
    (blockSet s b x).heat = s.heat ∧ (blockSet s b x).sprint = s.sprint ∧
    (blockSet s b x).ports = s.ports ∧ (blockSet s b x).grid = s.grid ∧
    (blockSet s b x).tile = s.tile ∧ (blockSet s b x).att = s.att ∧
    (blockSet s b x).tier.data = s.tier.data ∧ (blockSet s b x).net = s.net ∧
    (blockSet s b x).links = s.links ∧ (blockSet s b x).coll = s.coll ∧
    (blockSet s b x).host = s.host ∧ (blockSet s b x).crew = s.crew ∧
    (blockSet s b x).power = s.power ∧ (blockSet s b x).twin = s.twin ∧
    (blockSet s b x).ud = s.ud ∧ (blockSet s b x).back = s.back ∧ (blockSet s b x).now = s.now ∧
    (blockSet s b x).free = s.free ∧ (blockSet s b x).pending = s.pending := by
  simp [blockSet]

@[simp] theorem putSpread_frame (s : State) :
    (putSpread s).reg = s.reg ∧ (putSpread s).heat = s.heat ∧ (putSpread s).sprint = s.sprint ∧
    (putSpread s).ports = s.ports ∧ (putSpread s).grid = s.grid ∧ (putSpread s).tile = s.tile ∧
    (putSpread s).att = s.att ∧ (putSpread s).tier = s.tier ∧ (putSpread s).net = s.net ∧
    (putSpread s).links = s.links ∧ (putSpread s).coll = s.coll ∧ (putSpread s).host = s.host ∧
    (putSpread s).crew = s.crew ∧ (putSpread s).power = s.power ∧ (putSpread s).twin = s.twin ∧
    (putSpread s).ud = s.ud ∧ (putSpread s).back = s.back ∧ (putSpread s).now = s.now ∧
    (putSpread s).free = s.free ∧ (putSpread s).pending = s.pending := by
  simp [putSpread]

@[simp] theorem relocate_frame (s : State) (src : Nat) (dst : Nat) :
    (relocate s src dst).reg = s.reg ∧ (relocate s src dst).heat = s.heat ∧
    (relocate s src dst).sprint = s.sprint ∧ (relocate s src dst).ports = s.ports ∧
    (relocate s src dst).grid = s.grid ∧ (relocate s src dst).tile = s.tile ∧
    (relocate s src dst).att = s.att ∧ (relocate s src dst).tier.data = s.tier.data ∧
    (relocate s src dst).net = s.net ∧ (relocate s src dst).links = s.links ∧
    (relocate s src dst).coll = s.coll ∧ (relocate s src dst).host = s.host ∧
    (relocate s src dst).crew = s.crew ∧ (relocate s src dst).power = s.power ∧
    (relocate s src dst).twin = s.twin ∧ (relocate s src dst).ud = s.ud ∧
    (relocate s src dst).back = s.back ∧ (relocate s src dst).now = s.now ∧
    (relocate s src dst).free = s.free ∧ (relocate s src dst).pending = s.pending := by
  simp [relocate]

end Sys2Proof.Machine
end

