-- ==== Sys2Proof/Laws/FrameTile.lean ====
section
/-!
SUPPORT. What the operations of Machine/Tile.lean leave unchanged.
-/
namespace Sys2Proof.Machine
open Sys2Proof

@[simp] theorem putElem_frame (s : State) (crew : Nat) (w : Nat) (a : Nat) (i : Nat) (v : Nat) :
    (putElem s crew w a i v).regs = s.regs ∧ (putElem s crew w a i v).reg = s.reg ∧
    (putElem s crew w a i v).heat = s.heat ∧ (putElem s crew w a i v).sprint = s.sprint ∧
    (putElem s crew w a i v).ports = s.ports ∧ (putElem s crew w a i v).grid = s.grid ∧
    (putElem s crew w a i v).tile = s.tile ∧ (putElem s crew w a i v).att = s.att ∧
    (putElem s crew w a i v).net = s.net ∧ (putElem s crew w a i v).links = s.links ∧
    (putElem s crew w a i v).coll = s.coll ∧ (putElem s crew w a i v).host = s.host ∧
    (putElem s crew w a i v).crew = s.crew ∧ (putElem s crew w a i v).power = s.power ∧
    (putElem s crew w a i v).twin = s.twin ∧ (putElem s crew w a i v).ud = s.ud ∧
    (putElem s crew w a i v).back = s.back ∧ (putElem s crew w a i v).now = s.now ∧
    (putElem s crew w a i v).free = s.free ∧ (putElem s crew w a i v).pending = s.pending := by
  simp only [putElem]
  repeat' split
  all_goals simp

@[simp] theorem storeUnit_frame (s : State) (crew : Nat) (d : XDesc) (u : Nat) (b : List Byte) :
    (storeUnit s crew d u b).regs = s.regs ∧ (storeUnit s crew d u b).reg = s.reg ∧
    (storeUnit s crew d u b).heat = s.heat ∧ (storeUnit s crew d u b).sprint = s.sprint ∧
    (storeUnit s crew d u b).ports = s.ports ∧ (storeUnit s crew d u b).grid = s.grid ∧
    (storeUnit s crew d u b).tile = s.tile ∧ (storeUnit s crew d u b).att = s.att ∧
    (storeUnit s crew d u b).net = s.net ∧ (storeUnit s crew d u b).links = s.links ∧
    (storeUnit s crew d u b).coll = s.coll ∧ (storeUnit s crew d u b).host = s.host ∧
    (storeUnit s crew d u b).crew = s.crew ∧ (storeUnit s crew d u b).power = s.power ∧
    (storeUnit s crew d u b).twin = s.twin ∧ (storeUnit s crew d u b).ud = s.ud ∧
    (storeUnit s crew d u b).back = s.back ∧ (storeUnit s crew d u b).now = s.now ∧
    (storeUnit s crew d u b).free = s.free ∧ (storeUnit s crew d u b).pending = s.pending := by
  simp [storeUnit]

@[simp] theorem putSet_frame (s : State) (die : Nat) (l : Nat) (ls : List Nat) :
    (putSet s die l ls).regs = s.regs ∧ (putSet s die l ls).reg = s.reg ∧
    (putSet s die l ls).heat = s.heat ∧ (putSet s die l ls).sprint = s.sprint ∧
    (putSet s die l ls).ports = s.ports ∧ (putSet s die l ls).grid = s.grid ∧
    (putSet s die l ls).att = s.att ∧ (putSet s die l ls).tier = s.tier ∧
    (putSet s die l ls).net = s.net ∧ (putSet s die l ls).links = s.links ∧
    (putSet s die l ls).coll = s.coll ∧ (putSet s die l ls).host = s.host ∧
    (putSet s die l ls).crew = s.crew ∧ (putSet s die l ls).power = s.power ∧
    (putSet s die l ls).twin = s.twin ∧ (putSet s die l ls).ud = s.ud ∧
    (putSet s die l ls).back = s.back ∧ (putSet s die l ls).now = s.now ∧
    (putSet s die l ls).free = s.free ∧ (putSet s die l ls).pending = s.pending := by
  simp [putSet]

@[simp] theorem cacheLook_frame (s : State) (die : Nat) (lines : List Nat) :
    (cacheLook s die lines).reg = s.reg ∧ (cacheLook s die lines).heat = s.heat ∧
    (cacheLook s die lines).sprint = s.sprint ∧ (cacheLook s die lines).ports = s.ports ∧
    (cacheLook s die lines).grid = s.grid ∧ (cacheLook s die lines).att = s.att ∧
    (cacheLook s die lines).tier = s.tier ∧ (cacheLook s die lines).net = s.net ∧
    (cacheLook s die lines).links = s.links ∧ (cacheLook s die lines).coll = s.coll ∧
    (cacheLook s die lines).host = s.host ∧ (cacheLook s die lines).crew = s.crew ∧
    (cacheLook s die lines).power = s.power ∧ (cacheLook s die lines).twin = s.twin ∧
    (cacheLook s die lines).ud = s.ud ∧ (cacheLook s die lines).back = s.back ∧
    (cacheLook s die lines).now = s.now ∧ (cacheLook s die lines).free = s.free ∧
    (cacheLook s die lines).pending = s.pending := by
  simp [cacheLook]

@[simp] theorem invalidateUnit_frame (s : State) (crew : Nat) (d : XDesc) (u : Nat) :
    (invalidateUnit s crew d u).regs = s.regs ∧ (invalidateUnit s crew d u).reg = s.reg ∧
    (invalidateUnit s crew d u).heat = s.heat ∧ (invalidateUnit s crew d u).sprint = s.sprint ∧
    (invalidateUnit s crew d u).ports = s.ports ∧ (invalidateUnit s crew d u).grid = s.grid ∧
    (invalidateUnit s crew d u).att = s.att ∧ (invalidateUnit s crew d u).tier = s.tier ∧
    (invalidateUnit s crew d u).net = s.net ∧ (invalidateUnit s crew d u).links = s.links ∧
    (invalidateUnit s crew d u).coll = s.coll ∧ (invalidateUnit s crew d u).host = s.host ∧
    (invalidateUnit s crew d u).crew = s.crew ∧ (invalidateUnit s crew d u).power = s.power ∧
    (invalidateUnit s crew d u).twin = s.twin ∧ (invalidateUnit s crew d u).ud = s.ud ∧
    (invalidateUnit s crew d u).back = s.back ∧ (invalidateUnit s crew d u).now = s.now ∧
    (invalidateUnit s crew d u).free = s.free ∧ (invalidateUnit s crew d u).pending = s.pending := by
  simp [invalidateUnit]

@[simp] theorem listSet_frame (s : State) (k : Nat) (l : XList) :
    (listSet s k l).regs = s.regs ∧ (listSet s k l).reg = s.reg ∧ (listSet s k l).heat = s.heat ∧
    (listSet s k l).sprint = s.sprint ∧ (listSet s k l).ports = s.ports ∧
    (listSet s k l).grid = s.grid ∧ (listSet s k l).att = s.att ∧ (listSet s k l).tier = s.tier ∧
    (listSet s k l).net = s.net ∧ (listSet s k l).links = s.links ∧
    (listSet s k l).coll = s.coll ∧ (listSet s k l).host = s.host ∧
    (listSet s k l).crew = s.crew ∧ (listSet s k l).power = s.power ∧
    (listSet s k l).twin = s.twin ∧ (listSet s k l).ud = s.ud ∧ (listSet s k l).back = s.back ∧
    (listSet s k l).now = s.now ∧ (listSet s k l).free = s.free ∧
    (listSet s k l).pending = s.pending := by
  simp [listSet]

@[simp] theorem listDel_frame (s : State) (k : Nat) :
    (listDel s k).regs = s.regs ∧ (listDel s k).reg = s.reg ∧ (listDel s k).heat = s.heat ∧
    (listDel s k).sprint = s.sprint ∧ (listDel s k).ports = s.ports ∧
    (listDel s k).grid = s.grid ∧ (listDel s k).att = s.att ∧ (listDel s k).tier = s.tier ∧
    (listDel s k).net = s.net ∧ (listDel s k).links = s.links ∧ (listDel s k).coll = s.coll ∧
    (listDel s k).host = s.host ∧ (listDel s k).crew = s.crew ∧ (listDel s k).power = s.power ∧
    (listDel s k).twin = s.twin ∧ (listDel s k).ud = s.ud ∧ (listDel s k).back = s.back ∧
    (listDel s k).now = s.now ∧ (listDel s k).free = s.free ∧ (listDel s k).pending = s.pending := by
  simp [listDel]

@[simp] theorem listStop_frame (s : State) (k : Nat) (code : Nat) (addr : Nat) :
    (listStop s k code addr).heat = s.heat ∧
    (listStop s k code addr).sprint.readout = s.sprint.readout ∧
    (listStop s k code addr).ports = s.ports ∧
    (listStop s k code addr).grid.scratch = s.grid.scratch ∧
    (listStop s k code addr).att = s.att ∧ (listStop s k code addr).tier.data = s.tier.data ∧
    (listStop s k code addr).net = s.net ∧ (listStop s k code addr).links = s.links ∧
    (listStop s k code addr).coll = s.coll ∧ (listStop s k code addr).host.mem = s.host.mem ∧
    (listStop s k code addr).crew = s.crew ∧ (listStop s k code addr).power = s.power ∧
    (listStop s k code addr).twin = s.twin ∧ (listStop s k code addr).ud.vcount = s.ud.vcount ∧
    (listStop s k code addr).ud.staging = s.ud.staging ∧ (listStop s k code addr).back = s.back ∧
    (listStop s k code addr).now = s.now ∧ (listStop s k code addr).free = s.free ∧
    (listStop s k code addr).pending = s.pending := by
  simp only [listStop]
  repeat' split
  all_goals simp

@[simp] theorem netFail_frame (s : State) (slot : Nat) (code : Nat) :
    (netFail s slot code).heat = s.heat ∧
    (netFail s slot code).sprint.readout = s.sprint.readout ∧
    (netFail s slot code).ports = s.ports ∧ (netFail s slot code).grid.scratch = s.grid.scratch ∧
    (netFail s slot code).att = s.att ∧ (netFail s slot code).tier.data = s.tier.data ∧
    (netFail s slot code).net = s.net ∧ (netFail s slot code).links = s.links ∧
    (netFail s slot code).coll = s.coll ∧ (netFail s slot code).host.mem = s.host.mem ∧
    (netFail s slot code).crew = s.crew ∧ (netFail s slot code).power = s.power ∧
    (netFail s slot code).twin = s.twin ∧ (netFail s slot code).ud.vcount = s.ud.vcount ∧
    (netFail s slot code).ud.staging = s.ud.staging ∧ (netFail s slot code).back = s.back ∧
    (netFail s slot code).now = s.now ∧ (netFail s slot code).free = s.free ∧
    (netFail s slot code).pending = s.pending := by
  simp only [netFail]
  repeat' split
  all_goals simp

@[simp] theorem listNext_frame (s : State) (k : Nat) (l : XList) (d : XDesc) :
    (listNext s k l d).regs = s.regs ∧ (listNext s k l d).reg = s.reg ∧
    (listNext s k l d).heat = s.heat ∧ (listNext s k l d).sprint = s.sprint ∧
    (listNext s k l d).ports = s.ports ∧ (listNext s k l d).grid = s.grid ∧
    (listNext s k l d).att = s.att ∧ (listNext s k l d).tier.data = s.tier.data ∧
    (listNext s k l d).net = s.net ∧ (listNext s k l d).links = s.links ∧
    (listNext s k l d).coll = s.coll ∧ (listNext s k l d).host.mem = s.host.mem ∧
    (listNext s k l d).crew = s.crew ∧ (listNext s k l d).power = s.power ∧
    (listNext s k l d).twin = s.twin ∧ (listNext s k l d).ud = s.ud ∧
    (listNext s k l d).back = s.back ∧ (listNext s k l d).now = s.now ∧
    (listNext s k l d).free = s.free ∧ (listNext s k l d).pending = s.pending := by
  simp [listNext]

@[simp] theorem listSend_frame (s : State) (die : Nat) (crew : Nat) (d : XDesc) (e : QEntry) :
    (listSend s die crew d e).regs = s.regs ∧ (listSend s die crew d e).reg = s.reg ∧
    (listSend s die crew d e).heat = s.heat ∧ (listSend s die crew d e).sprint = s.sprint ∧
    (listSend s die crew d e).ports = s.ports ∧
    (listSend s die crew d e).grid.scratch = s.grid.scratch ∧
    (listSend s die crew d e).tile = s.tile ∧ (listSend s die crew d e).att = s.att ∧
    (listSend s die crew d e).tier = s.tier ∧ (listSend s die crew d e).links = s.links ∧
    (listSend s die crew d e).coll = s.coll ∧ (listSend s die crew d e).host = s.host ∧
    (listSend s die crew d e).crew = s.crew ∧ (listSend s die crew d e).power = s.power ∧
    (listSend s die crew d e).twin = s.twin ∧ (listSend s die crew d e).ud = s.ud ∧
    (listSend s die crew d e).back = s.back ∧ (listSend s die crew d e).now = s.now ∧
    (listSend s die crew d e).free = s.free ∧ (listSend s die crew d e).pending = s.pending := by
  simp [listSend]

@[simp] theorem countTile_frame (s : State) (die : Nat) (d : XDesc) :
    (countTile s die d).reg = s.reg ∧ (countTile s die d).heat = s.heat ∧
    (countTile s die d).sprint = s.sprint ∧ (countTile s die d).ports = s.ports ∧
    (countTile s die d).grid = s.grid ∧ (countTile s die d).tile = s.tile ∧
    (countTile s die d).att = s.att ∧ (countTile s die d).tier = s.tier ∧
    (countTile s die d).net = s.net ∧ (countTile s die d).links = s.links ∧
    (countTile s die d).coll = s.coll ∧ (countTile s die d).host = s.host ∧
    (countTile s die d).crew = s.crew ∧ (countTile s die d).power = s.power ∧
    (countTile s die d).twin = s.twin ∧ (countTile s die d).ud = s.ud ∧
    (countTile s die d).back = s.back ∧ (countTile s die d).now = s.now ∧
    (countTile s die d).free = s.free ∧ (countTile s die d).pending = s.pending := by
  simp [countTile]

@[simp] theorem passTurn_frame (s : State) (k : Nat) :
    (passTurn s k).regs = s.regs ∧ (passTurn s k).reg = s.reg ∧ (passTurn s k).heat = s.heat ∧
    (passTurn s k).sprint = s.sprint ∧ (passTurn s k).ports = s.ports ∧
    (passTurn s k).grid = s.grid ∧ (passTurn s k).att = s.att ∧ (passTurn s k).tier = s.tier ∧
    (passTurn s k).net = s.net ∧ (passTurn s k).links = s.links ∧ (passTurn s k).coll = s.coll ∧
    (passTurn s k).host = s.host ∧ (passTurn s k).crew = s.crew ∧ (passTurn s k).power = s.power ∧
    (passTurn s k).twin = s.twin ∧ (passTurn s k).ud = s.ud ∧ (passTurn s k).back = s.back ∧
    (passTurn s k).now = s.now ∧ (passTurn s k).free = s.free ∧ (passTurn s k).pending = s.pending := by
  simp [passTurn]

end Sys2Proof.Machine
end

