-- ==== Sys2Proof/Laws/FrameGroups.lean ====
section
/-!
SUPPORT. What the operations of Machine/Groups.lean leave unchanged.
-/
namespace Sys2Proof.Machine
open Sys2Proof

@[simp] theorem sendAll_frame (s : State) (ds : List Nat) (p : Nat → HPkt) :
    (sendAll s ds p).reg = s.reg ∧ (sendAll s ds p).heat = s.heat ∧
    (sendAll s ds p).sprint = s.sprint ∧ (sendAll s ds p).ports = s.ports ∧
    (sendAll s ds p).grid = s.grid ∧ (sendAll s ds p).tile = s.tile ∧
    (sendAll s ds p).att = s.att ∧ (sendAll s ds p).tier = s.tier ∧
    (sendAll s ds p).coll = s.coll ∧ (sendAll s ds p).host = s.host ∧
    (sendAll s ds p).crew = s.crew ∧ (sendAll s ds p).power = s.power ∧
    (sendAll s ds p).twin = s.twin ∧ (sendAll s ds p).ud = s.ud ∧ (sendAll s ds p).back = s.back ∧
    (sendAll s ds p).now = s.now ∧ (sendAll s ds p).free = s.free ∧
    (sendAll s ds p).pending = s.pending := by
  simp only [sendAll]
  repeat' split
  all_goals simp

@[simp] theorem nodeMod_frame (s : State) (sprint : Bool) (g : Nat) (tag : Nat) (weft : Bool) (f : TreeNode → TreeNode) :
    (nodeMod s sprint g tag weft f).regs = s.regs ∧ (nodeMod s sprint g tag weft f).reg = s.reg ∧
    (nodeMod s sprint g tag weft f).heat = s.heat ∧
    (nodeMod s sprint g tag weft f).sprint.readout = s.sprint.readout ∧
    (nodeMod s sprint g tag weft f).ports = s.ports ∧
    (nodeMod s sprint g tag weft f).grid = s.grid ∧
    (nodeMod s sprint g tag weft f).tile = s.tile ∧ (nodeMod s sprint g tag weft f).att = s.att ∧
    (nodeMod s sprint g tag weft f).tier = s.tier ∧ (nodeMod s sprint g tag weft f).net = s.net ∧
    (nodeMod s sprint g tag weft f).links = s.links ∧
    (nodeMod s sprint g tag weft f).coll = s.coll ∧
    (nodeMod s sprint g tag weft f).host = s.host ∧
    (nodeMod s sprint g tag weft f).crew = s.crew ∧
    (nodeMod s sprint g tag weft f).power = s.power ∧
    (nodeMod s sprint g tag weft f).twin = s.twin ∧ (nodeMod s sprint g tag weft f).ud = s.ud ∧
    (nodeMod s sprint g tag weft f).back = s.back ∧ (nodeMod s sprint g tag weft f).now = s.now ∧
    (nodeMod s sprint g tag weft f).free = s.free ∧
    (nodeMod s sprint g tag weft f).pending = s.pending := by
  simp [nodeMod]

@[simp] theorem assemble_frame (s : State) (key : Nat) (p : HPkt) :
    (assemble s key p).1.regs = s.regs ∧ (assemble s key p).1.reg = s.reg ∧
    (assemble s key p).1.heat = s.heat ∧ (assemble s key p).1.sprint = s.sprint ∧
    (assemble s key p).1.ports = s.ports ∧ (assemble s key p).1.grid = s.grid ∧
    (assemble s key p).1.tile = s.tile ∧ (assemble s key p).1.att = s.att ∧
    (assemble s key p).1.tier = s.tier ∧ (assemble s key p).1.net = s.net ∧
    (assemble s key p).1.links = s.links ∧ (assemble s key p).1.host = s.host ∧
    (assemble s key p).1.crew = s.crew ∧ (assemble s key p).1.power = s.power ∧
    (assemble s key p).1.twin = s.twin ∧ (assemble s key p).1.ud = s.ud ∧
    (assemble s key p).1.back = s.back ∧ (assemble s key p).1.now = s.now ∧
    (assemble s key p).1.free = s.free ∧ (assemble s key p).1.pending = s.pending := by
  simp only [assemble]
  repeat' split
  all_goals simp

@[simp] theorem sendVec_frame (s : State) (dests : List Nat) (b : List Byte) (p : Nat → Bool → Nat → List Byte → HPkt) :
    (sendVec s dests b p).reg = s.reg ∧ (sendVec s dests b p).heat = s.heat ∧
    (sendVec s dests b p).sprint = s.sprint ∧ (sendVec s dests b p).ports = s.ports ∧
    (sendVec s dests b p).grid = s.grid ∧ (sendVec s dests b p).tile = s.tile ∧
    (sendVec s dests b p).att = s.att ∧ (sendVec s dests b p).tier = s.tier ∧
    (sendVec s dests b p).coll = s.coll ∧ (sendVec s dests b p).host = s.host ∧
    (sendVec s dests b p).crew = s.crew ∧ (sendVec s dests b p).power = s.power ∧
    (sendVec s dests b p).twin = s.twin ∧ (sendVec s dests b p).ud = s.ud ∧
    (sendVec s dests b p).back = s.back ∧ (sendVec s dests b p).now = s.now ∧
    (sendVec s dests b p).free = s.free ∧ (sendVec s dests b p).pending = s.pending := by
  simp [sendVec]

end Sys2Proof.Machine
end

