-- ==== Sys2Proof/Laws/FramePair.lean ====
section
/-!
SUPPORT. What the operations of Machine/Pair.lean leave unchanged.
-/
namespace Sys2Proof.Machine
open Sys2Proof

@[simp] theorem twinSend_frame (s : State) (kind : Nat) (body : List Byte) (piece : List Byte) :
    (twinSend s kind body piece).regs = s.regs ∧ (twinSend s kind body piece).reg = s.reg ∧
    (twinSend s kind body piece).heat = s.heat ∧ (twinSend s kind body piece).sprint = s.sprint ∧
    (twinSend s kind body piece).ports = s.ports ∧ (twinSend s kind body piece).grid = s.grid ∧
    (twinSend s kind body piece).tile = s.tile ∧ (twinSend s kind body piece).att = s.att ∧
    (twinSend s kind body piece).tier = s.tier ∧ (twinSend s kind body piece).net = s.net ∧
    (twinSend s kind body piece).coll = s.coll ∧ (twinSend s kind body piece).host = s.host ∧
    (twinSend s kind body piece).crew = s.crew ∧ (twinSend s kind body piece).power = s.power ∧
    (twinSend s kind body piece).ud = s.ud ∧ (twinSend s kind body piece).back = s.back ∧
    (twinSend s kind body piece).now = s.now ∧ (twinSend s kind body piece).pending = s.pending := by
  simp only [twinSend]
  repeat' split
  all_goals simp

@[simp] theorem twinAlarm_frame (s : State) :
    (twinAlarm s).reg = s.reg ∧ (twinAlarm s).heat = s.heat ∧ (twinAlarm s).sprint = s.sprint ∧
    (twinAlarm s).ports = s.ports ∧ (twinAlarm s).grid = s.grid ∧ (twinAlarm s).tile = s.tile ∧
    (twinAlarm s).att = s.att ∧ (twinAlarm s).tier = s.tier ∧ (twinAlarm s).net = s.net ∧
    (twinAlarm s).links = s.links ∧ (twinAlarm s).coll = s.coll ∧
    (twinAlarm s).host.mem = s.host.mem ∧ (twinAlarm s).crew = s.crew ∧
    (twinAlarm s).power = s.power ∧ (twinAlarm s).twin = s.twin ∧ (twinAlarm s).ud = s.ud ∧
    (twinAlarm s).back = s.back ∧ (twinAlarm s).now = s.now ∧ (twinAlarm s).free = s.free ∧
    (twinAlarm s).pending = s.pending := by
  simp [twinAlarm]

@[simp] theorem sendUnit_frame (s : State) (area : Nat) (u : Nat) :
    (sendUnit s area u).regs = s.regs ∧ (sendUnit s area u).reg = s.reg ∧
    (sendUnit s area u).heat = s.heat ∧ (sendUnit s area u).sprint = s.sprint ∧
    (sendUnit s area u).ports = s.ports ∧ (sendUnit s area u).grid = s.grid ∧
    (sendUnit s area u).tile = s.tile ∧ (sendUnit s area u).att = s.att ∧
    (sendUnit s area u).tier = s.tier ∧ (sendUnit s area u).net = s.net ∧
    (sendUnit s area u).coll = s.coll ∧ (sendUnit s area u).host = s.host ∧
    (sendUnit s area u).crew = s.crew ∧ (sendUnit s area u).power = s.power ∧
    (sendUnit s area u).ud = s.ud ∧ (sendUnit s area u).back = s.back ∧
    (sendUnit s area u).now = s.now ∧ (sendUnit s area u).pending = s.pending := by
  simp [sendUnit]

@[simp] theorem tryReattach_frame (s : State) :
    (tryReattach s).regs = s.regs ∧ (tryReattach s).reg = s.reg ∧ (tryReattach s).heat = s.heat ∧
    (tryReattach s).sprint = s.sprint ∧ (tryReattach s).ports = s.ports ∧
    (tryReattach s).grid = s.grid ∧ (tryReattach s).tile = s.tile ∧ (tryReattach s).att = s.att ∧
    (tryReattach s).tier = s.tier ∧ (tryReattach s).net = s.net ∧
    (tryReattach s).links = s.links ∧ (tryReattach s).coll = s.coll ∧
    (tryReattach s).host = s.host ∧ (tryReattach s).crew = s.crew ∧
    (tryReattach s).power = s.power ∧ (tryReattach s).ud = s.ud ∧ (tryReattach s).back = s.back ∧
    (tryReattach s).now = s.now ∧ (tryReattach s).free = s.free ∧
    (tryReattach s).pending = s.pending := by
  simp [tryReattach]

@[simp] theorem twinPortUp_frame (s : State) :
    (twinPortUp s).regs = s.regs ∧ (twinPortUp s).reg = s.reg ∧ (twinPortUp s).heat = s.heat ∧
    (twinPortUp s).sprint = s.sprint ∧ (twinPortUp s).ports = s.ports ∧
    (twinPortUp s).grid = s.grid ∧ (twinPortUp s).tile = s.tile ∧ (twinPortUp s).att = s.att ∧
    (twinPortUp s).tier = s.tier ∧ (twinPortUp s).net = s.net ∧ (twinPortUp s).links = s.links ∧
    (twinPortUp s).coll = s.coll ∧ (twinPortUp s).host = s.host ∧ (twinPortUp s).crew = s.crew ∧
    (twinPortUp s).ud = s.ud ∧ (twinPortUp s).back = s.back ∧ (twinPortUp s).now = s.now ∧
    (twinPortUp s).free = s.free ∧ (twinPortUp s).pending = s.pending := by
  simp [twinPortUp]

@[simp] theorem twinStageDetached_frame (s : State) :
    (twinStageDetached s).regs = s.regs ∧ (twinStageDetached s).reg = s.reg ∧
    (twinStageDetached s).heat = s.heat ∧ (twinStageDetached s).sprint = s.sprint ∧
    (twinStageDetached s).ports = s.ports ∧ (twinStageDetached s).grid = s.grid ∧
    (twinStageDetached s).tile = s.tile ∧ (twinStageDetached s).att = s.att ∧
    (twinStageDetached s).tier = s.tier ∧ (twinStageDetached s).net = s.net ∧
    (twinStageDetached s).links = s.links ∧ (twinStageDetached s).coll = s.coll ∧
    (twinStageDetached s).host = s.host ∧ (twinStageDetached s).crew = s.crew ∧
    (twinStageDetached s).ud = s.ud ∧ (twinStageDetached s).back = s.back ∧
    (twinStageDetached s).now = s.now ∧ (twinStageDetached s).free = s.free ∧
    (twinStageDetached s).pending = s.pending := by
  simp [twinStageDetached]

end Sys2Proof.Machine
end

