-- ==== Sys2Proof/Laws/FrameLink.lean ====
section
/-!
SUPPORT. What the operations of Machine/Link.lean leave unchanged.
-/
namespace Sys2Proof.Machine
open Sys2Proof

@[simp] theorem feedResync_frame (s : State) (l : Nat) :
    (feedResync s l).regs = s.regs ∧ (feedResync s l).reg = s.reg ∧
    (feedResync s l).heat = s.heat ∧ (feedResync s l).sprint = s.sprint ∧
    (feedResync s l).ports = s.ports ∧ (feedResync s l).grid = s.grid ∧
    (feedResync s l).tile = s.tile ∧ (feedResync s l).att = s.att ∧
    (feedResync s l).tier = s.tier ∧ (feedResync s l).net = s.net ∧
    (feedResync s l).coll = s.coll ∧ (feedResync s l).host = s.host ∧
    (feedResync s l).crew = s.crew ∧ (feedResync s l).power = s.power ∧
    (feedResync s l).ud = s.ud ∧ (feedResync s l).back = s.back ∧ (feedResync s l).now = s.now ∧
    (feedResync s l).pending = s.pending := by
  simp only [feedResync]
  repeat' split
  all_goals simp

@[simp] theorem vc0Window_frame (s : State) :
    (vc0Window s).reg = s.reg ∧ (vc0Window s).heat = s.heat ∧ (vc0Window s).sprint = s.sprint ∧
    (vc0Window s).ports = s.ports ∧ (vc0Window s).grid = s.grid ∧ (vc0Window s).tile = s.tile ∧
    (vc0Window s).att = s.att ∧ (vc0Window s).tier = s.tier ∧ (vc0Window s).net = s.net ∧
    (vc0Window s).coll = s.coll ∧ (vc0Window s).host = s.host ∧ (vc0Window s).crew = s.crew ∧
    (vc0Window s).power = s.power ∧ (vc0Window s).twin = s.twin ∧ (vc0Window s).ud = s.ud ∧
    (vc0Window s).back = s.back ∧ (vc0Window s).now = s.now ∧ (vc0Window s).free = s.free ∧
    (vc0Window s).pending = s.pending := by
  simp [vc0Window]

@[simp] theorem edgeSwitch_frame (s : State) (l : Nat) (c : Nat) (p : HPkt) (n : Nat) :
    (edgeSwitch s l c p n).reg = s.reg ∧ (edgeSwitch s l c p n).heat = s.heat ∧
    (edgeSwitch s l c p n).sprint = s.sprint ∧ (edgeSwitch s l c p n).ports = s.ports ∧
    (edgeSwitch s l c p n).grid = s.grid ∧ (edgeSwitch s l c p n).tile = s.tile ∧
    (edgeSwitch s l c p n).att = s.att ∧ (edgeSwitch s l c p n).tier = s.tier ∧
    (edgeSwitch s l c p n).coll = s.coll ∧ (edgeSwitch s l c p n).host = s.host ∧
    (edgeSwitch s l c p n).crew = s.crew ∧ (edgeSwitch s l c p n).power = s.power ∧
    (edgeSwitch s l c p n).twin = s.twin ∧ (edgeSwitch s l c p n).ud = s.ud ∧
    (edgeSwitch s l c p n).back = s.back ∧ (edgeSwitch s l c p n).now = s.now ∧
    (edgeSwitch s l c p n).free = s.free ∧ (edgeSwitch s l c p n).pending = s.pending := by
  simp only [edgeSwitch]
  repeat' split
  all_goals simp

@[simp] theorem deliverChannel_frame (s : State) (l : Nat) (c : Nat) :
    (deliverChannel s l c).reg = s.reg ∧ (deliverChannel s l c).heat = s.heat ∧
    (deliverChannel s l c).sprint = s.sprint ∧ (deliverChannel s l c).ports = s.ports ∧
    (deliverChannel s l c).grid = s.grid ∧ (deliverChannel s l c).tile = s.tile ∧
    (deliverChannel s l c).att = s.att ∧ (deliverChannel s l c).tier = s.tier ∧
    (deliverChannel s l c).coll = s.coll ∧ (deliverChannel s l c).host = s.host ∧
    (deliverChannel s l c).crew = s.crew ∧ (deliverChannel s l c).power = s.power ∧
    (deliverChannel s l c).twin = s.twin ∧ (deliverChannel s l c).ud = s.ud ∧
    (deliverChannel s l c).back = s.back ∧ (deliverChannel s l c).now = s.now ∧
    (deliverChannel s l c).free = s.free ∧ (deliverChannel s l c).pending = s.pending := by
  simp [deliverChannel]

@[simp] theorem takeAck_frame (s : State) (l : Nat) (k : Link) (bytes : List Byte) :
    (takeAck s l k bytes).1.reg = s.reg ∧ (takeAck s l k bytes).1.heat = s.heat ∧
    (takeAck s l k bytes).1.sprint = s.sprint ∧ (takeAck s l k bytes).1.ports = s.ports ∧
    (takeAck s l k bytes).1.grid = s.grid ∧ (takeAck s l k bytes).1.tile = s.tile ∧
    (takeAck s l k bytes).1.att = s.att ∧ (takeAck s l k bytes).1.tier = s.tier ∧
    (takeAck s l k bytes).1.net = s.net ∧ (takeAck s l k bytes).1.links = s.links ∧
    (takeAck s l k bytes).1.coll = s.coll ∧ (takeAck s l k bytes).1.host = s.host ∧
    (takeAck s l k bytes).1.crew = s.crew ∧ (takeAck s l k bytes).1.power = s.power ∧
    (takeAck s l k bytes).1.twin = s.twin ∧ (takeAck s l k bytes).1.ud = s.ud ∧
    (takeAck s l k bytes).1.back = s.back ∧ (takeAck s l k bytes).1.now = s.now ∧
    (takeAck s l k bytes).1.free = s.free ∧ (takeAck s l k bytes).1.pending = s.pending := by
  simp only [takeAck]
  repeat' split
  all_goals simp

@[simp] theorem heatNext_frame (s : State) :
    (heatNext s).regs = s.regs ∧ (heatNext s).reg = s.reg ∧ (heatNext s).heat.num = s.heat.num ∧
    (heatNext s).sprint = s.sprint ∧ (heatNext s).ports = s.ports ∧ (heatNext s).grid = s.grid ∧
    (heatNext s).tile = s.tile ∧ (heatNext s).att = s.att ∧ (heatNext s).tier = s.tier ∧
    (heatNext s).net = s.net ∧ (heatNext s).links = s.links ∧ (heatNext s).coll = s.coll ∧
    (heatNext s).host = s.host ∧ (heatNext s).crew = s.crew ∧ (heatNext s).power = s.power ∧
    (heatNext s).twin = s.twin ∧ (heatNext s).ud = s.ud ∧ (heatNext s).back = s.back ∧
    (heatNext s).now = s.now ∧ (heatNext s).free = s.free ∧ (heatNext s).pending = s.pending := by
  simp [heatNext]

@[simp] theorem adoptHeat_frame (s : State) (f : Identity) :
    (adoptHeat s f).sprint.readout = s.sprint.readout ∧ (adoptHeat s f).ports = s.ports ∧
    (adoptHeat s f).grid = s.grid ∧ (adoptHeat s f).tile = s.tile ∧ (adoptHeat s f).att = s.att ∧
    (adoptHeat s f).tier = s.tier ∧ (adoptHeat s f).net = s.net ∧
    (adoptHeat s f).links = s.links ∧ (adoptHeat s f).coll = s.coll ∧
    (adoptHeat s f).host.mem = s.host.mem ∧ (adoptHeat s f).crew = s.crew ∧
    (adoptHeat s f).power = s.power ∧ (adoptHeat s f).twin = s.twin ∧
    (adoptHeat s f).ud.vcount = s.ud.vcount ∧ (adoptHeat s f).ud.staging = s.ud.staging ∧
    (adoptHeat s f).back = s.back ∧ (adoptHeat s f).now = s.now ∧ (adoptHeat s f).free = s.free ∧
    (adoptHeat s f).pending = s.pending := by
  simp [adoptHeat]

end Sys2Proof.Machine
end

