-- ==== Sys2Proof/Laws/FrameSprintOps.lean ====
section
/-!
SUPPORT. What the operations of Machine/SprintOps.lean leave unchanged.
-/
namespace Sys2Proof.Machine
open Sys2Proof

@[simp] theorem setMod_frame (s : State) (g : Nat) (f : GroupSet → GroupSet) :
    (setMod s g f).regs = s.regs ∧ (setMod s g f).reg = s.reg ∧ (setMod s g f).heat = s.heat ∧
    (setMod s g f).sprint.readout = s.sprint.readout ∧ (setMod s g f).ports = s.ports ∧
    (setMod s g f).grid = s.grid ∧ (setMod s g f).tile = s.tile ∧ (setMod s g f).att = s.att ∧
    (setMod s g f).tier = s.tier ∧ (setMod s g f).net = s.net ∧ (setMod s g f).links = s.links ∧
    (setMod s g f).coll = s.coll ∧ (setMod s g f).host = s.host ∧ (setMod s g f).crew = s.crew ∧
    (setMod s g f).power = s.power ∧ (setMod s g f).twin = s.twin ∧ (setMod s g f).ud = s.ud ∧
    (setMod s g f).back = s.back ∧ (setMod s g f).now = s.now ∧ (setMod s g f).free = s.free ∧
    (setMod s g f).pending = s.pending := by
  simp [setMod]

@[simp] theorem exchangeSet_frame (s : State) (g : Nat) (heat : Nat) (last : Time) :
    (exchangeSet s g heat last).reg = s.reg ∧ (exchangeSet s g heat last).heat = s.heat ∧
    (exchangeSet s g heat last).sprint.readout = s.sprint.readout ∧
    (exchangeSet s g heat last).ports = s.ports ∧ (exchangeSet s g heat last).grid = s.grid ∧
    (exchangeSet s g heat last).tile = s.tile ∧ (exchangeSet s g heat last).att = s.att ∧
    (exchangeSet s g heat last).tier = s.tier ∧ (exchangeSet s g heat last).net = s.net ∧
    (exchangeSet s g heat last).links = s.links ∧ (exchangeSet s g heat last).coll = s.coll ∧
    (exchangeSet s g heat last).host = s.host ∧ (exchangeSet s g heat last).crew = s.crew ∧
    (exchangeSet s g heat last).power = s.power ∧ (exchangeSet s g heat last).twin = s.twin ∧
    (exchangeSet s g heat last).ud = s.ud ∧ (exchangeSet s g heat last).back = s.back ∧
    (exchangeSet s g heat last).now = s.now ∧ (exchangeSet s g heat last).free = s.free ∧
    (exchangeSet s g heat last).pending = s.pending := by
  simp [exchangeSet]

end Sys2Proof.Machine
end

