-- ==== Sys2Proof/Laws/FrameBack.lean ====
section
/-!
SUPPORT. What the operations of Machine/Back.lean leave unchanged.
-/
namespace Sys2Proof.Machine
open Sys2Proof

@[simp] theorem slotTaken_frame (s : State) (a : Nat) (u : Nat) (t : Time) :
    (slotTaken s a u t).regs = s.regs ∧ (slotTaken s a u t).reg = s.reg ∧
    (slotTaken s a u t).heat = s.heat ∧ (slotTaken s a u t).sprint = s.sprint ∧
    (slotTaken s a u t).ports = s.ports ∧ (slotTaken s a u t).grid = s.grid ∧
    (slotTaken s a u t).tile = s.tile ∧ (slotTaken s a u t).att = s.att ∧
    (slotTaken s a u t).tier = s.tier ∧ (slotTaken s a u t).net = s.net ∧
    (slotTaken s a u t).links = s.links ∧ (slotTaken s a u t).coll = s.coll ∧
    (slotTaken s a u t).host = s.host ∧ (slotTaken s a u t).crew = s.crew ∧
    (slotTaken s a u t).power = s.power ∧ (slotTaken s a u t).twin = s.twin ∧
    (slotTaken s a u t).ud = s.ud ∧ (slotTaken s a u t).free = s.free ∧
    (slotTaken s a u t).pending = s.pending := by
  simp only [slotTaken]
  repeat' split
  all_goals simp

@[simp] theorem scrubFinds_frame (s : State) (a : Nat) :
    (scrubFinds s a).heat = s.heat ∧ (scrubFinds s a).sprint.readout = s.sprint.readout ∧
    (scrubFinds s a).ports = s.ports ∧ (scrubFinds s a).grid = s.grid ∧
    (scrubFinds s a).tile = s.tile ∧ (scrubFinds s a).att = s.att ∧
    (scrubFinds s a).tier.data = s.tier.data ∧ (scrubFinds s a).net = s.net ∧
    (scrubFinds s a).links = s.links ∧ (scrubFinds s a).coll = s.coll ∧
    (scrubFinds s a).host.mem = s.host.mem ∧ (scrubFinds s a).crew = s.crew ∧
    (scrubFinds s a).power = s.power ∧ (scrubFinds s a).twin = s.twin ∧
    (scrubFinds s a).ud.vcount = s.ud.vcount ∧ (scrubFinds s a).ud.staging = s.ud.staging ∧
    (scrubFinds s a).back = s.back ∧ (scrubFinds s a).now = s.now ∧
    (scrubFinds s a).free = s.free ∧ (scrubFinds s a).pending = s.pending := by
  simp only [scrubFinds]
  repeat' split
  all_goals simp

end Sys2Proof.Machine
end

