-- ==== Sys2Proof/Laws/FrameNet.lean ====
section
/-!
SUPPORT. What the operations of Machine/Net.lean leave unchanged.
-/
namespace Sys2Proof.Machine
open Sys2Proof

@[simp] theorem probeTrace_frame (s : State) (die : Nat) (p : Nat) (h : List Byte) :
    (probeTrace s die p h).reg = s.reg ∧ (probeTrace s die p h).heat = s.heat ∧
    (probeTrace s die p h).sprint = s.sprint ∧ (probeTrace s die p h).ports = s.ports ∧
    (probeTrace s die p h).grid = s.grid ∧ (probeTrace s die p h).tile = s.tile ∧
    (probeTrace s die p h).att = s.att ∧ (probeTrace s die p h).tier = s.tier ∧
    (probeTrace s die p h).links = s.links ∧ (probeTrace s die p h).coll = s.coll ∧
    (probeTrace s die p h).host = s.host ∧ (probeTrace s die p h).crew = s.crew ∧
    (probeTrace s die p h).power = s.power ∧ (probeTrace s die p h).twin = s.twin ∧
    (probeTrace s die p h).ud = s.ud ∧ (probeTrace s die p h).back = s.back ∧
    (probeTrace s die p h).now = s.now ∧ (probeTrace s die p h).free = s.free ∧
    (probeTrace s die p h).pending = s.pending := by
  simp only [probeTrace]
  repeat' split
  all_goals simp

@[simp] theorem probes_frame (s : State) (die : Nat) (port : Nat) (p : Pkt) :
    (probes s die port p).reg = s.reg ∧ (probes s die port p).heat = s.heat ∧
    (probes s die port p).sprint = s.sprint ∧ (probes s die port p).ports = s.ports ∧
    (probes s die port p).grid = s.grid ∧ (probes s die port p).tile = s.tile ∧
    (probes s die port p).att = s.att ∧ (probes s die port p).tier = s.tier ∧
    (probes s die port p).links = s.links ∧ (probes s die port p).coll = s.coll ∧
    (probes s die port p).host = s.host ∧ (probes s die port p).crew = s.crew ∧
    (probes s die port p).power = s.power ∧ (probes s die port p).twin = s.twin ∧
    (probes s die port p).ud = s.ud ∧ (probes s die port p).back = s.back ∧
    (probes s die port p).now = s.now ∧ (probes s die port p).free = s.free ∧
    (probes s die port p).pending = s.pending := by
  simp [probes]

@[simp] theorem entryLost_frame (s : State) (shells : List Nat) (status : Nat) (code : Nat) :
    (entryLost s shells status code).reg = s.reg ∧
    (entryLost s shells status code).heat = s.heat ∧
    (entryLost s shells status code).sprint = s.sprint ∧
    (entryLost s shells status code).ports = s.ports ∧
    (entryLost s shells status code).grid.scratch = s.grid.scratch ∧
    (entryLost s shells status code).tile = s.tile ∧
    (entryLost s shells status code).att = s.att ∧
    (entryLost s shells status code).tier.data = s.tier.data ∧
    (entryLost s shells status code).links = s.links ∧
    (entryLost s shells status code).coll = s.coll ∧
    (entryLost s shells status code).host.mem = s.host.mem ∧
    (entryLost s shells status code).crew = s.crew ∧
    (entryLost s shells status code).power = s.power ∧
    (entryLost s shells status code).twin = s.twin ∧ (entryLost s shells status code).ud = s.ud ∧
    (entryLost s shells status code).back = s.back ∧
    (entryLost s shells status code).now = s.now ∧
    (entryLost s shells status code).free = s.free ∧
    (entryLost s shells status code).pending = s.pending := by
  simp [entryLost]

@[simp] theorem pktLost_frame (s : State) (die : Nat) (p : Pkt) (shells : List Nat) :
    (pktLost s die p shells).reg = s.reg ∧ (pktLost s die p shells).heat = s.heat ∧
    (pktLost s die p shells).sprint = s.sprint ∧ (pktLost s die p shells).ports = s.ports ∧
    (pktLost s die p shells).grid.scratch = s.grid.scratch ∧
    (pktLost s die p shells).tile = s.tile ∧ (pktLost s die p shells).att = s.att ∧
    (pktLost s die p shells).tier.data = s.tier.data ∧ (pktLost s die p shells).links = s.links ∧
    (pktLost s die p shells).coll = s.coll ∧ (pktLost s die p shells).host.mem = s.host.mem ∧
    (pktLost s die p shells).crew = s.crew ∧ (pktLost s die p shells).power = s.power ∧
    (pktLost s die p shells).twin = s.twin ∧ (pktLost s die p shells).ud = s.ud ∧
    (pktLost s die p shells).back = s.back ∧ (pktLost s die p shells).now = s.now ∧
    (pktLost s die p shells).free = s.free ∧ (pktLost s die p shells).pending = s.pending := by
  simp [pktLost]

@[simp] theorem routeErr_frame (s : State) (die : Nat) (p : Pkt) :
    (routeErr s die p).reg = s.reg ∧ (routeErr s die p).heat = s.heat ∧
    (routeErr s die p).sprint = s.sprint ∧ (routeErr s die p).ports = s.ports ∧
    (routeErr s die p).grid.scratch = s.grid.scratch ∧ (routeErr s die p).tile = s.tile ∧
    (routeErr s die p).att = s.att ∧ (routeErr s die p).tier.data = s.tier.data ∧
    (routeErr s die p).links = s.links ∧ (routeErr s die p).coll = s.coll ∧
    (routeErr s die p).host.mem = s.host.mem ∧ (routeErr s die p).crew = s.crew ∧
    (routeErr s die p).power = s.power ∧ (routeErr s die p).twin = s.twin ∧
    (routeErr s die p).ud = s.ud ∧ (routeErr s die p).back = s.back ∧
    (routeErr s die p).now = s.now ∧ (routeErr s die p).free = s.free ∧
    (routeErr s die p).pending = s.pending := by
  simp [routeErr]

@[simp] theorem popQ_frame (s : State) (q : Nat) :
    (popQ s q).regs = s.regs ∧ (popQ s q).reg = s.reg ∧ (popQ s q).heat = s.heat ∧
    (popQ s q).sprint = s.sprint ∧ (popQ s q).ports = s.ports ∧ (popQ s q).grid = s.grid ∧
    (popQ s q).tile = s.tile ∧ (popQ s q).att = s.att ∧ (popQ s q).tier = s.tier ∧
    (popQ s q).links = s.links ∧ (popQ s q).coll = s.coll ∧ (popQ s q).host = s.host ∧
    (popQ s q).crew = s.crew ∧ (popQ s q).power = s.power ∧ (popQ s q).twin = s.twin ∧
    (popQ s q).ud = s.ud ∧ (popQ s q).back = s.back ∧ (popQ s q).now = s.now ∧
    (popQ s q).free = s.free ∧ (popQ s q).pending = s.pending := by
  simp [popQ]

@[simp] theorem takeFree_frame (s : State) (q : Nat) (p : Pkt) :
    (takeFree s q p).regs = s.regs ∧ (takeFree s q p).reg = s.reg ∧
    (takeFree s q p).heat = s.heat ∧ (takeFree s q p).sprint = s.sprint ∧
    (takeFree s q p).ports = s.ports ∧ (takeFree s q p).grid = s.grid ∧
    (takeFree s q p).tile = s.tile ∧ (takeFree s q p).att = s.att ∧
    (takeFree s q p).tier = s.tier ∧ (takeFree s q p).links = s.links ∧
    (takeFree s q p).coll = s.coll ∧ (takeFree s q p).host = s.host ∧
    (takeFree s q p).crew = s.crew ∧ (takeFree s q p).power = s.power ∧
    (takeFree s q p).twin = s.twin ∧ (takeFree s q p).ud = s.ud ∧ (takeFree s q p).back = s.back ∧
    (takeFree s q p).now = s.now ∧ (takeFree s q p).free = s.free ∧
    (takeFree s q p).pending = s.pending := by
  simp [takeFree]

@[simp] theorem deliver_frame (s : State) (p : Pkt) :
    (deliver s p).regs = s.regs ∧ (deliver s p).reg = s.reg ∧ (deliver s p).heat = s.heat ∧
    (deliver s p).sprint = s.sprint ∧ (deliver s p).ports = s.ports ∧
    (deliver s p).grid = s.grid ∧ (deliver s p).tile = s.tile ∧ (deliver s p).att = s.att ∧
    (deliver s p).tier = s.tier ∧ (deliver s p).links = s.links ∧ (deliver s p).coll = s.coll ∧
    (deliver s p).host = s.host ∧ (deliver s p).crew = s.crew ∧ (deliver s p).power = s.power ∧
    (deliver s p).twin = s.twin ∧ (deliver s p).ud = s.ud ∧ (deliver s p).back = s.back ∧
    (deliver s p).now = s.now ∧ (deliver s p).free = s.free ∧ (deliver s p).pending = s.pending := by
  simp [deliver]

@[simp] theorem meshPut_frame (s : State) (die : Nat) (r : Nat) (p : Pkt) (d : Nat) :
    (meshPut s die r p d).reg = s.reg ∧ (meshPut s die r p d).heat = s.heat ∧
    (meshPut s die r p d).sprint = s.sprint ∧ (meshPut s die r p d).ports = s.ports ∧
    (meshPut s die r p d).grid = s.grid ∧ (meshPut s die r p d).tile = s.tile ∧
    (meshPut s die r p d).att = s.att ∧ (meshPut s die r p d).tier = s.tier ∧
    (meshPut s die r p d).links = s.links ∧ (meshPut s die r p d).coll = s.coll ∧
    (meshPut s die r p d).host = s.host ∧ (meshPut s die r p d).crew = s.crew ∧
    (meshPut s die r p d).power = s.power ∧ (meshPut s die r p d).twin = s.twin ∧
    (meshPut s die r p d).ud = s.ud ∧ (meshPut s die r p d).back = s.back ∧
    (meshPut s die r p d).now = s.now ∧ (meshPut s die r p d).free = s.free ∧
    (meshPut s die r p d).pending = s.pending := by
  simp [meshPut]

@[simp] theorem takeShare_frame (s : State) (out : Nat) (vc : Nat) (n : Nat) :
    (takeShare s out vc n).regs = s.regs ∧ (takeShare s out vc n).reg = s.reg ∧
    (takeShare s out vc n).heat = s.heat ∧ (takeShare s out vc n).sprint = s.sprint ∧
    (takeShare s out vc n).ports = s.ports ∧ (takeShare s out vc n).grid = s.grid ∧
    (takeShare s out vc n).tile = s.tile ∧ (takeShare s out vc n).att = s.att ∧
    (takeShare s out vc n).tier = s.tier ∧ (takeShare s out vc n).links = s.links ∧
    (takeShare s out vc n).coll = s.coll ∧ (takeShare s out vc n).host = s.host ∧
    (takeShare s out vc n).crew = s.crew ∧ (takeShare s out vc n).power = s.power ∧
    (takeShare s out vc n).twin = s.twin ∧ (takeShare s out vc n).ud = s.ud ∧
    (takeShare s out vc n).back = s.back ∧ (takeShare s out vc n).now = s.now ∧
    (takeShare s out vc n).free = s.free ∧ (takeShare s out vc n).pending = s.pending := by
  simp [takeShare]

@[simp] theorem countEcc_frame (s : State) (die : Nat) (ecc : Nat) :
    (countEcc s die ecc).reg = s.reg ∧ (countEcc s die ecc).heat = s.heat ∧
    (countEcc s die ecc).sprint = s.sprint ∧ (countEcc s die ecc).ports = s.ports ∧
    (countEcc s die ecc).grid = s.grid ∧ (countEcc s die ecc).tile = s.tile ∧
    (countEcc s die ecc).att = s.att ∧ (countEcc s die ecc).tier = s.tier ∧
    (countEcc s die ecc).net = s.net ∧ (countEcc s die ecc).links = s.links ∧
    (countEcc s die ecc).coll = s.coll ∧ (countEcc s die ecc).host = s.host ∧
    (countEcc s die ecc).crew = s.crew ∧ (countEcc s die ecc).power = s.power ∧
    (countEcc s die ecc).twin = s.twin ∧ (countEcc s die ecc).ud = s.ud ∧
    (countEcc s die ecc).back = s.back ∧ (countEcc s die ecc).now = s.now ∧
    (countEcc s die ecc).free = s.free ∧ (countEcc s die ecc).pending = s.pending := by
  simp [countEcc]

@[simp] theorem assertWake_frame (s : State) (k : Nat) (q : Nat) :
    (assertWake s k q).reg = s.reg ∧ (assertWake s k q).heat = s.heat ∧
    (assertWake s k q).sprint = s.sprint ∧ (assertWake s k q).ports = s.ports ∧
    (assertWake s k q).grid.scratch = s.grid.scratch ∧ (assertWake s k q).tile = s.tile ∧
    (assertWake s k q).att = s.att ∧ (assertWake s k q).tier = s.tier ∧
    (assertWake s k q).links = s.links ∧ (assertWake s k q).coll = s.coll ∧
    (assertWake s k q).host = s.host ∧ (assertWake s k q).crew = s.crew ∧
    (assertWake s k q).power = s.power ∧ (assertWake s k q).twin = s.twin ∧
    (assertWake s k q).ud = s.ud ∧ (assertWake s k q).back = s.back ∧
    (assertWake s k q).now = s.now ∧ (assertWake s k q).free = s.free ∧
    (assertWake s k q).pending = s.pending := by
  simp [assertWake]

@[simp] theorem unitOff_frame (s : State) (die : Nat) (p : Pkt) :
    (unitOff s die p).reg = s.reg ∧ (unitOff s die p).heat = s.heat ∧
    (unitOff s die p).sprint = s.sprint ∧ (unitOff s die p).ports = s.ports ∧
    (unitOff s die p).grid.scratch = s.grid.scratch ∧ (unitOff s die p).tile = s.tile ∧
    (unitOff s die p).att = s.att ∧ (unitOff s die p).tier.data = s.tier.data ∧
    (unitOff s die p).links = s.links ∧ (unitOff s die p).coll = s.coll ∧
    (unitOff s die p).host.mem = s.host.mem ∧ (unitOff s die p).crew = s.crew ∧
    (unitOff s die p).power = s.power ∧ (unitOff s die p).twin = s.twin ∧
    (unitOff s die p).ud = s.ud ∧ (unitOff s die p).back = s.back ∧
    (unitOff s die p).now = s.now ∧ (unitOff s die p).free = s.free ∧
    (unitOff s die p).pending = s.pending := by
  simp [unitOff]

@[simp] theorem stationHop_frame (s : State) (die : Nat) (fromMesh : Bool) (vc : Nat) (ecc : Nat) :
    (stationHop s die fromMesh vc ecc).reg = s.reg ∧
    (stationHop s die fromMesh vc ecc).heat = s.heat ∧
    (stationHop s die fromMesh vc ecc).sprint = s.sprint ∧
    (stationHop s die fromMesh vc ecc).ports = s.ports ∧
    (stationHop s die fromMesh vc ecc).grid.scratch = s.grid.scratch ∧
    (stationHop s die fromMesh vc ecc).tile = s.tile ∧
    (stationHop s die fromMesh vc ecc).att = s.att ∧
    (stationHop s die fromMesh vc ecc).tier.data = s.tier.data ∧
    (stationHop s die fromMesh vc ecc).coll = s.coll ∧
    (stationHop s die fromMesh vc ecc).host.mem = s.host.mem ∧
    (stationHop s die fromMesh vc ecc).crew = s.crew ∧
    (stationHop s die fromMesh vc ecc).power = s.power ∧
    (stationHop s die fromMesh vc ecc).twin = s.twin ∧
    (stationHop s die fromMesh vc ecc).ud = s.ud ∧
    (stationHop s die fromMesh vc ecc).back = s.back ∧
    (stationHop s die fromMesh vc ecc).now = s.now ∧
    (stationHop s die fromMesh vc ecc).free = s.free ∧
    (stationHop s die fromMesh vc ecc).pending = s.pending := by
  simp only [stationHop]
  repeat' split
  all_goals simp

@[simp] theorem meshMove_frame (s : State) (die : Nat) (router : Nat) (q : Nat) (p : Pkt) (ds : List Nat) :
    (meshMove s die router q p ds).reg = s.reg ∧ (meshMove s die router q p ds).heat = s.heat ∧
    (meshMove s die router q p ds).sprint = s.sprint ∧
    (meshMove s die router q p ds).ports = s.ports ∧
    (meshMove s die router q p ds).grid = s.grid ∧ (meshMove s die router q p ds).tile = s.tile ∧
    (meshMove s die router q p ds).att = s.att ∧ (meshMove s die router q p ds).tier = s.tier ∧
    (meshMove s die router q p ds).links = s.links ∧
    (meshMove s die router q p ds).coll = s.coll ∧ (meshMove s die router q p ds).host = s.host ∧
    (meshMove s die router q p ds).crew = s.crew ∧
    (meshMove s die router q p ds).power = s.power ∧
    (meshMove s die router q p ds).twin = s.twin ∧ (meshMove s die router q p ds).ud = s.ud ∧
    (meshMove s die router q p ds).back = s.back ∧ (meshMove s die router q p ds).now = s.now ∧
    (meshMove s die router q p ds).free = s.free ∧
    (meshMove s die router q p ds).pending = s.pending := by
  simp [meshMove]

@[simp] theorem stationArrive_frame (s : State) (stop : Nat) (p : Pkt) :
    (stationArrive s stop p).reg = s.reg ∧ (stationArrive s stop p).heat = s.heat ∧
    (stationArrive s stop p).sprint = s.sprint ∧ (stationArrive s stop p).ports = s.ports ∧
    (stationArrive s stop p).grid = s.grid ∧ (stationArrive s stop p).tile = s.tile ∧
    (stationArrive s stop p).att = s.att ∧ (stationArrive s stop p).tier = s.tier ∧
    (stationArrive s stop p).links = s.links ∧ (stationArrive s stop p).coll = s.coll ∧
    (stationArrive s stop p).host = s.host ∧ (stationArrive s stop p).crew = s.crew ∧
    (stationArrive s stop p).power = s.power ∧ (stationArrive s stop p).twin = s.twin ∧
    (stationArrive s stop p).ud = s.ud ∧ (stationArrive s stop p).back = s.back ∧
    (stationArrive s stop p).now = s.now ∧ (stationArrive s stop p).free = s.free ∧
    (stationArrive s stop p).pending = s.pending := by
  simp only [stationArrive]
  repeat' split
  all_goals simp

@[simp] theorem pumpEntry_frame (s : State) (q : Nat) :
    (pumpEntry s q).regs = s.regs ∧ (pumpEntry s q).reg = s.reg ∧ (pumpEntry s q).heat = s.heat ∧
    (pumpEntry s q).sprint = s.sprint ∧ (pumpEntry s q).ports = s.ports ∧
    (pumpEntry s q).grid.scratch = s.grid.scratch ∧ (pumpEntry s q).tile = s.tile ∧
    (pumpEntry s q).att = s.att ∧ (pumpEntry s q).tier = s.tier ∧
    (pumpEntry s q).links = s.links ∧ (pumpEntry s q).coll = s.coll ∧
    (pumpEntry s q).host = s.host ∧ (pumpEntry s q).crew = s.crew ∧
    (pumpEntry s q).power = s.power ∧ (pumpEntry s q).twin = s.twin ∧ (pumpEntry s q).ud = s.ud ∧
    (pumpEntry s q).back = s.back ∧ (pumpEntry s q).now = s.now ∧ (pumpEntry s q).free = s.free ∧
    (pumpEntry s q).pending = s.pending := by
  simp [pumpEntry]

@[simp] theorem takePkt_frame (s : State) (p : Pkt) :
    (takePkt s p).regs = s.regs ∧ (takePkt s p).reg = s.reg ∧ (takePkt s p).heat = s.heat ∧
    (takePkt s p).sprint = s.sprint ∧ (takePkt s p).ports = s.ports ∧
    (takePkt s p).grid = s.grid ∧ (takePkt s p).tile = s.tile ∧ (takePkt s p).att = s.att ∧
    (takePkt s p).tier = s.tier ∧ (takePkt s p).links = s.links ∧ (takePkt s p).coll = s.coll ∧
    (takePkt s p).host = s.host ∧ (takePkt s p).crew = s.crew ∧ (takePkt s p).power = s.power ∧
    (takePkt s p).twin = s.twin ∧ (takePkt s p).ud = s.ud ∧ (takePkt s p).back = s.back ∧
    (takePkt s p).now = s.now ∧ (takePkt s p).free = s.free ∧ (takePkt s p).pending = s.pending := by
  simp [takePkt]

@[simp] theorem countViolation_frame (s : State) :
    (countViolation s).reg = s.reg ∧ (countViolation s).heat = s.heat ∧
    (countViolation s).sprint = s.sprint ∧ (countViolation s).ports = s.ports ∧
    (countViolation s).grid = s.grid ∧ (countViolation s).tile = s.tile ∧
    (countViolation s).att = s.att ∧ (countViolation s).tier = s.tier ∧
    (countViolation s).net = s.net ∧ (countViolation s).links = s.links ∧
    (countViolation s).coll = s.coll ∧ (countViolation s).host = s.host ∧
    (countViolation s).crew = s.crew ∧ (countViolation s).power = s.power ∧
    (countViolation s).twin = s.twin ∧ (countViolation s).ud = s.ud ∧
    (countViolation s).back = s.back ∧ (countViolation s).now = s.now ∧
    (countViolation s).free = s.free ∧ (countViolation s).pending = s.pending := by
  simp [countViolation]

@[simp] theorem entryAt_frame (s : State) (p : Pkt) (e : QEntry) :
    (entryAt s p e).heat = s.heat ∧ (entryAt s p e).sprint.readout = s.sprint.readout ∧
    (entryAt s p e).ports = s.ports ∧ (entryAt s p e).grid.scratch = s.grid.scratch ∧
    (entryAt s p e).tile = s.tile ∧ (entryAt s p e).att = s.att ∧
    (entryAt s p e).tier.data = s.tier.data ∧ (entryAt s p e).net = s.net ∧
    (entryAt s p e).links = s.links ∧ (entryAt s p e).coll = s.coll ∧
    (entryAt s p e).host.mem = s.host.mem ∧ (entryAt s p e).crew = s.crew ∧
    (entryAt s p e).power = s.power ∧ (entryAt s p e).twin = s.twin ∧
    (entryAt s p e).ud.vcount = s.ud.vcount ∧ (entryAt s p e).ud.staging = s.ud.staging ∧
    (entryAt s p e).back = s.back ∧ (entryAt s p e).now = s.now ∧ (entryAt s p e).free = s.free ∧
    (entryAt s p e).pending = s.pending := by
  simp [entryAt]

@[simp] theorem issueReq_frame (s : State) (p : Pkt) (slot : Option Nat) :
    (issueReq s p slot).regs = s.regs ∧ (issueReq s p slot).reg = s.reg ∧
    (issueReq s p slot).heat = s.heat ∧ (issueReq s p slot).sprint = s.sprint ∧
    (issueReq s p slot).ports = s.ports ∧ (issueReq s p slot).grid = s.grid ∧
    (issueReq s p slot).tile = s.tile ∧ (issueReq s p slot).att = s.att ∧
    (issueReq s p slot).tier = s.tier ∧ (issueReq s p slot).links = s.links ∧
    (issueReq s p slot).coll = s.coll ∧ (issueReq s p slot).host = s.host ∧
    (issueReq s p slot).crew = s.crew ∧ (issueReq s p slot).power = s.power ∧
    (issueReq s p slot).twin = s.twin ∧ (issueReq s p slot).ud = s.ud ∧
    (issueReq s p slot).back = s.back ∧ (issueReq s p slot).now = s.now ∧
    (issueReq s p slot).free = s.free ∧ (issueReq s p slot).pending = s.pending := by
  simp [issueReq]

@[simp] theorem respond_frame (s : State) (p : Pkt) (cmd : Nat) (data : List Byte) :
    (respond s p cmd data).regs = s.regs ∧ (respond s p cmd data).reg = s.reg ∧
    (respond s p cmd data).heat = s.heat ∧ (respond s p cmd data).sprint = s.sprint ∧
    (respond s p cmd data).ports = s.ports ∧ (respond s p cmd data).grid = s.grid ∧
    (respond s p cmd data).tile = s.tile ∧ (respond s p cmd data).att = s.att ∧
    (respond s p cmd data).tier = s.tier ∧ (respond s p cmd data).links = s.links ∧
    (respond s p cmd data).coll = s.coll ∧ (respond s p cmd data).host = s.host ∧
    (respond s p cmd data).crew = s.crew ∧ (respond s p cmd data).power = s.power ∧
    (respond s p cmd data).twin = s.twin ∧ (respond s p cmd data).ud = s.ud ∧
    (respond s p cmd data).back = s.back ∧ (respond s p cmd data).now = s.now ∧
    (respond s p cmd data).free = s.free ∧ (respond s p cmd data).pending = s.pending := by
  simp [respond]

@[simp] theorem netClear_frame (s : State) (n : Nat) :
    (netClear s n).reg = s.reg ∧ (netClear s n).heat = s.heat ∧ (netClear s n).sprint = s.sprint ∧
    (netClear s n).ports = s.ports ∧ (netClear s n).grid = s.grid ∧ (netClear s n).tile = s.tile ∧
    (netClear s n).att = s.att ∧ (netClear s n).tier = s.tier ∧ (netClear s n).links = s.links ∧
    (netClear s n).coll = s.coll ∧ (netClear s n).host = s.host ∧ (netClear s n).crew = s.crew ∧
    (netClear s n).power = s.power ∧ (netClear s n).twin = s.twin ∧ (netClear s n).ud = s.ud ∧
    (netClear s n).back = s.back ∧ (netClear s n).now = s.now ∧ (netClear s n).free = s.free ∧
    (netClear s n).pending = s.pending := by
  simp [netClear]

end Sys2Proof.Machine
end

