-- ==== Sys2Proof/Laws/FrameAttnOps.lean ====
section
/-!
SUPPORT. What the operations of Machine/AttnOps.lean leave unchanged.
-/
namespace Sys2Proof.Machine
open Sys2Proof

@[simp] theorem closeStreams_frame (s : State) :
    (closeStreams s).regs = s.regs ∧ (closeStreams s).reg = s.reg ∧
    (closeStreams s).heat = s.heat ∧ (closeStreams s).sprint = s.sprint ∧
    (closeStreams s).ports = s.ports ∧ (closeStreams s).grid = s.grid ∧
    (closeStreams s).tile = s.tile ∧ (closeStreams s).att = s.att ∧
    (closeStreams s).tier.data = s.tier.data ∧ (closeStreams s).net = s.net ∧
    (closeStreams s).links = s.links ∧ (closeStreams s).coll = s.coll ∧
    (closeStreams s).host.mem = s.host.mem ∧ (closeStreams s).crew = s.crew ∧
    (closeStreams s).power = s.power ∧ (closeStreams s).twin = s.twin ∧
    (closeStreams s).ud = s.ud ∧ (closeStreams s).back = s.back ∧ (closeStreams s).now = s.now ∧
    (closeStreams s).free = s.free ∧ (closeStreams s).pending = s.pending := by
  simp only [closeStreams]
  refine ⟨foldl_regs ?_ _ _, foldl_reg ?_ _ _, foldl_heat ?_ _ _, foldl_sprint ?_ _ _,
    foldl_ports ?_ _ _, foldl_grid ?_ _ _, foldl_tile ?_ _ _, foldl_att ?_ _ _,
    foldl_tier_data ?_ _ _, foldl_net ?_ _ _, foldl_links ?_ _ _, foldl_coll ?_ _ _,
    foldl_host_mem ?_ _ _, foldl_crew ?_ _ _, foldl_power ?_ _ _, foldl_twin ?_ _ _,
    foldl_ud ?_ _ _, foldl_back ?_ _ _, foldl_now ?_ _ _, foldl_free ?_ _ _, foldl_pending ?_ _ _⟩
  all_goals (intro s q; repeat' split)
  all_goals simp

@[simp] theorem countSkips_frame (s : State) (die : Nat) (n : Nat) :
    (countSkips s die n).reg = s.reg ∧ (countSkips s die n).heat = s.heat ∧
    (countSkips s die n).sprint = s.sprint ∧ (countSkips s die n).ports = s.ports ∧
    (countSkips s die n).grid = s.grid ∧ (countSkips s die n).tile = s.tile ∧
    (countSkips s die n).att = s.att ∧ (countSkips s die n).tier = s.tier ∧
    (countSkips s die n).net = s.net ∧ (countSkips s die n).links = s.links ∧
    (countSkips s die n).coll = s.coll ∧ (countSkips s die n).host = s.host ∧
    (countSkips s die n).crew = s.crew ∧ (countSkips s die n).power = s.power ∧
    (countSkips s die n).twin = s.twin ∧ (countSkips s die n).ud = s.ud ∧
    (countSkips s die n).back = s.back ∧ (countSkips s die n).now = s.now ∧
    (countSkips s die n).free = s.free ∧ (countSkips s die n).pending = s.pending := by
  simp [countSkips]

end Sys2Proof.Machine
end

