-- ==== Sys2Proof/Laws/FrameAttn.lean ====
section
/-!
SUPPORT. What the operations of Machine/Attn.lean leave unchanged.
-/
namespace Sys2Proof.Machine
open Sys2Proof

@[simp] theorem attnSet_frame (s : State) (k : Nat) (l : AttnList) :
    (attnSet s k l).regs = s.regs ∧ (attnSet s k l).reg = s.reg ∧ (attnSet s k l).heat = s.heat ∧
    (attnSet s k l).sprint = s.sprint ∧ (attnSet s k l).ports = s.ports ∧
    (attnSet s k l).grid = s.grid ∧ (attnSet s k l).tile = s.tile ∧
    (attnSet s k l).tier = s.tier ∧ (attnSet s k l).net = s.net ∧
    (attnSet s k l).links = s.links ∧ (attnSet s k l).coll = s.coll ∧
    (attnSet s k l).host = s.host ∧ (attnSet s k l).crew = s.crew ∧
    (attnSet s k l).power = s.power ∧ (attnSet s k l).twin = s.twin ∧ (attnSet s k l).ud = s.ud ∧
    (attnSet s k l).back = s.back ∧ (attnSet s k l).now = s.now ∧ (attnSet s k l).free = s.free ∧
    (attnSet s k l).pending = s.pending := by
  simp only [attnSet]
  repeat' split
  all_goals simp

@[simp] theorem attnEnd_frame (s : State) (k : Nat) (l : AttnList) (code : Nat) (addr : Nat) :
    (attnEnd s k l code addr).reg = s.reg ∧ (attnEnd s k l code addr).heat = s.heat ∧
    (attnEnd s k l code addr).sprint = s.sprint ∧ (attnEnd s k l code addr).ports = s.ports ∧
    (attnEnd s k l code addr).grid = s.grid ∧ (attnEnd s k l code addr).tile = s.tile ∧
    (attnEnd s k l code addr).tier.data = s.tier.data ∧ (attnEnd s k l code addr).net = s.net ∧
    (attnEnd s k l code addr).links = s.links ∧ (attnEnd s k l code addr).coll = s.coll ∧
    (attnEnd s k l code addr).host.mem = s.host.mem ∧ (attnEnd s k l code addr).crew = s.crew ∧
    (attnEnd s k l code addr).power = s.power ∧ (attnEnd s k l code addr).twin = s.twin ∧
    (attnEnd s k l code addr).ud = s.ud ∧ (attnEnd s k l code addr).back = s.back ∧
    (attnEnd s k l code addr).now = s.now ∧ (attnEnd s k l code addr).free = s.free ∧
    (attnEnd s k l code addr).pending = s.pending := by
  simp [attnEnd]

@[simp] theorem labFill_frame (s : State) (k : Nat) (crew : Nat) (key : Nat) (a : Nat) :
    (labFill s k crew key a).regs = s.regs ∧ (labFill s k crew key a).reg = s.reg ∧
    (labFill s k crew key a).heat = s.heat ∧ (labFill s k crew key a).sprint = s.sprint ∧
    (labFill s k crew key a).ports = s.ports ∧ (labFill s k crew key a).grid = s.grid ∧
    (labFill s k crew key a).tile = s.tile ∧ (labFill s k crew key a).tier = s.tier ∧
    (labFill s k crew key a).net = s.net ∧ (labFill s k crew key a).links = s.links ∧
    (labFill s k crew key a).coll = s.coll ∧ (labFill s k crew key a).host = s.host ∧
    (labFill s k crew key a).crew = s.crew ∧ (labFill s k crew key a).power = s.power ∧
    (labFill s k crew key a).twin = s.twin ∧ (labFill s k crew key a).ud = s.ud ∧
    (labFill s k crew key a).back = s.back ∧ (labFill s k crew key a).now = s.now ∧
    (labFill s k crew key a).free = s.free ∧ (labFill s k crew key a).pending = s.pending := by
  simp [labFill]

@[simp] theorem fetchSlice_frame (s : State) (k : Nat) (p : Pass) (l : AttnList) (r : SliceRef) :
    (fetchSlice s k p l r).reg = s.reg ∧ (fetchSlice s k p l r).heat = s.heat ∧
    (fetchSlice s k p l r).sprint = s.sprint ∧ (fetchSlice s k p l r).ports = s.ports ∧
    (fetchSlice s k p l r).grid = s.grid ∧ (fetchSlice s k p l r).att = s.att ∧
    (fetchSlice s k p l r).tier.data = s.tier.data ∧ (fetchSlice s k p l r).net = s.net ∧
    (fetchSlice s k p l r).links = s.links ∧ (fetchSlice s k p l r).coll = s.coll ∧
    (fetchSlice s k p l r).host = s.host ∧ (fetchSlice s k p l r).crew = s.crew ∧
    (fetchSlice s k p l r).power = s.power ∧ (fetchSlice s k p l r).twin = s.twin ∧
    (fetchSlice s k p l r).ud = s.ud ∧ (fetchSlice s k p l r).back = s.back ∧
    (fetchSlice s k p l r).now = s.now ∧ (fetchSlice s k p l r).free = s.free ∧
    (fetchSlice s k p l r).pending = s.pending := by
  simp [fetchSlice]

@[simp] theorem takeBolt_frame (k : Nat) (p : Pass) (s : State) (l : AttnList) (b : Nat) (a : Nat) :
    (takeBolt k p s l b a).1.reg = s.reg ∧ (takeBolt k p s l b a).1.heat = s.heat ∧
    (takeBolt k p s l b a).1.sprint = s.sprint ∧ (takeBolt k p s l b a).1.ports = s.ports ∧
    (takeBolt k p s l b a).1.grid = s.grid ∧ (takeBolt k p s l b a).1.att = s.att ∧
    (takeBolt k p s l b a).1.tier.data = s.tier.data ∧ (takeBolt k p s l b a).1.net = s.net ∧
    (takeBolt k p s l b a).1.links = s.links ∧ (takeBolt k p s l b a).1.coll = s.coll ∧
    (takeBolt k p s l b a).1.host = s.host ∧ (takeBolt k p s l b a).1.crew = s.crew ∧
    (takeBolt k p s l b a).1.power = s.power ∧ (takeBolt k p s l b a).1.twin = s.twin ∧
    (takeBolt k p s l b a).1.ud = s.ud ∧ (takeBolt k p s l b a).1.back = s.back ∧
    (takeBolt k p s l b a).1.now = s.now ∧ (takeBolt k p s l b a).1.free = s.free ∧
    (takeBolt k p s l b a).1.pending = s.pending := by
  simp only [takeBolt]
  repeat' split
  all_goals simp

theorem labHit_frame {s : State} {k crew key : Nat} {r : Nat × State}
    (h : labHit s k crew key = some r) :
    r.2.regs = s.regs ∧ r.2.reg = s.reg ∧ r.2.heat = s.heat ∧ r.2.sprint = s.sprint ∧
    r.2.ports = s.ports ∧ r.2.grid = s.grid ∧ r.2.tile = s.tile ∧ r.2.tier = s.tier ∧
    r.2.net = s.net ∧ r.2.links = s.links ∧ r.2.coll = s.coll ∧ r.2.host = s.host ∧
    r.2.crew = s.crew ∧ r.2.power = s.power ∧ r.2.twin = s.twin ∧ r.2.ud = s.ud ∧
    r.2.back = s.back ∧ r.2.now = s.now ∧ r.2.free = s.free ∧ r.2.pending = s.pending := by
  simp only [labHit] at h
  split at h
  · cases h; simp
  · cases h

@[simp] theorem takeBolts_frame (k : Nat) (p : Pass) (a2 : Nat) (a3 : State) (a4 : AttnList) :
    (takeBolts k p a2 a3 a4).1.reg = a3.reg ∧ (takeBolts k p a2 a3 a4).1.heat = a3.heat ∧
    (takeBolts k p a2 a3 a4).1.sprint = a3.sprint ∧ (takeBolts k p a2 a3 a4).1.ports = a3.ports ∧
    (takeBolts k p a2 a3 a4).1.grid = a3.grid ∧
    (takeBolts k p a2 a3 a4).1.tier.data = a3.tier.data ∧
    (takeBolts k p a2 a3 a4).1.net = a3.net ∧ (takeBolts k p a2 a3 a4).1.links = a3.links ∧
    (takeBolts k p a2 a3 a4).1.coll = a3.coll ∧ (takeBolts k p a2 a3 a4).1.host = a3.host ∧
    (takeBolts k p a2 a3 a4).1.crew = a3.crew ∧ (takeBolts k p a2 a3 a4).1.power = a3.power ∧
    (takeBolts k p a2 a3 a4).1.twin = a3.twin ∧ (takeBolts k p a2 a3 a4).1.ud = a3.ud ∧
    (takeBolts k p a2 a3 a4).1.back = a3.back ∧ (takeBolts k p a2 a3 a4).1.now = a3.now ∧
    (takeBolts k p a2 a3 a4).1.free = a3.free ∧ (takeBolts k p a2 a3 a4).1.pending = a3.pending := by
  induction a2 generalizing a3 a4 with
  | zero => simp [takeBolts]
  | succ n ih =>
    simp only [takeBolts]
    repeat' split
    all_goals try simp only [ih]
    all_goals first
    | (simp; done)
    | (rename_i h; have := labHit_frame h; simp_all; done)
    | (rename_i h _; have := labHit_frame h; simp_all; done)

@[simp] theorem listSlices_frame (k : Nat) (p : Pass) (s : State) (l : AttnList) :
    (listSlices k p s l).1.reg = s.reg ∧ (listSlices k p s l).1.heat = s.heat ∧
    (listSlices k p s l).1.sprint = s.sprint ∧ (listSlices k p s l).1.ports = s.ports ∧
    (listSlices k p s l).1.grid = s.grid ∧ (listSlices k p s l).1.att = s.att ∧
    (listSlices k p s l).1.tier.data = s.tier.data ∧ (listSlices k p s l).1.net = s.net ∧
    (listSlices k p s l).1.links = s.links ∧ (listSlices k p s l).1.coll = s.coll ∧
    (listSlices k p s l).1.host = s.host ∧ (listSlices k p s l).1.crew = s.crew ∧
    (listSlices k p s l).1.power = s.power ∧ (listSlices k p s l).1.twin = s.twin ∧
    (listSlices k p s l).1.ud = s.ud ∧ (listSlices k p s l).1.back = s.back ∧
    (listSlices k p s l).1.now = s.now ∧ (listSlices k p s l).1.free = s.free ∧
    (listSlices k p s l).1.pending = s.pending := by
  simp only [listSlices]
  refine ⟨foldl_fst_same (·.reg) _ ?_ _ _, foldl_fst_same (·.heat) _ ?_ _ _,
    foldl_fst_same (·.sprint) _ ?_ _ _, foldl_fst_same (·.ports) _ ?_ _ _,
    foldl_fst_same (·.grid) _ ?_ _ _, foldl_fst_same (·.att) _ ?_ _ _,
    foldl_fst_same (·.tier.data) _ ?_ _ _, foldl_fst_same (·.net) _ ?_ _ _,
    foldl_fst_same (·.links) _ ?_ _ _, foldl_fst_same (·.coll) _ ?_ _ _,
    foldl_fst_same (·.host) _ ?_ _ _, foldl_fst_same (·.crew) _ ?_ _ _,
    foldl_fst_same (·.power) _ ?_ _ _, foldl_fst_same (·.twin) _ ?_ _ _,
    foldl_fst_same (·.ud) _ ?_ _ _, foldl_fst_same (·.back) _ ?_ _ _,
    foldl_fst_same (·.now) _ ?_ _ _, foldl_fst_same (·.free) _ ?_ _ _,
    foldl_fst_same (·.pending) _ ?_ _ _⟩
  all_goals (intro s q; repeat' split)
  all_goals simp

@[simp] theorem passAhead_frame (s : State) (k : Nat) (l : AttnList) :
    (passAhead s k l).regs = s.regs ∧ (passAhead s k l).reg = s.reg ∧
    (passAhead s k l).heat = s.heat ∧ (passAhead s k l).sprint = s.sprint ∧
    (passAhead s k l).ports = s.ports ∧ (passAhead s k l).grid = s.grid ∧
    (passAhead s k l).tile = s.tile ∧ (passAhead s k l).tier = s.tier ∧
    (passAhead s k l).net = s.net ∧ (passAhead s k l).links = s.links ∧
    (passAhead s k l).coll = s.coll ∧ (passAhead s k l).host = s.host ∧
    (passAhead s k l).crew = s.crew ∧ (passAhead s k l).power = s.power ∧
    (passAhead s k l).twin = s.twin ∧ (passAhead s k l).ud = s.ud ∧
    (passAhead s k l).back = s.back ∧ (passAhead s k l).now = s.now ∧
    (passAhead s k l).free = s.free ∧ (passAhead s k l).pending = s.pending := by
  simp [passAhead]

@[simp] theorem passRun_frame (s : State) (k : Nat) (l : AttnList) (p : Pass) :
    (passRun s k l p).reg = s.reg ∧ (passRun s k l p).heat = s.heat ∧
    (passRun s k l p).sprint = s.sprint ∧ (passRun s k l p).ports = s.ports ∧
    (passRun s k l p).grid = s.grid ∧ (passRun s k l p).tier.data = s.tier.data ∧
    (passRun s k l p).net = s.net ∧ (passRun s k l p).links = s.links ∧
    (passRun s k l p).coll = s.coll ∧ (passRun s k l p).host = s.host ∧
    (passRun s k l p).crew = s.crew ∧ (passRun s k l p).power = s.power ∧
    (passRun s k l p).twin = s.twin ∧ (passRun s k l p).ud = s.ud ∧
    (passRun s k l p).back = s.back ∧ (passRun s k l p).now = s.now ∧
    (passRun s k l p).free = s.free ∧ (passRun s k l p).pending = s.pending := by
  simp only [passRun]
  repeat' split
  all_goals simp

@[simp] theorem storeLine_frame (s : State) (o : Nat) (p : Pass) (i : Nat) (rec : List Word) (out : List Byte) :
    (storeLine s o p i rec out).regs = s.regs ∧ (storeLine s o p i rec out).reg = s.reg ∧
    (storeLine s o p i rec out).heat = s.heat ∧ (storeLine s o p i rec out).sprint = s.sprint ∧
    (storeLine s o p i rec out).ports = s.ports ∧ (storeLine s o p i rec out).tile = s.tile ∧
    (storeLine s o p i rec out).att = s.att ∧ (storeLine s o p i rec out).tier = s.tier ∧
    (storeLine s o p i rec out).net = s.net ∧ (storeLine s o p i rec out).links = s.links ∧
    (storeLine s o p i rec out).coll = s.coll ∧ (storeLine s o p i rec out).host = s.host ∧
    (storeLine s o p i rec out).crew = s.crew ∧ (storeLine s o p i rec out).power = s.power ∧
    (storeLine s o p i rec out).twin = s.twin ∧ (storeLine s o p i rec out).ud = s.ud ∧
    (storeLine s o p i rec out).back = s.back ∧ (storeLine s o p i rec out).now = s.now ∧
    (storeLine s o p i rec out).free = s.free ∧ (storeLine s o p i rec out).pending = s.pending := by
  simp [storeLine]

end Sys2Proof.Machine
end

