-- ==== Sys2Proof/Laws/FrameColl.lean ====
section
/-!
SUPPORT. What the operations of Machine/Coll.lean leave unchanged.
-/
namespace Sys2Proof.Machine
open Sys2Proof

@[simp] theorem collMod_frame (s : State) (i : Nat) (f : Coll → Coll) :
    (collMod s i f).regs = s.regs ∧ (collMod s i f).reg = s.reg ∧ (collMod s i f).heat = s.heat ∧
    (collMod s i f).sprint = s.sprint ∧ (collMod s i f).ports = s.ports ∧
    (collMod s i f).grid = s.grid ∧ (collMod s i f).tile = s.tile ∧ (collMod s i f).att = s.att ∧
    (collMod s i f).tier = s.tier ∧ (collMod s i f).net = s.net ∧
    (collMod s i f).links = s.links ∧ (collMod s i f).host = s.host ∧
    (collMod s i f).crew = s.crew ∧ (collMod s i f).power = s.power ∧
    (collMod s i f).twin = s.twin ∧ (collMod s i f).ud = s.ud ∧ (collMod s i f).back = s.back ∧
    (collMod s i f).now = s.now ∧ (collMod s i f).free = s.free ∧
    (collMod s i f).pending = s.pending := by
  simp only [collMod]
  repeat' split
  all_goals simp

@[simp] theorem collDrop_frame (s : State) (x : Coll) :
    (collDrop s x).regs = s.regs ∧ (collDrop s x).reg = s.reg ∧ (collDrop s x).heat = s.heat ∧
    (collDrop s x).sprint.readout = s.sprint.readout ∧ (collDrop s x).ports = s.ports ∧
    (collDrop s x).grid = s.grid ∧ (collDrop s x).tile = s.tile ∧ (collDrop s x).att = s.att ∧
    (collDrop s x).tier = s.tier ∧ (collDrop s x).net = s.net ∧ (collDrop s x).links = s.links ∧
    (collDrop s x).host = s.host ∧ (collDrop s x).crew = s.crew ∧ (collDrop s x).power = s.power ∧
    (collDrop s x).twin = s.twin ∧ (collDrop s x).ud = s.ud ∧ (collDrop s x).back = s.back ∧
    (collDrop s x).now = s.now ∧ (collDrop s x).free = s.free ∧ (collDrop s x).pending = s.pending := by
  simp [collDrop]

@[simp] theorem collFail_frame (s : State) (x : Coll) (code : Nat) (reason : Nat) :
    (collFail s x code reason).reg = s.reg ∧ (collFail s x code reason).heat = s.heat ∧
    (collFail s x code reason).sprint.readout = s.sprint.readout ∧
    (collFail s x code reason).ports = s.ports ∧ (collFail s x code reason).grid = s.grid ∧
    (collFail s x code reason).tile = s.tile ∧ (collFail s x code reason).att = s.att ∧
    (collFail s x code reason).tier.data = s.tier.data ∧ (collFail s x code reason).net = s.net ∧
    (collFail s x code reason).links = s.links ∧
    (collFail s x code reason).host.mem = s.host.mem ∧ (collFail s x code reason).crew = s.crew ∧
    (collFail s x code reason).power = s.power ∧ (collFail s x code reason).twin = s.twin ∧
    (collFail s x code reason).ud = s.ud ∧ (collFail s x code reason).back = s.back ∧
    (collFail s x code reason).now = s.now ∧ (collFail s x code reason).free = s.free ∧
    (collFail s x code reason).pending = s.pending := by
  simp [collFail]

@[simp] theorem abortSend_frame (s : State) (g : Nat) (gr : Group) (a : AbortOf) (reason : Nat) :
    (abortSend s g gr a reason).reg = s.reg ∧ (abortSend s g gr a reason).heat = s.heat ∧
    (abortSend s g gr a reason).sprint = s.sprint ∧ (abortSend s g gr a reason).ports = s.ports ∧
    (abortSend s g gr a reason).grid = s.grid ∧ (abortSend s g gr a reason).tile = s.tile ∧
    (abortSend s g gr a reason).att = s.att ∧ (abortSend s g gr a reason).tier = s.tier ∧
    (abortSend s g gr a reason).coll = s.coll ∧ (abortSend s g gr a reason).host = s.host ∧
    (abortSend s g gr a reason).crew = s.crew ∧ (abortSend s g gr a reason).power = s.power ∧
    (abortSend s g gr a reason).twin = s.twin ∧ (abortSend s g gr a reason).ud = s.ud ∧
    (abortSend s g gr a reason).back = s.back ∧ (abortSend s g gr a reason).now = s.now ∧
    (abortSend s g gr a reason).free = s.free ∧ (abortSend s g gr a reason).pending = s.pending := by
  simp [abortSend]

@[simp] theorem collError_frame (s : State) (x : Coll) (code : Nat) (reason : Nat) :
    (collError s x code reason).reg = s.reg ∧ (collError s x code reason).heat = s.heat ∧
    (collError s x code reason).sprint.readout = s.sprint.readout ∧
    (collError s x code reason).ports = s.ports ∧ (collError s x code reason).grid = s.grid ∧
    (collError s x code reason).tile = s.tile ∧ (collError s x code reason).att = s.att ∧
    (collError s x code reason).tier.data = s.tier.data ∧
    (collError s x code reason).host.mem = s.host.mem ∧
    (collError s x code reason).crew = s.crew ∧ (collError s x code reason).power = s.power ∧
    (collError s x code reason).twin = s.twin ∧ (collError s x code reason).ud = s.ud ∧
    (collError s x code reason).back = s.back ∧ (collError s x code reason).now = s.now ∧
    (collError s x code reason).free = s.free ∧ (collError s x code reason).pending = s.pending := by
  simp only [collError]
  repeat' split
  all_goals simp

@[simp] theorem collAccess_frame (s : State) (x : Coll) (code : Nat) :
    (collAccess s x code).reg = s.reg ∧ (collAccess s x code).heat = s.heat ∧
    (collAccess s x code).sprint.readout = s.sprint.readout ∧
    (collAccess s x code).ports = s.ports ∧ (collAccess s x code).grid = s.grid ∧
    (collAccess s x code).tile = s.tile ∧ (collAccess s x code).att = s.att ∧
    (collAccess s x code).tier.data = s.tier.data ∧ (collAccess s x code).host.mem = s.host.mem ∧
    (collAccess s x code).crew = s.crew ∧ (collAccess s x code).power = s.power ∧
    (collAccess s x code).twin = s.twin ∧ (collAccess s x code).ud = s.ud ∧
    (collAccess s x code).back = s.back ∧ (collAccess s x code).now = s.now ∧
    (collAccess s x code).free = s.free ∧ (collAccess s x code).pending = s.pending := by
  simp [collAccess]

@[simp] theorem collDone_frame (s : State) (x : Coll) (detail : Nat) (result : Nat) (code : Nat) :
    (collDone s x detail result code).reg = s.reg ∧
    (collDone s x detail result code).heat = s.heat ∧
    (collDone s x detail result code).sprint.readout = s.sprint.readout ∧
    (collDone s x detail result code).ports = s.ports ∧
    (collDone s x detail result code).grid = s.grid ∧
    (collDone s x detail result code).tile = s.tile ∧
    (collDone s x detail result code).att = s.att ∧
    (collDone s x detail result code).tier.data = s.tier.data ∧
    (collDone s x detail result code).net = s.net ∧
    (collDone s x detail result code).links = s.links ∧
    (collDone s x detail result code).host.mem = s.host.mem ∧
    (collDone s x detail result code).crew = s.crew ∧
    (collDone s x detail result code).power = s.power ∧
    (collDone s x detail result code).twin = s.twin ∧
    (collDone s x detail result code).ud = s.ud ∧
    (collDone s x detail result code).back = s.back ∧
    (collDone s x detail result code).now = s.now ∧
    (collDone s x detail result code).free = s.free ∧
    (collDone s x detail result code).pending = s.pending := by
  simp [collDone]

@[simp] theorem collStore_frame (s : State) (x : Coll) (c : Slot) (a : Nat) (b : List Byte) :
    (collStore s x c a b).reg = s.reg ∧ (collStore s x c a b).heat = s.heat ∧
    (collStore s x c a b).sprint.readout = s.sprint.readout ∧
    (collStore s x c a b).ports = s.ports ∧ (collStore s x c a b).grid = s.grid ∧
    (collStore s x c a b).att = s.att ∧ (collStore s x c a b).host.mem = s.host.mem ∧
    (collStore s x c a b).crew = s.crew ∧ (collStore s x c a b).power = s.power ∧
    (collStore s x c a b).twin = s.twin ∧ (collStore s x c a b).ud = s.ud ∧
    (collStore s x c a b).back = s.back ∧ (collStore s x c a b).now = s.now ∧
    (collStore s x c a b).free = s.free ∧ (collStore s x c a b).pending = s.pending := by
  simp [collStore]

@[simp] theorem sendDown_frame (s : State) (x : Coll) (c : Slot) (gr : Group) (weft : Bool) (b : List Byte) (flags : Flags) :
    (sendDown s x c gr weft b flags).reg = s.reg ∧
    (sendDown s x c gr weft b flags).heat = s.heat ∧
    (sendDown s x c gr weft b flags).sprint = s.sprint ∧
    (sendDown s x c gr weft b flags).ports = s.ports ∧
    (sendDown s x c gr weft b flags).grid = s.grid ∧
    (sendDown s x c gr weft b flags).tile = s.tile ∧
    (sendDown s x c gr weft b flags).att = s.att ∧
    (sendDown s x c gr weft b flags).tier = s.tier ∧
    (sendDown s x c gr weft b flags).coll = s.coll ∧
    (sendDown s x c gr weft b flags).host = s.host ∧
    (sendDown s x c gr weft b flags).crew = s.crew ∧
    (sendDown s x c gr weft b flags).power = s.power ∧
    (sendDown s x c gr weft b flags).twin = s.twin ∧ (sendDown s x c gr weft b flags).ud = s.ud ∧
    (sendDown s x c gr weft b flags).back = s.back ∧
    (sendDown s x c gr weft b flags).now = s.now ∧
    (sendDown s x c gr weft b flags).free = s.free ∧
    (sendDown s x c gr weft b flags).pending = s.pending := by
  simp [sendDown]

@[simp] theorem downEnd_frame (s : State) (i : Nat) (weft : Bool) :
    (downEnd s i weft).reg = s.reg ∧ (downEnd s i weft).heat = s.heat ∧
    (downEnd s i weft).sprint.readout = s.sprint.readout ∧ (downEnd s i weft).ports = s.ports ∧
    (downEnd s i weft).grid = s.grid ∧ (downEnd s i weft).tile = s.tile ∧
    (downEnd s i weft).att = s.att ∧ (downEnd s i weft).tier.data = s.tier.data ∧
    (downEnd s i weft).net = s.net ∧ (downEnd s i weft).links = s.links ∧
    (downEnd s i weft).host.mem = s.host.mem ∧ (downEnd s i weft).crew = s.crew ∧
    (downEnd s i weft).power = s.power ∧ (downEnd s i weft).twin = s.twin ∧
    (downEnd s i weft).ud = s.ud ∧ (downEnd s i weft).back = s.back ∧
    (downEnd s i weft).now = s.now ∧ (downEnd s i weft).free = s.free ∧
    (downEnd s i weft).pending = s.pending := by
  simp only [downEnd]
  repeat' split
  all_goals simp

@[simp] theorem sendBlock_frame (s : State) (x : Coll) (gr : Group) (crew : Nat) (fmt : Nat) (j : Nat) (a : Nat) (n : Nat) :
    (sendBlock s x gr crew fmt j a n).reg = s.reg ∧
    (sendBlock s x gr crew fmt j a n).heat = s.heat ∧
    (sendBlock s x gr crew fmt j a n).sprint = s.sprint ∧
    (sendBlock s x gr crew fmt j a n).ports = s.ports ∧
    (sendBlock s x gr crew fmt j a n).grid = s.grid ∧
    (sendBlock s x gr crew fmt j a n).tile = s.tile ∧
    (sendBlock s x gr crew fmt j a n).att = s.att ∧
    (sendBlock s x gr crew fmt j a n).tier = s.tier ∧
    (sendBlock s x gr crew fmt j a n).coll = s.coll ∧
    (sendBlock s x gr crew fmt j a n).host = s.host ∧
    (sendBlock s x gr crew fmt j a n).crew = s.crew ∧
    (sendBlock s x gr crew fmt j a n).power = s.power ∧
    (sendBlock s x gr crew fmt j a n).twin = s.twin ∧
    (sendBlock s x gr crew fmt j a n).ud = s.ud ∧
    (sendBlock s x gr crew fmt j a n).back = s.back ∧
    (sendBlock s x gr crew fmt j a n).now = s.now ∧
    (sendBlock s x gr crew fmt j a n).free = s.free ∧
    (sendBlock s x gr crew fmt j a n).pending = s.pending := by
  simp [sendBlock]

@[simp] theorem sendBlocks_frame (s : State) (x : Coll) (c : Slot) (gr : Group) (dests : List Nat) :
    (sendBlocks s x c gr dests).reg = s.reg ∧ (sendBlocks s x c gr dests).heat = s.heat ∧
    (sendBlocks s x c gr dests).sprint = s.sprint ∧ (sendBlocks s x c gr dests).ports = s.ports ∧
    (sendBlocks s x c gr dests).grid = s.grid ∧ (sendBlocks s x c gr dests).tile = s.tile ∧
    (sendBlocks s x c gr dests).att = s.att ∧ (sendBlocks s x c gr dests).tier = s.tier ∧
    (sendBlocks s x c gr dests).coll = s.coll ∧ (sendBlocks s x c gr dests).host = s.host ∧
    (sendBlocks s x c gr dests).crew = s.crew ∧ (sendBlocks s x c gr dests).power = s.power ∧
    (sendBlocks s x c gr dests).twin = s.twin ∧ (sendBlocks s x c gr dests).ud = s.ud ∧
    (sendBlocks s x c gr dests).back = s.back ∧ (sendBlocks s x c gr dests).now = s.now ∧
    (sendBlocks s x c gr dests).free = s.free ∧ (sendBlocks s x c gr dests).pending = s.pending := by
  simp [sendBlocks]

@[simp] theorem blockWhole_frame (s : State) (x : Coll) (c : Slot) (i : Nat) :
    (blockWhole s x c i).reg = s.reg ∧ (blockWhole s x c i).heat = s.heat ∧
    (blockWhole s x c i).sprint.readout = s.sprint.readout ∧
    (blockWhole s x c i).ports = s.ports ∧ (blockWhole s x c i).grid = s.grid ∧
    (blockWhole s x c i).att = s.att ∧ (blockWhole s x c i).host.mem = s.host.mem ∧
    (blockWhole s x c i).crew = s.crew ∧ (blockWhole s x c i).power = s.power ∧
    (blockWhole s x c i).twin = s.twin ∧ (blockWhole s x c i).ud = s.ud ∧
    (blockWhole s x c i).back = s.back ∧ (blockWhole s x c i).now = s.now ∧
    (blockWhole s x c i).free = s.free ∧ (blockWhole s x c i).pending = s.pending := by
  simp [blockWhole]

@[simp] theorem rotateEnd_frame (s : State) (x : Coll) (c : Slot) :
    (rotateEnd s x c).reg = s.reg ∧ (rotateEnd s x c).heat = s.heat ∧
    (rotateEnd s x c).sprint.readout = s.sprint.readout ∧ (rotateEnd s x c).ports = s.ports ∧
    (rotateEnd s x c).grid = s.grid ∧ (rotateEnd s x c).tile = s.tile ∧
    (rotateEnd s x c).att = s.att ∧ (rotateEnd s x c).tier.data = s.tier.data ∧
    (rotateEnd s x c).net = s.net ∧ (rotateEnd s x c).links = s.links ∧
    (rotateEnd s x c).host.mem = s.host.mem ∧ (rotateEnd s x c).crew = s.crew ∧
    (rotateEnd s x c).power = s.power ∧ (rotateEnd s x c).twin = s.twin ∧
    (rotateEnd s x c).ud = s.ud ∧ (rotateEnd s x c).back = s.back ∧
    (rotateEnd s x c).now = s.now ∧ (rotateEnd s x c).free = s.free ∧
    (rotateEnd s x c).pending = s.pending := by
  simp [rotateEnd]

@[simp] theorem xchgEnd_frame (s : State) (i : Nat) :
    (xchgEnd s i).reg = s.reg ∧ (xchgEnd s i).heat = s.heat ∧
    (xchgEnd s i).sprint.readout = s.sprint.readout ∧ (xchgEnd s i).ports = s.ports ∧
    (xchgEnd s i).grid = s.grid ∧ (xchgEnd s i).att = s.att ∧
    (xchgEnd s i).host.mem = s.host.mem ∧ (xchgEnd s i).crew = s.crew ∧
    (xchgEnd s i).power = s.power ∧ (xchgEnd s i).twin = s.twin ∧ (xchgEnd s i).ud = s.ud ∧
    (xchgEnd s i).back = s.back ∧ (xchgEnd s i).now = s.now ∧ (xchgEnd s i).free = s.free ∧
    (xchgEnd s i).pending = s.pending := by
  simp only [xchgEnd]
  repeat' split
  all_goals simp

@[simp] theorem takePiece_frame (s : State) (x : Coll) (c : Slot) (j : Nat) (off : Nat) (b : List Byte) :
    (takePiece s x c j off b).reg = s.reg ∧ (takePiece s x c j off b).heat = s.heat ∧
    (takePiece s x c j off b).sprint.readout = s.sprint.readout ∧
    (takePiece s x c j off b).ports = s.ports ∧ (takePiece s x c j off b).grid = s.grid ∧
    (takePiece s x c j off b).att = s.att ∧ (takePiece s x c j off b).host.mem = s.host.mem ∧
    (takePiece s x c j off b).crew = s.crew ∧ (takePiece s x c j off b).power = s.power ∧
    (takePiece s x c j off b).twin = s.twin ∧ (takePiece s x c j off b).ud = s.ud ∧
    (takePiece s x c j off b).back = s.back ∧ (takePiece s x c j off b).now = s.now ∧
    (takePiece s x c j off b).free = s.free ∧ (takePiece s x c j off b).pending = s.pending := by
  simp [takePiece]

@[simp] theorem ownBlock_frame (s : State) (x : Coll) (c : Slot) (self : Nat) :
    (ownBlock s x c self).reg = s.reg ∧ (ownBlock s x c self).heat = s.heat ∧
    (ownBlock s x c self).sprint.readout = s.sprint.readout ∧
    (ownBlock s x c self).ports = s.ports ∧ (ownBlock s x c self).grid = s.grid ∧
    (ownBlock s x c self).att = s.att ∧ (ownBlock s x c self).host.mem = s.host.mem ∧
    (ownBlock s x c self).crew = s.crew ∧ (ownBlock s x c self).power = s.power ∧
    (ownBlock s x c self).twin = s.twin ∧ (ownBlock s x c self).ud = s.ud ∧
    (ownBlock s x c self).back = s.back ∧ (ownBlock s x c self).now = s.now ∧
    (ownBlock s x c self).free = s.free ∧ (ownBlock s x c self).pending = s.pending := by
  simp only [ownBlock]
  repeat' split
  all_goals simp

@[simp] theorem xchgData_frame (s : State) (x : Coll) (c : Slot) (gr : Group) :
    (xchgData s x c gr).reg = s.reg ∧ (xchgData s x c gr).heat = s.heat ∧
    (xchgData s x c gr).sprint.readout = s.sprint.readout ∧ (xchgData s x c gr).ports = s.ports ∧
    (xchgData s x c gr).grid = s.grid ∧ (xchgData s x c gr).att = s.att ∧
    (xchgData s x c gr).host.mem = s.host.mem ∧ (xchgData s x c gr).crew = s.crew ∧
    (xchgData s x c gr).power = s.power ∧ (xchgData s x c gr).twin = s.twin ∧
    (xchgData s x c gr).ud = s.ud ∧ (xchgData s x c gr).back = s.back ∧
    (xchgData s x c gr).now = s.now ∧ (xchgData s x c gr).free = s.free ∧
    (xchgData s x c gr).pending = s.pending := by
  simp [xchgData]

@[simp] theorem countsCheck_frame (s : State) (x : Coll) (c : Slot) (gr : Group) :
    (countsCheck s x c gr).reg = s.reg ∧ (countsCheck s x c gr).heat = s.heat ∧
    (countsCheck s x c gr).sprint.readout = s.sprint.readout ∧
    (countsCheck s x c gr).ports = s.ports ∧ (countsCheck s x c gr).grid = s.grid ∧
    (countsCheck s x c gr).att = s.att ∧ (countsCheck s x c gr).host.mem = s.host.mem ∧
    (countsCheck s x c gr).crew = s.crew ∧ (countsCheck s x c gr).power = s.power ∧
    (countsCheck s x c gr).twin = s.twin ∧ (countsCheck s x c gr).ud = s.ud ∧
    (countsCheck s x c gr).back = s.back ∧ (countsCheck s x c gr).now = s.now ∧
    (countsCheck s x c gr).free = s.free ∧ (countsCheck s x c gr).pending = s.pending := by
  simp [countsCheck]

@[simp] theorem xchgBegin_frame (s : State) (x : Coll) (c : Slot) (gr : Group) :
    (xchgBegin s x c gr).reg = s.reg ∧ (xchgBegin s x c gr).heat = s.heat ∧
    (xchgBegin s x c gr).sprint.readout = s.sprint.readout ∧
    (xchgBegin s x c gr).ports = s.ports ∧ (xchgBegin s x c gr).grid = s.grid ∧
    (xchgBegin s x c gr).att = s.att ∧ (xchgBegin s x c gr).host.mem = s.host.mem ∧
    (xchgBegin s x c gr).crew = s.crew ∧ (xchgBegin s x c gr).power = s.power ∧
    (xchgBegin s x c gr).twin = s.twin ∧ (xchgBegin s x c gr).ud = s.ud ∧
    (xchgBegin s x c gr).back = s.back ∧ (xchgBegin s x c gr).now = s.now ∧
    (xchgBegin s x c gr).free = s.free ∧ (xchgBegin s x c gr).pending = s.pending := by
  simp only [xchgBegin]
  repeat' split
  all_goals simp

@[simp] theorem goOn_frame (s : State) (i : Nat) (weft : Bool) :
    (goOn s i weft).reg = s.reg ∧ (goOn s i weft).heat = s.heat ∧
    (goOn s i weft).sprint.readout = s.sprint.readout ∧ (goOn s i weft).ports = s.ports ∧
    (goOn s i weft).grid = s.grid ∧ (goOn s i weft).att = s.att ∧
    (goOn s i weft).host.mem = s.host.mem ∧ (goOn s i weft).crew = s.crew ∧
    (goOn s i weft).power = s.power ∧ (goOn s i weft).twin = s.twin ∧ (goOn s i weft).ud = s.ud ∧
    (goOn s i weft).back = s.back ∧ (goOn s i weft).now = s.now ∧ (goOn s i weft).free = s.free ∧
    (goOn s i weft).pending = s.pending := by
  simp only [goOn]
  repeat' split
  all_goals simp

@[simp] theorem readyUp_frame (s : State) (i : Nat) :
    (readyUp s i).reg = s.reg ∧ (readyUp s i).heat = s.heat ∧
    (readyUp s i).sprint.readout = s.sprint.readout ∧ (readyUp s i).ports = s.ports ∧
    (readyUp s i).grid = s.grid ∧ (readyUp s i).att = s.att ∧
    (readyUp s i).host.mem = s.host.mem ∧ (readyUp s i).crew = s.crew ∧
    (readyUp s i).power = s.power ∧ (readyUp s i).twin = s.twin ∧ (readyUp s i).ud = s.ud ∧
    (readyUp s i).back = s.back ∧ (readyUp s i).now = s.now ∧ (readyUp s i).free = s.free ∧
    (readyUp s i).pending = s.pending := by
  simp only [readyUp]
  repeat' split
  all_goals try simp only [goOn_frame, and_self]
  all_goals refine ⟨(foldl_reg ?_ _ _).trans ?_, (foldl_heat ?_ _ _).trans ?_,
      (foldl_sprint_readout ?_ _ _).trans ?_, (foldl_ports ?_ _ _).trans ?_,
      (foldl_grid ?_ _ _).trans ?_, (foldl_att ?_ _ _).trans ?_, (foldl_host_mem ?_ _ _).trans ?_,
      (foldl_crew ?_ _ _).trans ?_, (foldl_power ?_ _ _).trans ?_, (foldl_twin ?_ _ _).trans ?_,
      (foldl_ud ?_ _ _).trans ?_, (foldl_back ?_ _ _).trans ?_, (foldl_now ?_ _ _).trans ?_,
      (foldl_free ?_ _ _).trans ?_, (foldl_pending ?_ _ _).trans ?_⟩
  all_goals first
  | rfl
  | intro s q; (repeat' split) <;> simp

@[simp] theorem phase2_frame (s : State) (x : Coll) (c : Slot) (gr : Group) (weft : Bool) (flags : Flags) :
    (phase2 s x c gr weft flags).reg = s.reg ∧ (phase2 s x c gr weft flags).heat = s.heat ∧
    (phase2 s x c gr weft flags).sprint.readout = s.sprint.readout ∧
    (phase2 s x c gr weft flags).ports = s.ports ∧ (phase2 s x c gr weft flags).grid = s.grid ∧
    (phase2 s x c gr weft flags).att = s.att ∧
    (phase2 s x c gr weft flags).host.mem = s.host.mem ∧
    (phase2 s x c gr weft flags).crew = s.crew ∧ (phase2 s x c gr weft flags).power = s.power ∧
    (phase2 s x c gr weft flags).twin = s.twin ∧ (phase2 s x c gr weft flags).ud = s.ud ∧
    (phase2 s x c gr weft flags).back = s.back ∧ (phase2 s x c gr weft flags).now = s.now ∧
    (phase2 s x c gr weft flags).free = s.free ∧ (phase2 s x c gr weft flags).pending = s.pending := by
  simp [phase2]

@[simp] theorem downData_frame (s : State) (x : Coll) (c : Slot) (gr : Group) (p : HPkt) :
    (downData s x c gr p).reg = s.reg ∧ (downData s x c gr p).heat = s.heat ∧
    (downData s x c gr p).sprint.readout = s.sprint.readout ∧
    (downData s x c gr p).ports = s.ports ∧ (downData s x c gr p).grid = s.grid ∧
    (downData s x c gr p).att = s.att ∧ (downData s x c gr p).host.mem = s.host.mem ∧
    (downData s x c gr p).crew = s.crew ∧ (downData s x c gr p).power = s.power ∧
    (downData s x c gr p).twin = s.twin ∧ (downData s x c gr p).ud = s.ud ∧
    (downData s x c gr p).back = s.back ∧ (downData s x c gr p).now = s.now ∧
    (downData s x c gr p).free = s.free ∧ (downData s x c gr p).pending = s.pending := by
  simp [downData]

@[simp] theorem upData_frame (s : State) (x : Coll) (c : Slot) (p : HPkt) :
    (upData s x c p).regs = s.regs ∧ (upData s x c p).reg = s.reg ∧
    (upData s x c p).heat = s.heat ∧ (upData s x c p).sprint.readout = s.sprint.readout ∧
    (upData s x c p).ports = s.ports ∧ (upData s x c p).grid = s.grid ∧
    (upData s x c p).tile = s.tile ∧ (upData s x c p).att = s.att ∧
    (upData s x c p).tier = s.tier ∧ (upData s x c p).net = s.net ∧
    (upData s x c p).links = s.links ∧ (upData s x c p).host = s.host ∧
    (upData s x c p).crew = s.crew ∧ (upData s x c p).power = s.power ∧
    (upData s x c p).twin = s.twin ∧ (upData s x c p).ud = s.ud ∧ (upData s x c p).back = s.back ∧
    (upData s x c p).now = s.now ∧ (upData s x c p).free = s.free ∧
    (upData s x c p).pending = s.pending := by
  simp only [upData]
  repeat' split
  all_goals simp

@[simp] theorem xchgPiece_frame (s : State) (x : Coll) (c : Slot) (gr : Group) (p : HPkt) :
    (xchgPiece s x c gr p).reg = s.reg ∧ (xchgPiece s x c gr p).heat = s.heat ∧
    (xchgPiece s x c gr p).sprint.readout = s.sprint.readout ∧
    (xchgPiece s x c gr p).ports = s.ports ∧ (xchgPiece s x c gr p).grid = s.grid ∧
    (xchgPiece s x c gr p).att = s.att ∧ (xchgPiece s x c gr p).host.mem = s.host.mem ∧
    (xchgPiece s x c gr p).crew = s.crew ∧ (xchgPiece s x c gr p).power = s.power ∧
    (xchgPiece s x c gr p).twin = s.twin ∧ (xchgPiece s x c gr p).ud = s.ud ∧
    (xchgPiece s x c gr p).back = s.back ∧ (xchgPiece s x c gr p).now = s.now ∧
    (xchgPiece s x c gr p).free = s.free ∧ (xchgPiece s x c gr p).pending = s.pending := by
  simp only [xchgPiece]
  repeat' split
  all_goals simp

@[simp] theorem rotateSend_frame (s : State) (x : Coll) (gr : Group) (crew : Nat) (src : Nat) (len : Nat) (fmt : Nat) :
    (rotateSend s x gr crew src len fmt).reg = s.reg ∧
    (rotateSend s x gr crew src len fmt).heat = s.heat ∧
    (rotateSend s x gr crew src len fmt).sprint.readout = s.sprint.readout ∧
    (rotateSend s x gr crew src len fmt).ports = s.ports ∧
    (rotateSend s x gr crew src len fmt).grid = s.grid ∧
    (rotateSend s x gr crew src len fmt).tile = s.tile ∧
    (rotateSend s x gr crew src len fmt).att = s.att ∧
    (rotateSend s x gr crew src len fmt).tier.data = s.tier.data ∧
    (rotateSend s x gr crew src len fmt).host.mem = s.host.mem ∧
    (rotateSend s x gr crew src len fmt).crew = s.crew ∧
    (rotateSend s x gr crew src len fmt).power = s.power ∧
    (rotateSend s x gr crew src len fmt).twin = s.twin ∧
    (rotateSend s x gr crew src len fmt).ud = s.ud ∧
    (rotateSend s x gr crew src len fmt).back = s.back ∧
    (rotateSend s x gr crew src len fmt).now = s.now ∧
    (rotateSend s x gr crew src len fmt).free = s.free ∧
    (rotateSend s x gr crew src len fmt).pending = s.pending := by
  simp [rotateSend]

@[simp] theorem instArrive_frame (s : State) (x : Coll) (gr : Group) (p : HPkt) :
    (instArrive s x gr p).reg = s.reg ∧ (instArrive s x gr p).heat = s.heat ∧
    (instArrive s x gr p).sprint.readout = s.sprint.readout ∧
    (instArrive s x gr p).ports = s.ports ∧ (instArrive s x gr p).grid = s.grid ∧
    (instArrive s x gr p).att = s.att ∧ (instArrive s x gr p).host.mem = s.host.mem ∧
    (instArrive s x gr p).crew = s.crew ∧ (instArrive s x gr p).power = s.power ∧
    (instArrive s x gr p).twin = s.twin ∧ (instArrive s x gr p).ud = s.ud ∧
    (instArrive s x gr p).back = s.back ∧ (instArrive s x gr p).now = s.now ∧
    (instArrive s x gr p).free = s.free ∧ (instArrive s x gr p).pending = s.pending := by
  simp only [instArrive]
  repeat' split
  all_goals simp

@[simp] theorem abortArrive_frame (s : State) (g : Nat) (gr : Group) (a : AbortOf) (reason : Nat) (weft : Bool) :
    (abortArrive s g gr a reason weft).reg = s.reg ∧
    (abortArrive s g gr a reason weft).heat = s.heat ∧
    (abortArrive s g gr a reason weft).sprint.readout = s.sprint.readout ∧
    (abortArrive s g gr a reason weft).ports = s.ports ∧
    (abortArrive s g gr a reason weft).grid = s.grid ∧
    (abortArrive s g gr a reason weft).tile = s.tile ∧
    (abortArrive s g gr a reason weft).att = s.att ∧
    (abortArrive s g gr a reason weft).tier.data = s.tier.data ∧
    (abortArrive s g gr a reason weft).host.mem = s.host.mem ∧
    (abortArrive s g gr a reason weft).crew = s.crew ∧
    (abortArrive s g gr a reason weft).power = s.power ∧
    (abortArrive s g gr a reason weft).twin = s.twin ∧
    (abortArrive s g gr a reason weft).ud = s.ud ∧
    (abortArrive s g gr a reason weft).back = s.back ∧
    (abortArrive s g gr a reason weft).now = s.now ∧
    (abortArrive s g gr a reason weft).free = s.free ∧
    (abortArrive s g gr a reason weft).pending = s.pending := by
  simp only [abortArrive]
  repeat' split
  all_goals simp

@[simp] theorem collArrive_frame (s : State) (gr : Group) (p : HPkt) :
    (collArrive s gr p).reg = s.reg ∧ (collArrive s gr p).heat = s.heat ∧
    (collArrive s gr p).sprint.readout = s.sprint.readout ∧ (collArrive s gr p).ports = s.ports ∧
    (collArrive s gr p).grid = s.grid ∧ (collArrive s gr p).att = s.att ∧
    (collArrive s gr p).host.mem = s.host.mem ∧ (collArrive s gr p).crew = s.crew ∧
    (collArrive s gr p).power = s.power ∧ (collArrive s gr p).twin = s.twin ∧
    (collArrive s gr p).ud = s.ud ∧ (collArrive s gr p).back = s.back ∧
    (collArrive s gr p).now = s.now ∧ (collArrive s gr p).free = s.free ∧
    (collArrive s gr p).pending = s.pending := by
  simp only [collArrive]
  repeat' split
  all_goals simp

@[simp] theorem epochMismatch_frame (s : State) (p : HPkt) :
    (epochMismatch s p).reg = s.reg ∧ (epochMismatch s p).heat = s.heat ∧
    (epochMismatch s p).sprint.readout = s.sprint.readout ∧ (epochMismatch s p).ports = s.ports ∧
    (epochMismatch s p).grid = s.grid ∧ (epochMismatch s p).tile = s.tile ∧
    (epochMismatch s p).att = s.att ∧ (epochMismatch s p).tier.data = s.tier.data ∧
    (epochMismatch s p).host.mem = s.host.mem ∧ (epochMismatch s p).crew = s.crew ∧
    (epochMismatch s p).power = s.power ∧ (epochMismatch s p).twin = s.twin ∧
    (epochMismatch s p).ud = s.ud ∧ (epochMismatch s p).back = s.back ∧
    (epochMismatch s p).now = s.now ∧ (epochMismatch s p).free = s.free ∧
    (epochMismatch s p).pending = s.pending := by
  simp only [epochMismatch]
  repeat' split
  all_goals simp

@[simp] theorem groupLeaves_frame (s : State) (g : Nat) :
    (groupLeaves s g).reg = s.reg ∧ (groupLeaves s g).heat = s.heat ∧
    (groupLeaves s g).sprint.readout = s.sprint.readout ∧ (groupLeaves s g).ports = s.ports ∧
    (groupLeaves s g).grid = s.grid ∧ (groupLeaves s g).tile = s.tile ∧
    (groupLeaves s g).att = s.att ∧ (groupLeaves s g).tier.data = s.tier.data ∧
    (groupLeaves s g).host.mem = s.host.mem ∧ (groupLeaves s g).crew = s.crew ∧
    (groupLeaves s g).power = s.power ∧ (groupLeaves s g).twin = s.twin ∧
    (groupLeaves s g).ud = s.ud ∧ (groupLeaves s g).back = s.back ∧
    (groupLeaves s g).now = s.now ∧ (groupLeaves s g).free = s.free ∧
    (groupLeaves s g).pending = s.pending := by
  simp [groupLeaves]

@[simp] theorem collStart_frame (s : State) (i : Nat) (c : Slot) (gr : Group) :
    (collStart s i c gr).reg = s.reg ∧ (collStart s i c gr).heat = s.heat ∧
    (collStart s i c gr).sprint.readout = s.sprint.readout ∧
    (collStart s i c gr).ports = s.ports ∧ (collStart s i c gr).grid = s.grid ∧
    (collStart s i c gr).att = s.att ∧ (collStart s i c gr).host.mem = s.host.mem ∧
    (collStart s i c gr).crew = s.crew ∧ (collStart s i c gr).power = s.power ∧
    (collStart s i c gr).twin = s.twin ∧ (collStart s i c gr).ud = s.ud ∧
    (collStart s i c gr).back = s.back ∧ (collStart s i c gr).now = s.now ∧
    (collStart s i c gr).free = s.free ∧ (collStart s i c gr).pending = s.pending := by
  simp only [collStart]
  repeat' split
  all_goals first
  | (simp; done)
  | refine ⟨(foldl_reg ?_ _ _).trans ?_, (foldl_heat ?_ _ _).trans ?_,
      (foldl_sprint_readout ?_ _ _).trans ?_, (foldl_ports ?_ _ _).trans ?_,
      (foldl_grid ?_ _ _).trans ?_, (foldl_att ?_ _ _).trans ?_, (foldl_host_mem ?_ _ _).trans ?_,
      (foldl_crew ?_ _ _).trans ?_, (foldl_power ?_ _ _).trans ?_, (foldl_twin ?_ _ _).trans ?_,
      (foldl_ud ?_ _ _).trans ?_, (foldl_back ?_ _ _).trans ?_, (foldl_now ?_ _ _).trans ?_,
      (foldl_free ?_ _ _).trans ?_, (foldl_pending ?_ _ _).trans ?_⟩
    all_goals first
    | (simp; done)
    | intro s q; (repeat' split) <;> simp

@[simp] theorem collLaunch_frame (i : Nat) (c : Slot) (s : State) :
    (collLaunch i c s).reg = s.reg ∧ (collLaunch i c s).heat = s.heat ∧
    (collLaunch i c s).sprint.readout = s.sprint.readout ∧ (collLaunch i c s).ports = s.ports ∧
    (collLaunch i c s).grid = s.grid ∧ (collLaunch i c s).att = s.att ∧
    (collLaunch i c s).host.mem = s.host.mem ∧ (collLaunch i c s).crew = s.crew ∧
    (collLaunch i c s).power = s.power ∧ (collLaunch i c s).twin = s.twin ∧
    (collLaunch i c s).ud = s.ud ∧ (collLaunch i c s).back = s.back ∧
    (collLaunch i c s).now = s.now ∧ (collLaunch i c s).free = s.free ∧
    (collLaunch i c s).pending = s.pending := by
  simp only [collLaunch]
  repeat' split
  all_goals simp

@[simp] theorem contribute_frame (x : Coll) (c : Slot) (s : State) :
    (contribute x c s).reg = s.reg ∧ (contribute x c s).heat = s.heat ∧
    (contribute x c s).sprint.readout = s.sprint.readout ∧ (contribute x c s).ports = s.ports ∧
    (contribute x c s).grid = s.grid ∧ (contribute x c s).tile = s.tile ∧
    (contribute x c s).att = s.att ∧ (contribute x c s).tier.data = s.tier.data ∧
    (contribute x c s).host.mem = s.host.mem ∧ (contribute x c s).crew = s.crew ∧
    (contribute x c s).power = s.power ∧ (contribute x c s).twin = s.twin ∧
    (contribute x c s).ud = s.ud ∧ (contribute x c s).back = s.back ∧
    (contribute x c s).now = s.now ∧ (contribute x c s).free = s.free ∧
    (contribute x c s).pending = s.pending := by
  simp [contribute]

@[simp] theorem collSum_frame (s : State) (n : TreeNode) (v : List Word) (fl : Flags) :
    (collSum s n v fl).reg = s.reg ∧ (collSum s n v fl).heat = s.heat ∧
    (collSum s n v fl).sprint.readout = s.sprint.readout ∧ (collSum s n v fl).ports = s.ports ∧
    (collSum s n v fl).grid = s.grid ∧ (collSum s n v fl).att = s.att ∧
    (collSum s n v fl).host.mem = s.host.mem ∧ (collSum s n v fl).crew = s.crew ∧
    (collSum s n v fl).power = s.power ∧ (collSum s n v fl).twin = s.twin ∧
    (collSum s n v fl).ud = s.ud ∧ (collSum s n v fl).back = s.back ∧
    (collSum s n v fl).now = s.now ∧ (collSum s n v fl).free = s.free ∧
    (collSum s n v fl).pending = s.pending := by
  simp only [collSum]
  repeat' split
  all_goals simp

end Sys2Proof.Machine
end

