-- ==== Sys2Proof/Laws/FrameQueue.lean ====
section
/-!
SUPPORT. What the operations of Machine/Queue.lean leave unchanged.
-/
namespace Sys2Proof.Machine
open Sys2Proof

@[simp] theorem sqSet_frame (s : State) (crew : Nat) (n : Nat) (q : Queue) :
    (sqSet s crew n q).regs = s.regs ∧ (sqSet s crew n q).reg = s.reg ∧
    (sqSet s crew n q).heat = s.heat ∧ (sqSet s crew n q).sprint = s.sprint ∧
    (sqSet s crew n q).ports = s.ports ∧ (sqSet s crew n q).grid = s.grid ∧
    (sqSet s crew n q).tile = s.tile ∧ (sqSet s crew n q).att = s.att ∧
    (sqSet s crew n q).tier = s.tier ∧ (sqSet s crew n q).net = s.net ∧
    (sqSet s crew n q).links = s.links ∧ (sqSet s crew n q).coll = s.coll ∧
    (sqSet s crew n q).host.mem = s.host.mem ∧ (sqSet s crew n q).crew = s.crew ∧
    (sqSet s crew n q).power = s.power ∧ (sqSet s crew n q).twin = s.twin ∧
    (sqSet s crew n q).ud = s.ud ∧ (sqSet s crew n q).back = s.back ∧
    (sqSet s crew n q).now = s.now ∧ (sqSet s crew n q).free = s.free ∧
    (sqSet s crew n q).pending = s.pending := by
  simp only [sqSet]
  repeat' split
  all_goals simp

@[simp] theorem cqSet_frame (s : State) (crew : Nat) (n : Nat) (q : Queue) :
    (cqSet s crew n q).regs = s.regs ∧ (cqSet s crew n q).reg = s.reg ∧
    (cqSet s crew n q).heat = s.heat ∧ (cqSet s crew n q).sprint = s.sprint ∧
    (cqSet s crew n q).ports = s.ports ∧ (cqSet s crew n q).grid = s.grid ∧
    (cqSet s crew n q).tile = s.tile ∧ (cqSet s crew n q).att = s.att ∧
    (cqSet s crew n q).tier = s.tier ∧ (cqSet s crew n q).net = s.net ∧
    (cqSet s crew n q).links = s.links ∧ (cqSet s crew n q).coll = s.coll ∧
    (cqSet s crew n q).host.mem = s.host.mem ∧ (cqSet s crew n q).crew = s.crew ∧
    (cqSet s crew n q).power = s.power ∧ (cqSet s crew n q).twin = s.twin ∧
    (cqSet s crew n q).ud = s.ud ∧ (cqSet s crew n q).back = s.back ∧
    (cqSet s crew n q).now = s.now ∧ (cqSet s crew n q).free = s.free ∧
    (cqSet s crew n q).pending = s.pending := by
  simp [cqSet]

@[simp] theorem badDoorbell_frame (s : State) (crew : Nat) :
    (badDoorbell s crew).reg = s.reg ∧ (badDoorbell s crew).heat = s.heat ∧
    (badDoorbell s crew).sprint = s.sprint ∧ (badDoorbell s crew).ports = s.ports ∧
    (badDoorbell s crew).grid = s.grid ∧ (badDoorbell s crew).tile = s.tile ∧
    (badDoorbell s crew).att = s.att ∧ (badDoorbell s crew).tier = s.tier ∧
    (badDoorbell s crew).net = s.net ∧ (badDoorbell s crew).links = s.links ∧
    (badDoorbell s crew).coll = s.coll ∧ (badDoorbell s crew).host.mem = s.host.mem ∧
    (badDoorbell s crew).crew = s.crew ∧ (badDoorbell s crew).power = s.power ∧
    (badDoorbell s crew).twin = s.twin ∧ (badDoorbell s crew).ud = s.ud ∧
    (badDoorbell s crew).back = s.back ∧ (badDoorbell s crew).now = s.now ∧
    (badDoorbell s crew).free = s.free ∧ (badDoorbell s crew).pending = s.pending := by
  simp [badDoorbell]

@[simp] theorem ctrPut_frame (s : State) (crew : Nat) (k : Nat) (v : Nat) (err : Bool) :
    (ctrPut s crew k v err).regs = s.regs ∧ (ctrPut s crew k v err).reg = s.reg ∧
    (ctrPut s crew k v err).heat = s.heat ∧ (ctrPut s crew k v err).sprint = s.sprint ∧
    (ctrPut s crew k v err).ports = s.ports ∧ (ctrPut s crew k v err).grid = s.grid ∧
    (ctrPut s crew k v err).tile = s.tile ∧ (ctrPut s crew k v err).att = s.att ∧
    (ctrPut s crew k v err).tier = s.tier ∧ (ctrPut s crew k v err).net = s.net ∧
    (ctrPut s crew k v err).links = s.links ∧ (ctrPut s crew k v err).coll = s.coll ∧
    (ctrPut s crew k v err).host.mem = s.host.mem ∧ (ctrPut s crew k v err).crew = s.crew ∧
    (ctrPut s crew k v err).power = s.power ∧ (ctrPut s crew k v err).twin = s.twin ∧
    (ctrPut s crew k v err).ud = s.ud ∧ (ctrPut s crew k v err).back = s.back ∧
    (ctrPut s crew k v err).now = s.now ∧ (ctrPut s crew k v err).free = s.free ∧
    (ctrPut s crew k v err).pending = s.pending := by
  simp [ctrPut]

@[simp] theorem makeReady_frame (s : State) (i : Nat) (c : Slot) :
    (makeReady s i c).regs = s.regs ∧ (makeReady s i c).reg = s.reg ∧
    (makeReady s i c).heat = s.heat ∧ (makeReady s i c).sprint = s.sprint ∧
    (makeReady s i c).ports = s.ports ∧ (makeReady s i c).grid = s.grid ∧
    (makeReady s i c).tile = s.tile ∧ (makeReady s i c).att = s.att ∧
    (makeReady s i c).tier.data = s.tier.data ∧ (makeReady s i c).net = s.net ∧
    (makeReady s i c).links = s.links ∧ (makeReady s i c).coll = s.coll ∧
    (makeReady s i c).host.mem = s.host.mem ∧ (makeReady s i c).crew = s.crew ∧
    (makeReady s i c).power = s.power ∧ (makeReady s i c).twin = s.twin ∧
    (makeReady s i c).ud = s.ud ∧ (makeReady s i c).back = s.back ∧
    (makeReady s i c).now = s.now ∧ (makeReady s i c).free = s.free ∧
    (makeReady s i c).pending = s.pending := by
  simp [makeReady]

@[simp] theorem sqAdvance_frame (s : State) (crew : Nat) (n : Nat) :
    (sqAdvance s crew n).regs = s.regs ∧ (sqAdvance s crew n).reg = s.reg ∧
    (sqAdvance s crew n).heat = s.heat ∧ (sqAdvance s crew n).sprint = s.sprint ∧
    (sqAdvance s crew n).ports = s.ports ∧ (sqAdvance s crew n).grid = s.grid ∧
    (sqAdvance s crew n).tile = s.tile ∧ (sqAdvance s crew n).att = s.att ∧
    (sqAdvance s crew n).tier = s.tier ∧ (sqAdvance s crew n).net = s.net ∧
    (sqAdvance s crew n).links = s.links ∧ (sqAdvance s crew n).coll = s.coll ∧
    (sqAdvance s crew n).host.mem = s.host.mem ∧ (sqAdvance s crew n).crew = s.crew ∧
    (sqAdvance s crew n).power = s.power ∧ (sqAdvance s crew n).twin = s.twin ∧
    (sqAdvance s crew n).ud = s.ud ∧ (sqAdvance s crew n).back = s.back ∧
    (sqAdvance s crew n).now = s.now ∧ (sqAdvance s crew n).free = s.free ∧
    (sqAdvance s crew n).pending = s.pending := by
  simp [sqAdvance]

@[simp] theorem writeRecord_frame (s : State) (c : Slot) :
    (writeRecord s c).regs = s.regs ∧ (writeRecord s c).reg = s.reg ∧
    (writeRecord s c).heat = s.heat ∧ (writeRecord s c).sprint = s.sprint ∧
    (writeRecord s c).ports = s.ports ∧ (writeRecord s c).grid = s.grid ∧
    (writeRecord s c).tile = s.tile ∧ (writeRecord s c).att = s.att ∧
    (writeRecord s c).tier = s.tier ∧ (writeRecord s c).net = s.net ∧
    (writeRecord s c).links = s.links ∧ (writeRecord s c).coll = s.coll ∧
    (writeRecord s c).crew = s.crew ∧ (writeRecord s c).power = s.power ∧
    (writeRecord s c).twin = s.twin ∧ (writeRecord s c).ud = s.ud ∧
    (writeRecord s c).back = s.back ∧ (writeRecord s c).now = s.now ∧
    (writeRecord s c).free = s.free ∧ (writeRecord s c).pending = s.pending := by
  simp [writeRecord]

@[simp] theorem recordOut_frame (s : State) (i : Nat) :
    (recordOut s i).reg = s.reg ∧ (recordOut s i).heat = s.heat ∧
    (recordOut s i).sprint = s.sprint ∧ (recordOut s i).ports = s.ports ∧
    (recordOut s i).grid = s.grid ∧ (recordOut s i).tile = s.tile ∧ (recordOut s i).att = s.att ∧
    (recordOut s i).tier = s.tier ∧ (recordOut s i).net = s.net ∧
    (recordOut s i).links = s.links ∧ (recordOut s i).coll = s.coll ∧
    (recordOut s i).crew = s.crew ∧ (recordOut s i).power = s.power ∧
    (recordOut s i).twin = s.twin ∧ (recordOut s i).ud = s.ud ∧ (recordOut s i).back = s.back ∧
    (recordOut s i).now = s.now ∧ (recordOut s i).free = s.free ∧
    (recordOut s i).pending = s.pending := by
  simp only [recordOut]
  repeat' split
  all_goals simp

end Sys2Proof.Machine
end

