-- ==== Sys2Proof/Laws/FrameCrew.lean ====
section
/-!
SUPPORT. What the operations of Machine/Crew.lean leave unchanged.
-/
namespace Sys2Proof.Machine
open Sys2Proof

@[simp] theorem enginesStop_frame (s : State) (c : Nat) :
    (enginesStop s c).regs = s.regs ∧ (enginesStop s c).reg = s.reg ∧
    (enginesStop s c).heat = s.heat ∧ (enginesStop s c).sprint = s.sprint ∧
    (enginesStop s c).ports = s.ports ∧ (enginesStop s c).grid = s.grid ∧
    (enginesStop s c).tier.data = s.tier.data ∧ (enginesStop s c).links = s.links ∧
    (enginesStop s c).coll = s.coll ∧ (enginesStop s c).host.mem = s.host.mem ∧
    (enginesStop s c).crew = s.crew ∧ (enginesStop s c).power = s.power ∧
    (enginesStop s c).twin = s.twin ∧ (enginesStop s c).ud = s.ud ∧
    (enginesStop s c).back = s.back ∧ (enginesStop s c).now = s.now ∧
    (enginesStop s c).free = s.free ∧ (enginesStop s c).pending = s.pending := by
  simp only [enginesStop]
  repeat' split
  all_goals simp

@[simp] theorem crewReset_frame (s : State) (c : Nat) :
    (crewReset s c).reg = s.reg ∧ (crewReset s c).heat = s.heat ∧
    (crewReset s c).sprint.readout = s.sprint.readout ∧ (crewReset s c).ports = s.ports ∧
    (crewReset s c).grid = s.grid ∧ (crewReset s c).tier.data = s.tier.data ∧
    (crewReset s c).host.mem = s.host.mem ∧ (crewReset s c).power = s.power ∧
    (crewReset s c).twin = s.twin ∧ (crewReset s c).ud = s.ud ∧ (crewReset s c).back = s.back ∧
    (crewReset s c).now = s.now ∧ (crewReset s c).free = s.free ∧
    (crewReset s c).pending = s.pending := by
  simp [crewReset]

@[simp] theorem crewClear_frame (s : State) (c : Nat) :
    (crewClear s c).reg = s.reg ∧ (crewClear s c).heat = s.heat ∧
    (crewClear s c).sprint = s.sprint ∧ (crewClear s c).ports = s.ports ∧
    (crewClear s c).grid.scratch = s.grid.scratch ∧ (crewClear s c).tile = s.tile ∧
    (crewClear s c).att = s.att ∧ (crewClear s c).tier.data = s.tier.data ∧
    (crewClear s c).net = s.net ∧ (crewClear s c).links = s.links ∧
    (crewClear s c).coll = s.coll ∧ (crewClear s c).host.mem = s.host.mem ∧
    (crewClear s c).power = s.power ∧ (crewClear s c).twin = s.twin ∧ (crewClear s c).ud = s.ud ∧
    (crewClear s c).back = s.back ∧ (crewClear s c).now = s.now ∧ (crewClear s c).free = s.free ∧
    (crewClear s c).pending = s.pending := by
  simp [crewClear]

@[simp] theorem crewFinish_frame (s : State) (c : Nat) :
    (crewFinish s c).reg = s.reg ∧ (crewFinish s c).heat = s.heat ∧
    (crewFinish s c).sprint = s.sprint ∧ (crewFinish s c).ports = s.ports ∧
    (crewFinish s c).grid.scratch = s.grid.scratch ∧ (crewFinish s c).tile = s.tile ∧
    (crewFinish s c).att = s.att ∧ (crewFinish s c).tier.data = s.tier.data ∧
    (crewFinish s c).net = s.net ∧ (crewFinish s c).links = s.links ∧
    (crewFinish s c).coll = s.coll ∧ (crewFinish s c).host.mem = s.host.mem ∧
    (crewFinish s c).power = s.power ∧ (crewFinish s c).twin = s.twin ∧
    (crewFinish s c).ud = s.ud ∧ (crewFinish s c).back = s.back ∧ (crewFinish s c).now = s.now ∧
    (crewFinish s c).free = s.free ∧ (crewFinish s c).pending = s.pending := by
  simp [crewFinish]

@[simp] theorem idleShells_frame (s : State) (c : Nat) :
    (idleShells s c).regs = s.regs ∧ (idleShells s c).reg = s.reg ∧
    (idleShells s c).heat = s.heat ∧ (idleShells s c).sprint = s.sprint ∧
    (idleShells s c).ports = s.ports ∧ (idleShells s c).grid.scratch = s.grid.scratch ∧
    (idleShells s c).tile = s.tile ∧ (idleShells s c).att = s.att ∧
    (idleShells s c).tier.data = s.tier.data ∧ (idleShells s c).net = s.net ∧
    (idleShells s c).links = s.links ∧ (idleShells s c).coll = s.coll ∧
    (idleShells s c).host.mem = s.host.mem ∧ (idleShells s c).crew = s.crew ∧
    (idleShells s c).power = s.power ∧ (idleShells s c).twin = s.twin ∧
    (idleShells s c).ud = s.ud ∧ (idleShells s c).back = s.back ∧ (idleShells s c).now = s.now ∧
    (idleShells s c).free = s.free ∧ (idleShells s c).pending = s.pending := by
  simp [idleShells]

@[simp] theorem scrubCrew_frame (s : State) (c : Nat) :
    (scrubCrew s c).heat = s.heat ∧ (scrubCrew s c).sprint.readout = s.sprint.readout ∧
    (scrubCrew s c).ports = s.ports ∧ (scrubCrew s c).grid = s.grid ∧
    (scrubCrew s c).net = s.net ∧ (scrubCrew s c).links = s.links ∧
    (scrubCrew s c).host.mem = s.host.mem ∧ (scrubCrew s c).crew = s.crew ∧
    (scrubCrew s c).power = s.power ∧ (scrubCrew s c).twin = s.twin ∧
    (scrubCrew s c).ud.vcount = s.ud.vcount ∧ (scrubCrew s c).ud.staging = s.ud.staging ∧
    (scrubCrew s c).back = s.back ∧ (scrubCrew s c).now = s.now ∧ (scrubCrew s c).free = s.free ∧
    (scrubCrew s c).pending = s.pending := by
  simp [scrubCrew]

@[simp] theorem scrubMask_frame (s : State) (mask : Nat) :
    (scrubMask s mask).heat = s.heat ∧ (scrubMask s mask).sprint.readout = s.sprint.readout ∧
    (scrubMask s mask).ports = s.ports ∧ (scrubMask s mask).grid = s.grid ∧
    (scrubMask s mask).net = s.net ∧ (scrubMask s mask).links = s.links ∧
    (scrubMask s mask).host.mem = s.host.mem ∧ (scrubMask s mask).crew = s.crew ∧
    (scrubMask s mask).power = s.power ∧ (scrubMask s mask).twin = s.twin ∧
    (scrubMask s mask).ud.vcount = s.ud.vcount ∧ (scrubMask s mask).ud.staging = s.ud.staging ∧
    (scrubMask s mask).back = s.back ∧ (scrubMask s mask).now = s.now ∧
    (scrubMask s mask).free = s.free ∧ (scrubMask s mask).pending = s.pending := by
  simp [scrubMask]

end Sys2Proof.Machine
end

