-- ==== Sys2Proof/Laws/FrameSeal.lean ====
section
/-!
SUPPORT. What the operations of Machine/Seal.lean leave unchanged.
-/
namespace Sys2Proof.Machine
open Sys2Proof

@[simp] theorem closeBlock_vcount (u : SealSt) (c : Nat) (t : Time) :
    (closeBlock u c t).vcount = u.vcount ∧ (closeBlock u c t).staging = u.staging := by
  simp only [closeBlock]
  split <;> simp

@[simp] theorem sinceAdd_vcount (u : SealSt) (i c : Nat) :
    (sinceAdd u i c).vcount = u.vcount ∧ (sinceAdd u i c).staging = u.staging := by
  simp [sinceAdd]

@[simp] theorem setTState_vcount (u : SealSt) (t : Time) (x : SealTime) :
    (setTState u t x).vcount = u.vcount ∧ (setTState u t x).staging = u.staging := by
  simp [setTState]

@[simp] theorem appendRecord_vcount (u : SealSt) (m : TapMsg) (t : Time) :
    (appendRecord u m t).vcount = u.vcount ∧ (appendRecord u m t).staging = u.staging := by
  simp only [appendRecord]
  repeat' split
  all_goals simp

@[simp] theorem formRecord_frame (s : State) (m : TapMsg) (t : Time) :
    (formRecord s m t).reg = s.reg ∧ (formRecord s m t).heat = s.heat ∧
    (formRecord s m t).sprint = s.sprint ∧ (formRecord s m t).ports = s.ports ∧
    (formRecord s m t).grid = s.grid ∧ (formRecord s m t).tile = s.tile ∧
    (formRecord s m t).att = s.att ∧ (formRecord s m t).tier = s.tier ∧
    (formRecord s m t).net = s.net ∧ (formRecord s m t).links = s.links ∧
    (formRecord s m t).coll = s.coll ∧ (formRecord s m t).host = s.host ∧
    (formRecord s m t).crew = s.crew ∧ (formRecord s m t).power = s.power ∧
    (formRecord s m t).twin = s.twin ∧ (formRecord s m t).ud.vcount = s.ud.vcount ∧
    (formRecord s m t).ud.staging = s.ud.staging ∧ (formRecord s m t).back = s.back ∧
    (formRecord s m t).now = s.now ∧ (formRecord s m t).free = s.free ∧
    (formRecord s m t).pending = s.pending := by
  simp only [formRecord]
  repeat' split
  all_goals simp

@[simp] theorem timeRecord_frame (s : State) (reason : Nat) (aux : Int) (t : Time) :
    (timeRecord s reason aux t).reg = s.reg ∧ (timeRecord s reason aux t).heat = s.heat ∧
    (timeRecord s reason aux t).sprint = s.sprint ∧ (timeRecord s reason aux t).ports = s.ports ∧
    (timeRecord s reason aux t).grid = s.grid ∧ (timeRecord s reason aux t).tile = s.tile ∧
    (timeRecord s reason aux t).att = s.att ∧ (timeRecord s reason aux t).tier = s.tier ∧
    (timeRecord s reason aux t).net = s.net ∧ (timeRecord s reason aux t).links = s.links ∧
    (timeRecord s reason aux t).coll = s.coll ∧ (timeRecord s reason aux t).host = s.host ∧
    (timeRecord s reason aux t).crew = s.crew ∧ (timeRecord s reason aux t).power = s.power ∧
    (timeRecord s reason aux t).twin = s.twin ∧
    (timeRecord s reason aux t).ud.vcount = s.ud.vcount ∧
    (timeRecord s reason aux t).ud.staging = s.ud.staging ∧
    (timeRecord s reason aux t).back = s.back ∧ (timeRecord s reason aux t).now = s.now ∧
    (timeRecord s reason aux t).free = s.free ∧ (timeRecord s reason aux t).pending = s.pending := by
  simp [timeRecord]

@[simp] theorem serviceRecord_frame (s : State) (reason : Nat) (img : List Byte) (t : Time) :
    (serviceRecord s reason img t).reg = s.reg ∧ (serviceRecord s reason img t).heat = s.heat ∧
    (serviceRecord s reason img t).sprint = s.sprint ∧
    (serviceRecord s reason img t).ports = s.ports ∧
    (serviceRecord s reason img t).grid = s.grid ∧ (serviceRecord s reason img t).tile = s.tile ∧
    (serviceRecord s reason img t).att = s.att ∧ (serviceRecord s reason img t).tier = s.tier ∧
    (serviceRecord s reason img t).net = s.net ∧ (serviceRecord s reason img t).links = s.links ∧
    (serviceRecord s reason img t).coll = s.coll ∧ (serviceRecord s reason img t).host = s.host ∧
    (serviceRecord s reason img t).crew = s.crew ∧
    (serviceRecord s reason img t).power = s.power ∧
    (serviceRecord s reason img t).twin = s.twin ∧
    (serviceRecord s reason img t).ud.vcount = s.ud.vcount ∧
    (serviceRecord s reason img t).ud.staging = s.ud.staging ∧
    (serviceRecord s reason img t).back = s.back ∧ (serviceRecord s reason img t).now = s.now ∧
    (serviceRecord s reason img t).free = s.free ∧
    (serviceRecord s reason img t).pending = s.pending := by
  simp [serviceRecord]

@[simp] theorem busyUpdate_frame (s : State) (t : Time) :
    (busyUpdate s t).reg = s.reg ∧ (busyUpdate s t).heat = s.heat ∧
    (busyUpdate s t).sprint = s.sprint ∧ (busyUpdate s t).ports = s.ports ∧
    (busyUpdate s t).grid = s.grid ∧ (busyUpdate s t).tile = s.tile ∧
    (busyUpdate s t).att = s.att ∧ (busyUpdate s t).tier = s.tier ∧ (busyUpdate s t).net = s.net ∧
    (busyUpdate s t).links = s.links ∧ (busyUpdate s t).coll = s.coll ∧
    (busyUpdate s t).host = s.host ∧ (busyUpdate s t).crew = s.crew ∧
    (busyUpdate s t).power = s.power ∧ (busyUpdate s t).twin = s.twin ∧
    (busyUpdate s t).ud.vcount = s.ud.vcount ∧ (busyUpdate s t).ud.staging = s.ud.staging ∧
    (busyUpdate s t).back = s.back ∧ (busyUpdate s t).now = s.now ∧
    (busyUpdate s t).free = s.free ∧ (busyUpdate s t).pending = s.pending := by
  simp [busyUpdate]

@[simp] theorem tapReceive_frame (s : State) (m : TapMsg) (t : Time) :
    (tapReceive s m t).reg = s.reg ∧ (tapReceive s m t).heat = s.heat ∧
    (tapReceive s m t).sprint = s.sprint ∧ (tapReceive s m t).ports = s.ports ∧
    (tapReceive s m t).grid = s.grid ∧ (tapReceive s m t).tile = s.tile ∧
    (tapReceive s m t).att = s.att ∧ (tapReceive s m t).tier = s.tier ∧
    (tapReceive s m t).net = s.net ∧ (tapReceive s m t).links = s.links ∧
    (tapReceive s m t).coll = s.coll ∧ (tapReceive s m t).host = s.host ∧
    (tapReceive s m t).crew = s.crew ∧ (tapReceive s m t).power = s.power ∧
    (tapReceive s m t).twin = s.twin ∧ (tapReceive s m t).ud.vcount = s.ud.vcount ∧
    (tapReceive s m t).ud.staging = s.ud.staging ∧ (tapReceive s m t).back = s.back ∧
    (tapReceive s m t).now = s.now ∧ (tapReceive s m t).free = s.free ∧
    (tapReceive s m t).pending = s.pending := by
  simp [tapReceive]

@[simp] theorem tapLoss_frame (s : State) (t : Time) :
    (tapLoss s t).reg = s.reg ∧ (tapLoss s t).heat = s.heat ∧ (tapLoss s t).sprint = s.sprint ∧
    (tapLoss s t).ports = s.ports ∧ (tapLoss s t).grid = s.grid ∧ (tapLoss s t).tile = s.tile ∧
    (tapLoss s t).att = s.att ∧ (tapLoss s t).tier = s.tier ∧ (tapLoss s t).net = s.net ∧
    (tapLoss s t).links = s.links ∧ (tapLoss s t).coll = s.coll ∧ (tapLoss s t).host = s.host ∧
    (tapLoss s t).crew = s.crew ∧ (tapLoss s t).power = s.power ∧ (tapLoss s t).twin = s.twin ∧
    (tapLoss s t).ud.vcount = s.ud.vcount ∧ (tapLoss s t).ud.staging = s.ud.staging ∧
    (tapLoss s t).back = s.back ∧ (tapLoss s t).now = s.now ∧ (tapLoss s t).free = s.free ∧
    (tapLoss s t).pending = s.pending := by
  simp [tapLoss]

@[simp] theorem exportBlock_frame (s : State) (b : LBlock) :
    (exportBlock s b).reg = s.reg ∧ (exportBlock s b).heat = s.heat ∧
    (exportBlock s b).sprint = s.sprint ∧ (exportBlock s b).ports = s.ports ∧
    (exportBlock s b).grid = s.grid ∧ (exportBlock s b).tile = s.tile ∧
    (exportBlock s b).att = s.att ∧ (exportBlock s b).tier = s.tier ∧
    (exportBlock s b).net = s.net ∧ (exportBlock s b).links = s.links ∧
    (exportBlock s b).coll = s.coll ∧ (exportBlock s b).crew = s.crew ∧
    (exportBlock s b).power = s.power ∧ (exportBlock s b).twin = s.twin ∧
    (exportBlock s b).ud = s.ud ∧ (exportBlock s b).back = s.back ∧
    (exportBlock s b).now = s.now ∧ (exportBlock s b).free = s.free ∧
    (exportBlock s b).pending = s.pending := by
  simp [exportBlock]

@[simp] theorem ledgerReplay_frame (s : State) (hi : Nat) :
    (ledgerReplay s hi).reg = s.reg ∧ (ledgerReplay s hi).heat = s.heat ∧
    (ledgerReplay s hi).sprint = s.sprint ∧ (ledgerReplay s hi).ports = s.ports ∧
    (ledgerReplay s hi).grid = s.grid ∧ (ledgerReplay s hi).tile = s.tile ∧
    (ledgerReplay s hi).att = s.att ∧ (ledgerReplay s hi).tier = s.tier ∧
    (ledgerReplay s hi).net = s.net ∧ (ledgerReplay s hi).links = s.links ∧
    (ledgerReplay s hi).coll = s.coll ∧ (ledgerReplay s hi).crew = s.crew ∧
    (ledgerReplay s hi).power = s.power ∧ (ledgerReplay s hi).twin = s.twin ∧
    (ledgerReplay s hi).ud = s.ud ∧ (ledgerReplay s hi).back = s.back ∧
    (ledgerReplay s hi).now = s.now ∧ (ledgerReplay s hi).free = s.free ∧
    (ledgerReplay s hi).pending = s.pending := by
  simp only [ledgerReplay]
  repeat' split
  all_goals simp

@[simp] theorem sealStep_frame (s : State) (d : Int) (reason : Nat) (t : Time) :
    (sealStep s d reason t).reg = s.reg ∧ (sealStep s d reason t).heat.num = s.heat.num ∧
    (sealStep s d reason t).sprint = s.sprint ∧ (sealStep s d reason t).ports = s.ports ∧
    (sealStep s d reason t).grid = s.grid ∧ (sealStep s d reason t).tile = s.tile ∧
    (sealStep s d reason t).att = s.att ∧ (sealStep s d reason t).tier = s.tier ∧
    (sealStep s d reason t).coll = s.coll ∧ (sealStep s d reason t).host.mem = s.host.mem ∧
    (sealStep s d reason t).crew = s.crew ∧ (sealStep s d reason t).power = s.power ∧
    (sealStep s d reason t).twin = s.twin ∧ (sealStep s d reason t).ud.vcount = s.ud.vcount ∧
    (sealStep s d reason t).ud.staging = s.ud.staging ∧ (sealStep s d reason t).back = s.back ∧
    (sealStep s d reason t).now = s.now ∧ (sealStep s d reason t).free = s.free ∧
    (sealStep s d reason t).pending = s.pending := by
  simp [sealStep]

@[simp] theorem enterHoldover_frame (s : State) (t : Time) :
    (enterHoldover s t).reg = s.reg ∧ (enterHoldover s t).heat = s.heat ∧
    (enterHoldover s t).sprint = s.sprint ∧ (enterHoldover s t).ports = s.ports ∧
    (enterHoldover s t).grid = s.grid ∧ (enterHoldover s t).tile = s.tile ∧
    (enterHoldover s t).att = s.att ∧ (enterHoldover s t).tier = s.tier ∧
    (enterHoldover s t).net = s.net ∧ (enterHoldover s t).links = s.links ∧
    (enterHoldover s t).coll = s.coll ∧ (enterHoldover s t).host = s.host ∧
    (enterHoldover s t).crew = s.crew ∧ (enterHoldover s t).power = s.power ∧
    (enterHoldover s t).twin = s.twin ∧ (enterHoldover s t).ud.vcount = s.ud.vcount ∧
    (enterHoldover s t).ud.staging = s.ud.staging ∧ (enterHoldover s t).back = s.back ∧
    (enterHoldover s t).now = s.now ∧ (enterHoldover s t).free = s.free ∧
    (enterHoldover s t).pending = s.pending := by
  simp [enterHoldover]

@[simp] theorem countGood_frame (s : State) (off : Int) (t : Time) :
    (countGood s off t).reg = s.reg ∧ (countGood s off t).heat = s.heat ∧
    (countGood s off t).sprint = s.sprint ∧ (countGood s off t).ports = s.ports ∧
    (countGood s off t).grid = s.grid ∧ (countGood s off t).tile = s.tile ∧
    (countGood s off t).att = s.att ∧ (countGood s off t).tier = s.tier ∧
    (countGood s off t).net = s.net ∧ (countGood s off t).links = s.links ∧
    (countGood s off t).coll = s.coll ∧ (countGood s off t).host = s.host ∧
    (countGood s off t).crew = s.crew ∧ (countGood s off t).power = s.power ∧
    (countGood s off t).twin = s.twin ∧ (countGood s off t).ud.vcount = s.ud.vcount ∧
    (countGood s off t).ud.staging = s.ud.staging ∧ (countGood s off t).back = s.back ∧
    (countGood s off t).now = s.now ∧ (countGood s off t).free = s.free ∧
    (countGood s off t).pending = s.pending := by
  simp [countGood]

@[simp] theorem notGood_frame (s : State) :
    (notGood s).regs = s.regs ∧ (notGood s).reg = s.reg ∧ (notGood s).heat = s.heat ∧
    (notGood s).sprint = s.sprint ∧ (notGood s).ports = s.ports ∧ (notGood s).grid = s.grid ∧
    (notGood s).tile = s.tile ∧ (notGood s).att = s.att ∧ (notGood s).tier = s.tier ∧
    (notGood s).net = s.net ∧ (notGood s).links = s.links ∧ (notGood s).coll = s.coll ∧
    (notGood s).host = s.host ∧ (notGood s).crew = s.crew ∧ (notGood s).power = s.power ∧
    (notGood s).twin = s.twin ∧ (notGood s).ud.vcount = s.ud.vcount ∧
    (notGood s).ud.staging = s.ud.staging ∧ (notGood s).back = s.back ∧ (notGood s).now = s.now ∧
    (notGood s).free = s.free ∧ (notGood s).pending = s.pending := by
  simp [notGood]

@[simp] theorem svcReply_frame (s : State) (op : Nat) (status : Nat) (q : Svc) (arg : Nat) (body : List Byte) :
    (svcReply s op status q arg body).regs = s.regs ∧
    (svcReply s op status q arg body).reg = s.reg ∧
    (svcReply s op status q arg body).heat = s.heat ∧
    (svcReply s op status q arg body).sprint = s.sprint ∧
    (svcReply s op status q arg body).ports = s.ports ∧
    (svcReply s op status q arg body).grid = s.grid ∧
    (svcReply s op status q arg body).tile = s.tile ∧
    (svcReply s op status q arg body).att = s.att ∧
    (svcReply s op status q arg body).tier = s.tier ∧
    (svcReply s op status q arg body).net = s.net ∧
    (svcReply s op status q arg body).links = s.links ∧
    (svcReply s op status q arg body).coll = s.coll ∧
    (svcReply s op status q arg body).host = s.host ∧
    (svcReply s op status q arg body).crew = s.crew ∧
    (svcReply s op status q arg body).power = s.power ∧
    (svcReply s op status q arg body).twin = s.twin ∧
    (svcReply s op status q arg body).ud.vcount = s.ud.vcount ∧
    (svcReply s op status q arg body).ud.staging = s.ud.staging ∧
    (svcReply s op status q arg body).back = s.back ∧
    (svcReply s op status q arg body).now = s.now ∧
    (svcReply s op status q arg body).free = s.free ∧
    (svcReply s op status q arg body).pending = s.pending := by
  simp [svcReply]

@[simp] theorem formAll_frame (a0 : Nat) (a1 : State) (a2 : Time) :
    (formAll a0 a1 a2).reg = a1.reg ∧ (formAll a0 a1 a2).heat = a1.heat ∧
    (formAll a0 a1 a2).sprint = a1.sprint ∧ (formAll a0 a1 a2).ports = a1.ports ∧
    (formAll a0 a1 a2).grid = a1.grid ∧ (formAll a0 a1 a2).tile = a1.tile ∧
    (formAll a0 a1 a2).att = a1.att ∧ (formAll a0 a1 a2).tier = a1.tier ∧
    (formAll a0 a1 a2).net = a1.net ∧ (formAll a0 a1 a2).links = a1.links ∧
    (formAll a0 a1 a2).coll = a1.coll ∧ (formAll a0 a1 a2).host = a1.host ∧
    (formAll a0 a1 a2).crew = a1.crew ∧ (formAll a0 a1 a2).power = a1.power ∧
    (formAll a0 a1 a2).twin = a1.twin ∧ (formAll a0 a1 a2).ud.vcount = a1.ud.vcount ∧
    (formAll a0 a1 a2).ud.staging = a1.ud.staging ∧ (formAll a0 a1 a2).back = a1.back ∧
    (formAll a0 a1 a2).now = a1.now ∧ (formAll a0 a1 a2).free = a1.free ∧
    (formAll a0 a1 a2).pending = a1.pending := by
  induction a0 generalizing a1 with
  | zero => simp [formAll]
  | succ n ih =>
    simp only [formAll]
    repeat' split
    all_goals (try simp only [ih]); simp

@[simp] theorem exportSigned_frame (s : State) (l : List LBlock) :
    (exportSigned s l).reg = s.reg ∧ (exportSigned s l).heat = s.heat ∧
    (exportSigned s l).sprint = s.sprint ∧ (exportSigned s l).ports = s.ports ∧
    (exportSigned s l).grid = s.grid ∧ (exportSigned s l).tile = s.tile ∧
    (exportSigned s l).att = s.att ∧ (exportSigned s l).tier = s.tier ∧
    (exportSigned s l).net = s.net ∧ (exportSigned s l).links = s.links ∧
    (exportSigned s l).coll = s.coll ∧ (exportSigned s l).crew = s.crew ∧
    (exportSigned s l).power = s.power ∧ (exportSigned s l).twin = s.twin ∧
    (exportSigned s l).ud = s.ud ∧ (exportSigned s l).back = s.back ∧
    (exportSigned s l).now = s.now ∧ (exportSigned s l).free = s.free ∧
    (exportSigned s l).pending = s.pending := by
  simp [exportSigned]

@[simp] theorem sealIntoReset_frame (s : State) (cause : Nat) (reason : Nat) (t : Time) :
    (sealIntoReset s cause reason t).reg = s.reg ∧
    (sealIntoReset s cause reason t).heat.num = s.heat.num ∧
    (sealIntoReset s cause reason t).sprint = s.sprint ∧
    (sealIntoReset s cause reason t).ports = s.ports ∧
    (sealIntoReset s cause reason t).grid = s.grid ∧
    (sealIntoReset s cause reason t).tile = s.tile ∧
    (sealIntoReset s cause reason t).att = s.att ∧
    (sealIntoReset s cause reason t).tier = s.tier ∧
    (sealIntoReset s cause reason t).coll = s.coll ∧
    (sealIntoReset s cause reason t).crew = s.crew ∧
    (sealIntoReset s cause reason t).power = s.power ∧
    (sealIntoReset s cause reason t).twin = s.twin ∧
    (sealIntoReset s cause reason t).ud.vcount = s.ud.vcount ∧
    (sealIntoReset s cause reason t).ud.staging = s.ud.staging ∧
    (sealIntoReset s cause reason t).back = s.back ∧
    (sealIntoReset s cause reason t).now = s.now ∧
    (sealIntoReset s cause reason t).free = s.free ∧
    (sealIntoReset s cause reason t).pending = s.pending := by
  simp [sealIntoReset]

end Sys2Proof.Machine
end

