-- ==== Sys2Proof/Laws/FrameTokenOps.lean ====
section
/-!
SUPPORT. What the operations of Machine/TokenOps.lean leave unchanged.
-/
namespace Sys2Proof.Machine
open Sys2Proof

@[simp] theorem epCount_frame (s : State) (port : Nat) (j : Nat) (c : Nat) :
    (epCount s port j c).reg = s.reg ∧ (epCount s port j c).heat = s.heat ∧
    (epCount s port j c).sprint = s.sprint ∧ (epCount s port j c).ports = s.ports ∧
    (epCount s port j c).grid = s.grid ∧ (epCount s port j c).tile = s.tile ∧
    (epCount s port j c).att = s.att ∧ (epCount s port j c).tier = s.tier ∧
    (epCount s port j c).net = s.net ∧ (epCount s port j c).links = s.links ∧
    (epCount s port j c).coll = s.coll ∧ (epCount s port j c).host = s.host ∧
    (epCount s port j c).crew = s.crew ∧ (epCount s port j c).power = s.power ∧
    (epCount s port j c).twin = s.twin ∧ (epCount s port j c).ud = s.ud ∧
    (epCount s port j c).back = s.back ∧ (epCount s port j c).now = s.now ∧
    (epCount s port j c).free = s.free ∧ (epCount s port j c).pending = s.pending := by
  simp only [epCount]
  repeat' split
  all_goals simp

@[simp] theorem aggAdd_frame (s : State) (reason : Nat) (port : Nat) (t : Time) (stamp : Time) :
    (aggAdd s reason port t stamp).regs = s.regs ∧ (aggAdd s reason port t stamp).reg = s.reg ∧
    (aggAdd s reason port t stamp).heat = s.heat ∧
    (aggAdd s reason port t stamp).sprint = s.sprint ∧
    (aggAdd s reason port t stamp).ports.live = s.ports.live ∧
    (aggAdd s reason port t stamp).ports.shadow = s.ports.shadow ∧
    (aggAdd s reason port t stamp).grid = s.grid ∧ (aggAdd s reason port t stamp).tile = s.tile ∧
    (aggAdd s reason port t stamp).att = s.att ∧ (aggAdd s reason port t stamp).tier = s.tier ∧
    (aggAdd s reason port t stamp).net = s.net ∧ (aggAdd s reason port t stamp).links = s.links ∧
    (aggAdd s reason port t stamp).coll = s.coll ∧ (aggAdd s reason port t stamp).host = s.host ∧
    (aggAdd s reason port t stamp).crew = s.crew ∧
    (aggAdd s reason port t stamp).power = s.power ∧
    (aggAdd s reason port t stamp).twin = s.twin ∧ (aggAdd s reason port t stamp).ud = s.ud ∧
    (aggAdd s reason port t stamp).back = s.back ∧ (aggAdd s reason port t stamp).now = s.now ∧
    (aggAdd s reason port t stamp).free = s.free ∧
    (aggAdd s reason port t stamp).pending = s.pending := by
  simp [aggAdd]

@[simp] theorem tblHw_frame (s : State) (a : Nat) (b : List Byte) :
    (tblHw s a b).regs = s.regs ∧ (tblHw s a b).reg = s.reg ∧ (tblHw s a b).heat = s.heat ∧
    (tblHw s a b).sprint = s.sprint ∧ (tblHw s a b).grid = s.grid ∧ (tblHw s a b).tile = s.tile ∧
    (tblHw s a b).att = s.att ∧ (tblHw s a b).tier = s.tier ∧ (tblHw s a b).net = s.net ∧
    (tblHw s a b).links = s.links ∧ (tblHw s a b).coll = s.coll ∧ (tblHw s a b).host = s.host ∧
    (tblHw s a b).crew = s.crew ∧ (tblHw s a b).power = s.power ∧ (tblHw s a b).twin = s.twin ∧
    (tblHw s a b).ud = s.ud ∧ (tblHw s a b).back = s.back ∧ (tblHw s a b).now = s.now ∧
    (tblHw s a b).free = s.free ∧ (tblHw s a b).pending = s.pending := by
  simp [tblHw]

@[simp] theorem bumpEpoch_frame (s : State) (port : Nat) (i : Nat) :
    (bumpEpoch s port i).regs = s.regs ∧ (bumpEpoch s port i).reg = s.reg ∧
    (bumpEpoch s port i).heat = s.heat ∧ (bumpEpoch s port i).sprint = s.sprint ∧
    (bumpEpoch s port i).grid = s.grid ∧ (bumpEpoch s port i).tile = s.tile ∧
    (bumpEpoch s port i).att = s.att ∧ (bumpEpoch s port i).tier = s.tier ∧
    (bumpEpoch s port i).net = s.net ∧ (bumpEpoch s port i).links = s.links ∧
    (bumpEpoch s port i).coll = s.coll ∧ (bumpEpoch s port i).host = s.host ∧
    (bumpEpoch s port i).crew = s.crew ∧ (bumpEpoch s port i).power = s.power ∧
    (bumpEpoch s port i).twin = s.twin ∧ (bumpEpoch s port i).ud = s.ud ∧
    (bumpEpoch s port i).back = s.back ∧ (bumpEpoch s port i).now = s.now ∧
    (bumpEpoch s port i).free = s.free ∧ (bumpEpoch s port i).pending = s.pending := by
  simp [bumpEpoch]

@[simp] theorem tokMod_frame (s : State) (tag : Nat) (f : Token → Token) :
    (tokMod s tag f).regs = s.regs ∧ (tokMod s tag f).reg = s.reg ∧
    (tokMod s tag f).heat = s.heat ∧ (tokMod s tag f).sprint.readout = s.sprint.readout ∧
    (tokMod s tag f).ports = s.ports ∧ (tokMod s tag f).grid = s.grid ∧
    (tokMod s tag f).tile = s.tile ∧ (tokMod s tag f).att = s.att ∧
    (tokMod s tag f).tier = s.tier ∧ (tokMod s tag f).net = s.net ∧
    (tokMod s tag f).links = s.links ∧ (tokMod s tag f).coll = s.coll ∧
    (tokMod s tag f).host = s.host ∧ (tokMod s tag f).crew = s.crew ∧
    (tokMod s tag f).power = s.power ∧ (tokMod s tag f).twin = s.twin ∧
    (tokMod s tag f).ud = s.ud ∧ (tokMod s tag f).back = s.back ∧ (tokMod s tag f).now = s.now ∧
    (tokMod s tag f).free = s.free ∧ (tokMod s tag f).pending = s.pending := by
  simp [tokMod]

@[simp] theorem withdraw_frame (s : State) (key : Nat) :
    (withdraw s key).regs = s.regs ∧ (withdraw s key).reg = s.reg ∧
    (withdraw s key).heat = s.heat ∧ (withdraw s key).sprint = s.sprint ∧
    (withdraw s key).ports = s.ports ∧ (withdraw s key).grid = s.grid ∧
    (withdraw s key).tile = s.tile ∧ (withdraw s key).att = s.att ∧
    (withdraw s key).tier = s.tier ∧ (withdraw s key).net = s.net ∧
    (withdraw s key).coll = s.coll ∧ (withdraw s key).host = s.host ∧
    (withdraw s key).crew = s.crew ∧ (withdraw s key).power = s.power ∧
    (withdraw s key).twin = s.twin ∧ (withdraw s key).ud = s.ud ∧ (withdraw s key).back = s.back ∧
    (withdraw s key).now = s.now ∧ (withdraw s key).free = s.free ∧
    (withdraw s key).pending = s.pending := by
  simp [withdraw]

@[simp] theorem cbeOutcome_frame (s : State) (x : Token) :
    (cbeOutcome s x).regs = s.regs ∧ (cbeOutcome s x).reg = s.reg ∧
    (cbeOutcome s x).heat = s.heat ∧ (cbeOutcome s x).sprint = s.sprint ∧
    (cbeOutcome s x).ports = s.ports ∧ (cbeOutcome s x).grid = s.grid ∧
    (cbeOutcome s x).tile = s.tile ∧ (cbeOutcome s x).att = s.att ∧
    (cbeOutcome s x).tier = s.tier ∧ (cbeOutcome s x).net = s.net ∧
    (cbeOutcome s x).links = s.links ∧ (cbeOutcome s x).coll = s.coll ∧
    (cbeOutcome s x).host = s.host ∧ (cbeOutcome s x).crew = s.crew ∧
    (cbeOutcome s x).power = s.power ∧ (cbeOutcome s x).ud = s.ud ∧
    (cbeOutcome s x).back = s.back ∧ (cbeOutcome s x).now = s.now ∧
    (cbeOutcome s x).free = s.free ∧ (cbeOutcome s x).pending = s.pending := by
  simp [cbeOutcome]

@[simp] theorem tokenGone_frame (s : State) (x : Token) :
    (tokenGone s x).reg = s.reg ∧ (tokenGone s x).heat = s.heat ∧
    (tokenGone s x).sprint.readout = s.sprint.readout ∧ (tokenGone s x).ports = s.ports ∧
    (tokenGone s x).grid = s.grid ∧ (tokenGone s x).tile = s.tile ∧ (tokenGone s x).att = s.att ∧
    (tokenGone s x).tier = s.tier ∧ (tokenGone s x).net = s.net ∧ (tokenGone s x).coll = s.coll ∧
    (tokenGone s x).host.mem = s.host.mem ∧ (tokenGone s x).crew = s.crew ∧
    (tokenGone s x).power = s.power ∧ (tokenGone s x).ud = s.ud ∧ (tokenGone s x).back = s.back ∧
    (tokenGone s x).now = s.now ∧ (tokenGone s x).free = s.free ∧
    (tokenGone s x).pending = s.pending := by
  simp [tokenGone]

@[simp] theorem tokenTap_frame (s : State) (x : Token) (type : Nat) (reason : Nat) :
    (tokenTap s x type reason).regs = s.regs ∧ (tokenTap s x type reason).reg = s.reg ∧
    (tokenTap s x type reason).heat = s.heat ∧ (tokenTap s x type reason).sprint = s.sprint ∧
    (tokenTap s x type reason).ports = s.ports ∧ (tokenTap s x type reason).grid = s.grid ∧
    (tokenTap s x type reason).tile = s.tile ∧ (tokenTap s x type reason).att = s.att ∧
    (tokenTap s x type reason).tier = s.tier ∧ (tokenTap s x type reason).net = s.net ∧
    (tokenTap s x type reason).links = s.links ∧ (tokenTap s x type reason).coll = s.coll ∧
    (tokenTap s x type reason).host = s.host ∧ (tokenTap s x type reason).crew = s.crew ∧
    (tokenTap s x type reason).power = s.power ∧ (tokenTap s x type reason).twin = s.twin ∧
    (tokenTap s x type reason).ud.vcount = s.ud.vcount ∧
    (tokenTap s x type reason).ud.staging = s.ud.staging ∧
    (tokenTap s x type reason).back = s.back ∧ (tokenTap s x type reason).now = s.now ∧
    (tokenTap s x type reason).free = s.free ∧ (tokenTap s x type reason).pending = s.pending := by
  simp [tokenTap]

@[simp] theorem suppress_frame (s : State) (x : Token) (reason : Nat) :
    (suppress s x reason).reg = s.reg ∧ (suppress s x reason).heat = s.heat ∧
    (suppress s x reason).sprint.readout = s.sprint.readout ∧
    (suppress s x reason).ports = s.ports ∧ (suppress s x reason).grid = s.grid ∧
    (suppress s x reason).tile = s.tile ∧ (suppress s x reason).att = s.att ∧
    (suppress s x reason).tier = s.tier ∧ (suppress s x reason).net = s.net ∧
    (suppress s x reason).coll = s.coll ∧ (suppress s x reason).host.mem = s.host.mem ∧
    (suppress s x reason).crew = s.crew ∧ (suppress s x reason).power = s.power ∧
    (suppress s x reason).ud.vcount = s.ud.vcount ∧
    (suppress s x reason).ud.staging = s.ud.staging ∧ (suppress s x reason).back = s.back ∧
    (suppress s x reason).now = s.now ∧ (suppress s x reason).free = s.free ∧
    (suppress s x reason).pending = s.pending := by
  simp [suppress]

@[simp] theorem digestAdd_frame (s : State) (heat : Nat) (dec : Bool) (entry : DWord) :
    (digestAdd s heat dec entry).regs = s.regs ∧ (digestAdd s heat dec entry).reg = s.reg ∧
    (digestAdd s heat dec entry).heat = s.heat ∧ (digestAdd s heat dec entry).sprint = s.sprint ∧
    (digestAdd s heat dec entry).ports = s.ports ∧ (digestAdd s heat dec entry).grid = s.grid ∧
    (digestAdd s heat dec entry).tile = s.tile ∧ (digestAdd s heat dec entry).att = s.att ∧
    (digestAdd s heat dec entry).tier = s.tier ∧ (digestAdd s heat dec entry).net = s.net ∧
    (digestAdd s heat dec entry).links = s.links ∧ (digestAdd s heat dec entry).coll = s.coll ∧
    (digestAdd s heat dec entry).host = s.host ∧ (digestAdd s heat dec entry).crew = s.crew ∧
    (digestAdd s heat dec entry).power = s.power ∧ (digestAdd s heat dec entry).ud = s.ud ∧
    (digestAdd s heat dec entry).back = s.back ∧ (digestAdd s heat dec entry).now = s.now ∧
    (digestAdd s heat dec entry).free = s.free ∧ (digestAdd s heat dec entry).pending = s.pending := by
  simp only [digestAdd]
  repeat' split
  all_goals simp

@[simp] theorem voidCount_frame (s : State) (port : Nat) (verdict : Nat) (c : Nat) :
    (voidCount s port verdict c).reg = s.reg ∧ (voidCount s port verdict c).heat = s.heat ∧
    (voidCount s port verdict c).sprint = s.sprint ∧
    (voidCount s port verdict c).ports = s.ports ∧ (voidCount s port verdict c).grid = s.grid ∧
    (voidCount s port verdict c).tile = s.tile ∧ (voidCount s port verdict c).att = s.att ∧
    (voidCount s port verdict c).tier = s.tier ∧ (voidCount s port verdict c).net = s.net ∧
    (voidCount s port verdict c).links = s.links ∧ (voidCount s port verdict c).coll = s.coll ∧
    (voidCount s port verdict c).host = s.host ∧ (voidCount s port verdict c).crew = s.crew ∧
    (voidCount s port verdict c).power = s.power ∧ (voidCount s port verdict c).twin = s.twin ∧
    (voidCount s port verdict c).ud = s.ud ∧ (voidCount s port verdict c).back = s.back ∧
    (voidCount s port verdict c).now = s.now ∧ (voidCount s port verdict c).free = s.free ∧
    (voidCount s port verdict c).pending = s.pending := by
  simp [voidCount]

end Sys2Proof.Machine
end

