-- ==== Sys2Proof/Laws/FramePorts.lean ====
section
/-!
SUPPORT. What the operations of Machine/Ports.lean leave unchanged.
-/
namespace Sys2Proof.Machine
open Sys2Proof

@[simp] theorem ingressDrop_frame (s : State) (port : Nat) (t : Time) :
    (ingressDrop s port t).reg = s.reg ∧ (ingressDrop s port t).heat = s.heat ∧
    (ingressDrop s port t).sprint = s.sprint ∧ (ingressDrop s port t).ports.live = s.ports.live ∧
    (ingressDrop s port t).ports.shadow = s.ports.shadow ∧ (ingressDrop s port t).grid = s.grid ∧
    (ingressDrop s port t).tile = s.tile ∧ (ingressDrop s port t).att = s.att ∧
    (ingressDrop s port t).tier = s.tier ∧ (ingressDrop s port t).net = s.net ∧
    (ingressDrop s port t).links = s.links ∧ (ingressDrop s port t).coll = s.coll ∧
    (ingressDrop s port t).host = s.host ∧ (ingressDrop s port t).crew = s.crew ∧
    (ingressDrop s port t).power = s.power ∧ (ingressDrop s port t).twin = s.twin ∧
    (ingressDrop s port t).ud = s.ud ∧ (ingressDrop s port t).back = s.back ∧
    (ingressDrop s port t).now = s.now ∧ (ingressDrop s port t).free = s.free ∧
    (ingressDrop s port t).pending = s.pending := by
  simp [ingressDrop]

@[simp] theorem ingressRoom_frame (s : State) (port : Nat) (t : Time) :
    (ingressRoom s port t).reg = s.reg ∧ (ingressRoom s port t).heat = s.heat ∧
    (ingressRoom s port t).sprint = s.sprint ∧ (ingressRoom s port t).ports.live = s.ports.live ∧
    (ingressRoom s port t).ports.shadow = s.ports.shadow ∧ (ingressRoom s port t).grid = s.grid ∧
    (ingressRoom s port t).tile = s.tile ∧ (ingressRoom s port t).att = s.att ∧
    (ingressRoom s port t).tier = s.tier ∧ (ingressRoom s port t).net = s.net ∧
    (ingressRoom s port t).links = s.links ∧ (ingressRoom s port t).coll = s.coll ∧
    (ingressRoom s port t).host = s.host ∧ (ingressRoom s port t).crew = s.crew ∧
    (ingressRoom s port t).power = s.power ∧ (ingressRoom s port t).twin = s.twin ∧
    (ingressRoom s port t).ud = s.ud ∧ (ingressRoom s port t).back = s.back ∧
    (ingressRoom s port t).now = s.now ∧ (ingressRoom s port t).free = s.free ∧
    (ingressRoom s port t).pending = s.pending := by
  simp only [ingressRoom]
  repeat' split
  all_goals simp

@[simp] theorem frameMod_frame (s : State) (port : Nat) (stamp : Time) (f : RxFrame → RxFrame) :
    (frameMod s port stamp f).regs = s.regs ∧ (frameMod s port stamp f).reg = s.reg ∧
    (frameMod s port stamp f).heat = s.heat ∧ (frameMod s port stamp f).sprint = s.sprint ∧
    (frameMod s port stamp f).ports.live = s.ports.live ∧
    (frameMod s port stamp f).ports.shadow = s.ports.shadow ∧
    (frameMod s port stamp f).grid = s.grid ∧ (frameMod s port stamp f).tile = s.tile ∧
    (frameMod s port stamp f).att = s.att ∧ (frameMod s port stamp f).tier = s.tier ∧
    (frameMod s port stamp f).net = s.net ∧ (frameMod s port stamp f).links = s.links ∧
    (frameMod s port stamp f).coll = s.coll ∧ (frameMod s port stamp f).host = s.host ∧
    (frameMod s port stamp f).crew = s.crew ∧ (frameMod s port stamp f).power = s.power ∧
    (frameMod s port stamp f).twin = s.twin ∧ (frameMod s port stamp f).ud = s.ud ∧
    (frameMod s port stamp f).back = s.back ∧ (frameMod s port stamp f).now = s.now ∧
    (frameMod s port stamp f).free = s.free ∧ (frameMod s port stamp f).pending = s.pending := by
  simp only [frameMod]
  repeat' split
  all_goals simp

@[simp] theorem frameDone_frame (s : State) (port : Nat) (stamp : Time) :
    (frameDone s port stamp).reg = s.reg ∧ (frameDone s port stamp).heat = s.heat ∧
    (frameDone s port stamp).sprint = s.sprint ∧
    (frameDone s port stamp).ports.live = s.ports.live ∧
    (frameDone s port stamp).ports.shadow = s.ports.shadow ∧
    (frameDone s port stamp).grid = s.grid ∧ (frameDone s port stamp).tile = s.tile ∧
    (frameDone s port stamp).att = s.att ∧ (frameDone s port stamp).tier = s.tier ∧
    (frameDone s port stamp).net = s.net ∧ (frameDone s port stamp).links = s.links ∧
    (frameDone s port stamp).coll = s.coll ∧ (frameDone s port stamp).host = s.host ∧
    (frameDone s port stamp).crew = s.crew ∧ (frameDone s port stamp).power = s.power ∧
    (frameDone s port stamp).twin = s.twin ∧ (frameDone s port stamp).ud = s.ud ∧
    (frameDone s port stamp).back = s.back ∧ (frameDone s port stamp).now = s.now ∧
    (frameDone s port stamp).free = s.free ∧ (frameDone s port stamp).pending = s.pending := by
  simp only [frameDone]
  repeat' split
  all_goals simp

@[simp] theorem markLast_frame (s : State) (port : Nat) (stamp : Time) (idx : Nat) :
    (markLast s port stamp idx).regs = s.regs ∧ (markLast s port stamp idx).reg = s.reg ∧
    (markLast s port stamp idx).heat = s.heat ∧
    (markLast s port stamp idx).sprint.readout = s.sprint.readout ∧
    (markLast s port stamp idx).ports.live = s.ports.live ∧
    (markLast s port stamp idx).ports.shadow = s.ports.shadow ∧
    (markLast s port stamp idx).grid = s.grid ∧ (markLast s port stamp idx).tile = s.tile ∧
    (markLast s port stamp idx).att = s.att ∧ (markLast s port stamp idx).tier = s.tier ∧
    (markLast s port stamp idx).net = s.net ∧ (markLast s port stamp idx).links = s.links ∧
    (markLast s port stamp idx).coll = s.coll ∧ (markLast s port stamp idx).host = s.host ∧
    (markLast s port stamp idx).crew = s.crew ∧ (markLast s port stamp idx).power = s.power ∧
    (markLast s port stamp idx).twin = s.twin ∧ (markLast s port stamp idx).ud = s.ud ∧
    (markLast s port stamp idx).back = s.back ∧ (markLast s port stamp idx).now = s.now ∧
    (markLast s port stamp idx).free = s.free ∧ (markLast s port stamp idx).pending = s.pending := by
  simp [markLast]

@[simp] theorem parseEnd_frame (s : State) (port : Nat) (stamp : Time) :
    (parseEnd s port stamp).reg = s.reg ∧ (parseEnd s port stamp).heat = s.heat ∧
    (parseEnd s port stamp).sprint.readout = s.sprint.readout ∧
    (parseEnd s port stamp).ports.live = s.ports.live ∧
    (parseEnd s port stamp).ports.shadow = s.ports.shadow ∧
    (parseEnd s port stamp).grid = s.grid ∧ (parseEnd s port stamp).tile = s.tile ∧
    (parseEnd s port stamp).att = s.att ∧ (parseEnd s port stamp).tier = s.tier ∧
    (parseEnd s port stamp).net = s.net ∧ (parseEnd s port stamp).links = s.links ∧
    (parseEnd s port stamp).coll = s.coll ∧ (parseEnd s port stamp).host = s.host ∧
    (parseEnd s port stamp).crew = s.crew ∧ (parseEnd s port stamp).power = s.power ∧
    (parseEnd s port stamp).twin = s.twin ∧ (parseEnd s port stamp).ud = s.ud ∧
    (parseEnd s port stamp).back = s.back ∧ (parseEnd s port stamp).now = s.now ∧
    (parseEnd s port stamp).free = s.free ∧ (parseEnd s port stamp).pending = s.pending := by
  simp only [parseEnd]
  repeat' split
  all_goals simp

@[simp] theorem exceptionCopy_frame (s : State) (port : Nat) (f : RxFrame) :
    (exceptionCopy s port f).reg = s.reg ∧ (exceptionCopy s port f).heat = s.heat ∧
    (exceptionCopy s port f).sprint = s.sprint ∧ (exceptionCopy s port f).ports = s.ports ∧
    (exceptionCopy s port f).grid = s.grid ∧ (exceptionCopy s port f).tile = s.tile ∧
    (exceptionCopy s port f).att = s.att ∧ (exceptionCopy s port f).tier = s.tier ∧
    (exceptionCopy s port f).net = s.net ∧ (exceptionCopy s port f).links = s.links ∧
    (exceptionCopy s port f).coll = s.coll ∧ (exceptionCopy s port f).crew = s.crew ∧
    (exceptionCopy s port f).power = s.power ∧ (exceptionCopy s port f).twin = s.twin ∧
    (exceptionCopy s port f).ud = s.ud ∧ (exceptionCopy s port f).back = s.back ∧
    (exceptionCopy s port f).now = s.now ∧ (exceptionCopy s port f).free = s.free ∧
    (exceptionCopy s port f).pending = s.pending := by
  simp [exceptionCopy]

@[simp] theorem deepEnd_frame (s : State) (port : Nat) (stamp : Time) (layers : Nat) :
    (deepEnd s port stamp layers).reg = s.reg ∧ (deepEnd s port stamp layers).heat = s.heat ∧
    (deepEnd s port stamp layers).sprint.readout = s.sprint.readout ∧
    (deepEnd s port stamp layers).ports.live = s.ports.live ∧
    (deepEnd s port stamp layers).ports.shadow = s.ports.shadow ∧
    (deepEnd s port stamp layers).grid = s.grid ∧ (deepEnd s port stamp layers).tile = s.tile ∧
    (deepEnd s port stamp layers).att = s.att ∧ (deepEnd s port stamp layers).tier = s.tier ∧
    (deepEnd s port stamp layers).net = s.net ∧ (deepEnd s port stamp layers).links = s.links ∧
    (deepEnd s port stamp layers).coll = s.coll ∧ (deepEnd s port stamp layers).crew = s.crew ∧
    (deepEnd s port stamp layers).power = s.power ∧ (deepEnd s port stamp layers).twin = s.twin ∧
    (deepEnd s port stamp layers).ud = s.ud ∧ (deepEnd s port stamp layers).back = s.back ∧
    (deepEnd s port stamp layers).now = s.now ∧ (deepEnd s port stamp layers).free = s.free ∧
    (deepEnd s port stamp layers).pending = s.pending := by
  simp only [deepEnd]
  repeat' split
  all_goals simp

@[simp] theorem inconsistent_frame (s : State) (port : Nat) (r : ParserRun) (ctr : Option Nat) :
    (inconsistent s port r ctr).reg = s.reg ∧ (inconsistent s port r ctr).heat = s.heat ∧
    (inconsistent s port r ctr).sprint.readout = s.sprint.readout ∧
    (inconsistent s port r ctr).grid = s.grid ∧ (inconsistent s port r ctr).tile = s.tile ∧
    (inconsistent s port r ctr).att = s.att ∧ (inconsistent s port r ctr).tier = s.tier ∧
    (inconsistent s port r ctr).net = s.net ∧ (inconsistent s port r ctr).links = s.links ∧
    (inconsistent s port r ctr).coll = s.coll ∧ (inconsistent s port r ctr).host = s.host ∧
    (inconsistent s port r ctr).crew = s.crew ∧ (inconsistent s port r ctr).power = s.power ∧
    (inconsistent s port r ctr).twin = s.twin ∧ (inconsistent s port r ctr).ud = s.ud ∧
    (inconsistent s port r ctr).back = s.back ∧ (inconsistent s port r ctr).now = s.now ∧
    (inconsistent s port r ctr).free = s.free ∧ (inconsistent s port r ctr).pending = s.pending := by
  simp only [inconsistent]
  repeat' split
  all_goals simp

@[simp] theorem parserGo_frame (s : State) (port : Nat) (r : ParserRun) :
    (parserGo s port r).reg = s.reg ∧ (parserGo s port r).heat = s.heat ∧
    (parserGo s port r).sprint.readout = s.sprint.readout ∧
    (parserGo s port r).ports.live = s.ports.live ∧
    (parserGo s port r).ports.shadow = s.ports.shadow ∧ (parserGo s port r).grid = s.grid ∧
    (parserGo s port r).tile = s.tile ∧ (parserGo s port r).att = s.att ∧
    (parserGo s port r).tier = s.tier ∧ (parserGo s port r).net = s.net ∧
    (parserGo s port r).links = s.links ∧ (parserGo s port r).coll = s.coll ∧
    (parserGo s port r).host = s.host ∧ (parserGo s port r).crew = s.crew ∧
    (parserGo s port r).power = s.power ∧ (parserGo s port r).twin = s.twin ∧
    (parserGo s port r).ud = s.ud ∧ (parserGo s port r).back = s.back ∧
    (parserGo s port r).now = s.now ∧ (parserGo s port r).free = s.free ∧
    (parserGo s port r).pending = s.pending := by
  simp [parserGo]

@[simp] theorem parserStuck_frame (s : State) (port : Nat) (r : ParserRun) :
    (parserStuck s port r).reg = s.reg ∧ (parserStuck s port r).heat = s.heat ∧
    (parserStuck s port r).sprint.readout = s.sprint.readout ∧
    (parserStuck s port r).ports.live = s.ports.live ∧
    (parserStuck s port r).ports.shadow = s.ports.shadow ∧ (parserStuck s port r).grid = s.grid ∧
    (parserStuck s port r).tile = s.tile ∧ (parserStuck s port r).att = s.att ∧
    (parserStuck s port r).tier = s.tier ∧ (parserStuck s port r).net = s.net ∧
    (parserStuck s port r).links = s.links ∧ (parserStuck s port r).coll = s.coll ∧
    (parserStuck s port r).host = s.host ∧ (parserStuck s port r).crew = s.crew ∧
    (parserStuck s port r).power = s.power ∧ (parserStuck s port r).twin = s.twin ∧
    (parserStuck s port r).ud = s.ud ∧ (parserStuck s port r).back = s.back ∧
    (parserStuck s port r).now = s.now ∧ (parserStuck s port r).free = s.free ∧
    (parserStuck s port r).pending = s.pending := by
  simp only [parserStuck]
  repeat' split
  all_goals simp

@[simp] theorem formToken_frame (s : State) (port : Nat) (r : ParserRun) (t : Time) :
    (formToken s port r t).reg = s.reg ∧ (formToken s port r t).heat = s.heat ∧
    (formToken s port r t).sprint = s.sprint ∧ (formToken s port r t).ports.live = s.ports.live ∧
    (formToken s port r t).ports.shadow = s.ports.shadow ∧ (formToken s port r t).grid = s.grid ∧
    (formToken s port r t).tile = s.tile ∧ (formToken s port r t).att = s.att ∧
    (formToken s port r t).tier = s.tier ∧ (formToken s port r t).net = s.net ∧
    (formToken s port r t).links = s.links ∧ (formToken s port r t).coll = s.coll ∧
    (formToken s port r t).host = s.host ∧ (formToken s port r t).crew = s.crew ∧
    (formToken s port r t).power = s.power ∧ (formToken s port r t).twin = s.twin ∧
    (formToken s port r t).ud = s.ud ∧ (formToken s port r t).back = s.back ∧
    (formToken s port r t).now = s.now ∧ (formToken s port r t).free = s.free ∧
    (formToken s port r t).pending = s.pending := by
  simp only [formToken]
  repeat' split
  all_goals simp

@[simp] theorem tokensVerdict_frame (s : State) (port : Nat) (stamp : Time) (v : Nat) :
    (tokensVerdict s port stamp v).reg = s.reg ∧ (tokensVerdict s port stamp v).heat = s.heat ∧
    (tokensVerdict s port stamp v).sprint.readout = s.sprint.readout ∧
    (tokensVerdict s port stamp v).ports.live = s.ports.live ∧
    (tokensVerdict s port stamp v).ports.shadow = s.ports.shadow ∧
    (tokensVerdict s port stamp v).grid = s.grid ∧ (tokensVerdict s port stamp v).tile = s.tile ∧
    (tokensVerdict s port stamp v).att = s.att ∧ (tokensVerdict s port stamp v).tier = s.tier ∧
    (tokensVerdict s port stamp v).net = s.net ∧ (tokensVerdict s port stamp v).coll = s.coll ∧
    (tokensVerdict s port stamp v).host.mem = s.host.mem ∧
    (tokensVerdict s port stamp v).crew = s.crew ∧
    (tokensVerdict s port stamp v).power = s.power ∧
    (tokensVerdict s port stamp v).ud.vcount = s.ud.vcount ∧
    (tokensVerdict s port stamp v).ud.staging = s.ud.staging ∧
    (tokensVerdict s port stamp v).back = s.back ∧ (tokensVerdict s port stamp v).now = s.now ∧
    (tokensVerdict s port stamp v).free = s.free ∧
    (tokensVerdict s port stamp v).pending = s.pending := by
  simp [tokensVerdict]

@[simp] theorem sequence_frame (s : State) (k : TokRec) :
    (sequence s k).2.reg = s.reg ∧ (sequence s k).2.heat = s.heat ∧
    (sequence s k).2.sprint = s.sprint ∧ (sequence s k).2.grid = s.grid ∧
    (sequence s k).2.tile = s.tile ∧ (sequence s k).2.att = s.att ∧
    (sequence s k).2.tier = s.tier ∧ (sequence s k).2.net = s.net ∧
    (sequence s k).2.links = s.links ∧ (sequence s k).2.coll = s.coll ∧
    (sequence s k).2.host = s.host ∧ (sequence s k).2.crew = s.crew ∧
    (sequence s k).2.power = s.power ∧ (sequence s k).2.twin = s.twin ∧
    (sequence s k).2.ud = s.ud ∧ (sequence s k).2.back = s.back ∧ (sequence s k).2.now = s.now ∧
    (sequence s k).2.free = s.free ∧ (sequence s k).2.pending = s.pending := by
  simp only [sequence]
  repeat' split
  all_goals simp

@[simp] theorem passToken_frame (s : State) (k : TokRec) (heat : Nat) :
    (passToken s k heat).reg = s.reg ∧ (passToken s k heat).heat = s.heat ∧
    (passToken s k heat).sprint.readout = s.sprint.readout ∧
    (passToken s k heat).ports = s.ports ∧ (passToken s k heat).grid = s.grid ∧
    (passToken s k heat).tile = s.tile ∧ (passToken s k heat).att = s.att ∧
    (passToken s k heat).tier = s.tier ∧ (passToken s k heat).net = s.net ∧
    (passToken s k heat).links = s.links ∧ (passToken s k heat).coll = s.coll ∧
    (passToken s k heat).host = s.host ∧ (passToken s k heat).crew = s.crew ∧
    (passToken s k heat).power = s.power ∧ (passToken s k heat).ud.vcount = s.ud.vcount ∧
    (passToken s k heat).ud.staging = s.ud.staging ∧ (passToken s k heat).back = s.back ∧
    (passToken s k heat).now = s.now ∧ (passToken s k heat).free = s.free ∧
    (passToken s k heat).pending = s.pending := by
  simp only [passToken]
  repeat' split
  all_goals simp

@[simp] theorem tablesSwap_frame (s : State) :
    (tablesSwap s).regs = s.regs ∧ (tablesSwap s).reg = s.reg ∧ (tablesSwap s).heat = s.heat ∧
    (tablesSwap s).sprint = s.sprint ∧ (tablesSwap s).ports.shadow = s.ports.shadow ∧
    (tablesSwap s).grid = s.grid ∧ (tablesSwap s).tile = s.tile ∧ (tablesSwap s).att = s.att ∧
    (tablesSwap s).tier = s.tier ∧ (tablesSwap s).net = s.net ∧ (tablesSwap s).links = s.links ∧
    (tablesSwap s).coll = s.coll ∧ (tablesSwap s).host = s.host ∧ (tablesSwap s).crew = s.crew ∧
    (tablesSwap s).power = s.power ∧ (tablesSwap s).twin = s.twin ∧ (tablesSwap s).ud = s.ud ∧
    (tablesSwap s).back = s.back ∧ (tablesSwap s).now = s.now ∧ (tablesSwap s).free = s.free ∧
    (tablesSwap s).pending = s.pending := by
  simp [tablesSwap]

@[simp] theorem tblPut_frame (s : State) (w : Nat × Word) :
    (tblPut s w).regs = s.regs ∧ (tblPut s w).reg = s.reg ∧ (tblPut s w).heat = s.heat ∧
    (tblPut s w).sprint = s.sprint ∧ (tblPut s w).ports.live = s.ports.live ∧
    (tblPut s w).grid = s.grid ∧ (tblPut s w).tile = s.tile ∧ (tblPut s w).att = s.att ∧
    (tblPut s w).tier = s.tier ∧ (tblPut s w).net = s.net ∧ (tblPut s w).links = s.links ∧
    (tblPut s w).coll = s.coll ∧ (tblPut s w).host = s.host ∧ (tblPut s w).crew = s.crew ∧
    (tblPut s w).power = s.power ∧ (tblPut s w).twin = s.twin ∧ (tblPut s w).ud = s.ud ∧
    (tblPut s w).back = s.back ∧ (tblPut s w).now = s.now ∧ (tblPut s w).free = s.free ∧
    (tblPut s w).pending = s.pending := by
  simp [tblPut]

@[simp] theorem tblWrite_frame (s : State) (v : Word) :
    (tblWrite s v).reg = s.reg ∧ (tblWrite s v).heat = s.heat ∧ (tblWrite s v).sprint = s.sprint ∧
    (tblWrite s v).ports.live = s.ports.live ∧ (tblWrite s v).grid = s.grid ∧
    (tblWrite s v).tile = s.tile ∧ (tblWrite s v).att = s.att ∧ (tblWrite s v).tier = s.tier ∧
    (tblWrite s v).net = s.net ∧ (tblWrite s v).links = s.links ∧ (tblWrite s v).coll = s.coll ∧
    (tblWrite s v).host = s.host ∧ (tblWrite s v).crew = s.crew ∧ (tblWrite s v).power = s.power ∧
    (tblWrite s v).twin = s.twin ∧ (tblWrite s v).ud = s.ud ∧ (tblWrite s v).back = s.back ∧
    (tblWrite s v).now = s.now ∧ (tblWrite s v).free = s.free ∧ (tblWrite s v).pending = s.pending := by
  simp [tblWrite]

end Sys2Proof.Machine
end

