-- ==== Sys2Proof/Laws/FrameSprint.lean ====
section
/-!
SUPPORT. What the operations of Machine/Sprint.lean leave unchanged.
-/
namespace Sys2Proof.Machine
open Sys2Proof

@[simp] theorem takeQuery_frame (s : State) (g : Nat) (gr : Group) (tag : Nat) (heat : Nat) (weft : Bool) (q : List Half) :
    (takeQuery s g gr tag heat weft q).regs = s.regs ∧
    (takeQuery s g gr tag heat weft q).reg = s.reg ∧
    (takeQuery s g gr tag heat weft q).heat = s.heat ∧
    (takeQuery s g gr tag heat weft q).sprint.readout = s.sprint.readout ∧
    (takeQuery s g gr tag heat weft q).ports = s.ports ∧
    (takeQuery s g gr tag heat weft q).grid = s.grid ∧
    (takeQuery s g gr tag heat weft q).tile = s.tile ∧
    (takeQuery s g gr tag heat weft q).att = s.att ∧
    (takeQuery s g gr tag heat weft q).tier = s.tier ∧
    (takeQuery s g gr tag heat weft q).net = s.net ∧
    (takeQuery s g gr tag heat weft q).links = s.links ∧
    (takeQuery s g gr tag heat weft q).coll = s.coll ∧
    (takeQuery s g gr tag heat weft q).host = s.host ∧
    (takeQuery s g gr tag heat weft q).crew = s.crew ∧
    (takeQuery s g gr tag heat weft q).power = s.power ∧
    (takeQuery s g gr tag heat weft q).twin = s.twin ∧
    (takeQuery s g gr tag heat weft q).ud = s.ud ∧
    (takeQuery s g gr tag heat weft q).back = s.back ∧
    (takeQuery s g gr tag heat weft q).now = s.now ∧
    (takeQuery s g gr tag heat weft q).free = s.free ∧
    (takeQuery s g gr tag heat weft q).pending = s.pending := by
  simp only [takeQuery]
  repeat' split
  all_goals simp

@[simp] theorem sendQueries_frame (s : State) (x : Token) (l : Nat) (xs : List Word) :
    (sendQueries s x l xs).1.reg = s.reg ∧ (sendQueries s x l xs).1.heat = s.heat ∧
    (sendQueries s x l xs).1.sprint.readout = s.sprint.readout ∧
    (sendQueries s x l xs).1.ports = s.ports ∧ (sendQueries s x l xs).1.grid = s.grid ∧
    (sendQueries s x l xs).1.tile = s.tile ∧ (sendQueries s x l xs).1.att = s.att ∧
    (sendQueries s x l xs).1.tier = s.tier ∧ (sendQueries s x l xs).1.coll = s.coll ∧
    (sendQueries s x l xs).1.host = s.host ∧ (sendQueries s x l xs).1.crew = s.crew ∧
    (sendQueries s x l xs).1.power = s.power ∧ (sendQueries s x l xs).1.twin = s.twin ∧
    (sendQueries s x l xs).1.ud = s.ud ∧ (sendQueries s x l xs).1.back = s.back ∧
    (sendQueries s x l xs).1.now = s.now ∧ (sendQueries s x l xs).1.free = s.free ∧
    (sendQueries s x l xs).1.pending = s.pending := by
  simp only [sendQueries]
  repeat' split
  all_goals simp

@[simp] theorem jobMod_frame (s : State) (g : Nat) (tag : Nat) (weft : Bool) (f : PosJob → PosJob) :
    (jobMod s g tag weft f).regs = s.regs ∧ (jobMod s g tag weft f).reg = s.reg ∧
    (jobMod s g tag weft f).heat = s.heat ∧
    (jobMod s g tag weft f).sprint.readout = s.sprint.readout ∧
    (jobMod s g tag weft f).ports = s.ports ∧ (jobMod s g tag weft f).grid = s.grid ∧
    (jobMod s g tag weft f).tile = s.tile ∧ (jobMod s g tag weft f).att = s.att ∧
    (jobMod s g tag weft f).tier = s.tier ∧ (jobMod s g tag weft f).net = s.net ∧
    (jobMod s g tag weft f).links = s.links ∧ (jobMod s g tag weft f).coll = s.coll ∧
    (jobMod s g tag weft f).host = s.host ∧ (jobMod s g tag weft f).crew = s.crew ∧
    (jobMod s g tag weft f).power = s.power ∧ (jobMod s g tag weft f).twin = s.twin ∧
    (jobMod s g tag weft f).ud = s.ud ∧ (jobMod s g tag weft f).back = s.back ∧
    (jobMod s g tag weft f).now = s.now ∧ (jobMod s g tag weft f).free = s.free ∧
    (jobMod s g tag weft f).pending = s.pending := by
  simp [jobMod]

@[simp] theorem sprintSum_frame (s : State) (n : TreeNode) (v : List Word) (fl : Flags) :
    (sprintSum s n v fl).reg = s.reg ∧ (sprintSum s n v fl).heat = s.heat ∧
    (sprintSum s n v fl).sprint.readout = s.sprint.readout ∧
    (sprintSum s n v fl).ports = s.ports ∧ (sprintSum s n v fl).grid = s.grid ∧
    (sprintSum s n v fl).tile = s.tile ∧ (sprintSum s n v fl).att = s.att ∧
    (sprintSum s n v fl).tier = s.tier ∧ (sprintSum s n v fl).coll = s.coll ∧
    (sprintSum s n v fl).host = s.host ∧ (sprintSum s n v fl).crew = s.crew ∧
    (sprintSum s n v fl).power = s.power ∧ (sprintSum s n v fl).ud = s.ud ∧
    (sprintSum s n v fl).back = s.back ∧ (sprintSum s n v fl).now = s.now ∧
    (sprintSum s n v fl).free = s.free ∧ (sprintSum s n v fl).pending = s.pending := by
  simp only [sprintSum]
  repeat' split
  all_goals simp

@[simp] theorem sprintArrive_frame (s : State) (gr : Group) (p : HPkt) :
    (sprintArrive s gr p).reg = s.reg ∧ (sprintArrive s gr p).heat = s.heat ∧
    (sprintArrive s gr p).sprint.readout = s.sprint.readout ∧
    (sprintArrive s gr p).ports = s.ports ∧ (sprintArrive s gr p).grid = s.grid ∧
    (sprintArrive s gr p).tile = s.tile ∧ (sprintArrive s gr p).att = s.att ∧
    (sprintArrive s gr p).tier = s.tier ∧ (sprintArrive s gr p).host = s.host ∧
    (sprintArrive s gr p).crew = s.crew ∧ (sprintArrive s gr p).power = s.power ∧
    (sprintArrive s gr p).twin = s.twin ∧ (sprintArrive s gr p).ud = s.ud ∧
    (sprintArrive s gr p).back = s.back ∧ (sprintArrive s gr p).now = s.now ∧
    (sprintArrive s gr p).free = s.free ∧ (sprintArrive s gr p).pending = s.pending := by
  simp only [sprintArrive]
  repeat' split
  all_goals try
    have h := congrArg Prod.fst ‹assemble _ _ _ = _›
    dsimp only at h
    subst h
  all_goals simp

@[simp] theorem release_frame (s : State) (x : Token) :
    (release s x).reg = s.reg ∧ (release s x).heat = s.heat ∧
    (release s x).sprint.readout = s.sprint.readout ∧ (release s x).ports.live = s.ports.live ∧
    (release s x).ports.shadow = s.ports.shadow ∧ (release s x).grid = s.grid ∧
    (release s x).tile = s.tile ∧ (release s x).att = s.att ∧ (release s x).tier = s.tier ∧
    (release s x).net = s.net ∧ (release s x).coll = s.coll ∧
    (release s x).host.mem = s.host.mem ∧ (release s x).crew = s.crew ∧
    (release s x).power = s.power ∧ (release s x).ud.vcount = s.ud.vcount ∧
    (release s x).ud.staging = s.ud.staging ∧ (release s x).back = s.back ∧
    (release s x).now = s.now ∧ (release s x).pending = s.pending := by
  simp [release]

@[simp] theorem cbeJudge_frame (s : State) (x : Token) (m : Option (Bool × DWord)) :
    (cbeJudge s x m).reg = s.reg ∧ (cbeJudge s x m).heat = s.heat ∧
    (cbeJudge s x m).sprint.readout = s.sprint.readout ∧
    (cbeJudge s x m).ports.live = s.ports.live ∧ (cbeJudge s x m).ports.shadow = s.ports.shadow ∧
    (cbeJudge s x m).grid = s.grid ∧ (cbeJudge s x m).tile = s.tile ∧
    (cbeJudge s x m).att = s.att ∧ (cbeJudge s x m).tier = s.tier ∧ (cbeJudge s x m).net = s.net ∧
    (cbeJudge s x m).coll = s.coll ∧ (cbeJudge s x m).host.mem = s.host.mem ∧
    (cbeJudge s x m).crew = s.crew ∧ (cbeJudge s x m).power = s.power ∧
    (cbeJudge s x m).ud.vcount = s.ud.vcount ∧ (cbeJudge s x m).ud.staging = s.ud.staging ∧
    (cbeJudge s x m).back = s.back ∧ (cbeJudge s x m).now = s.now ∧
    (cbeJudge s x m).pending = s.pending := by
  simp only [cbeJudge]
  repeat' split
  all_goals simp

@[simp] theorem lateSuppress_frame (s : State) (x : Token) :
    (lateSuppress s x).reg = s.reg ∧ (lateSuppress s x).heat = s.heat ∧
    (lateSuppress s x).sprint.readout = s.sprint.readout ∧ (lateSuppress s x).ports = s.ports ∧
    (lateSuppress s x).grid = s.grid ∧ (lateSuppress s x).tile = s.tile ∧
    (lateSuppress s x).att = s.att ∧ (lateSuppress s x).tier = s.tier ∧
    (lateSuppress s x).net = s.net ∧ (lateSuppress s x).coll = s.coll ∧
    (lateSuppress s x).host.mem = s.host.mem ∧ (lateSuppress s x).crew = s.crew ∧
    (lateSuppress s x).power = s.power ∧ (lateSuppress s x).ud.vcount = s.ud.vcount ∧
    (lateSuppress s x).ud.staging = s.ud.staging ∧ (lateSuppress s x).back = s.back ∧
    (lateSuppress s x).now = s.now ∧ (lateSuppress s x).pending = s.pending := by
  simp [lateSuppress]

end Sys2Proof.Machine
end

