-- ==== Sys2Proof/Laws/FrameTwin.lean ====
section
/-!
SUPPORT. What the operations of Machine/Twin.lean leave unchanged.
-/
namespace Sys2Proof.Machine
open Sys2Proof

@[simp] theorem cutPort_frame (s : State) (port : Nat) (count : Nat) :
    (cutPort s port count).reg = s.reg ∧ (cutPort s port count).heat = s.heat ∧
    (cutPort s port count).sprint = s.sprint ∧ (cutPort s port count).ports.live = s.ports.live ∧
    (cutPort s port count).ports.shadow = s.ports.shadow ∧ (cutPort s port count).grid = s.grid ∧
    (cutPort s port count).tile = s.tile ∧ (cutPort s port count).att = s.att ∧
    (cutPort s port count).tier = s.tier ∧ (cutPort s port count).net = s.net ∧
    (cutPort s port count).links = s.links ∧ (cutPort s port count).coll = s.coll ∧
    (cutPort s port count).host.mem = s.host.mem ∧ (cutPort s port count).crew = s.crew ∧
    (cutPort s port count).power = s.power ∧ (cutPort s port count).twin = s.twin ∧
    (cutPort s port count).ud = s.ud ∧ (cutPort s port count).back = s.back ∧
    (cutPort s port count).now = s.now ∧ (cutPort s port count).free = s.free ∧
    (cutPort s port count).pending = s.pending := by
  simp [cutPort]

@[simp] theorem cutOver_frame (s : State) :
    (cutOver s).regs = s.regs ∧ (cutOver s).reg = s.reg ∧ (cutOver s).heat = s.heat ∧
    (cutOver s).sprint = s.sprint ∧ (cutOver s).ports = s.ports ∧ (cutOver s).grid = s.grid ∧
    (cutOver s).tile = s.tile ∧ (cutOver s).att = s.att ∧ (cutOver s).tier = s.tier ∧
    (cutOver s).net = s.net ∧ (cutOver s).links = s.links ∧ (cutOver s).coll = s.coll ∧
    (cutOver s).host = s.host ∧ (cutOver s).crew = s.crew ∧ (cutOver s).power = s.power ∧
    (cutOver s).ud = s.ud ∧ (cutOver s).back = s.back ∧ (cutOver s).now = s.now ∧
    (cutOver s).free = s.free ∧ (cutOver s).pending = s.pending := by
  simp [cutOver]

@[simp] theorem applyCut_frame (s : State) (count0 : Nat) (count1 : Nat) :
    (applyCut s count0 count1).reg = s.reg ∧ (applyCut s count0 count1).heat = s.heat ∧
    (applyCut s count0 count1).sprint = s.sprint ∧
    (applyCut s count0 count1).ports.live = s.ports.live ∧
    (applyCut s count0 count1).ports.shadow = s.ports.shadow ∧
    (applyCut s count0 count1).grid = s.grid ∧ (applyCut s count0 count1).tile = s.tile ∧
    (applyCut s count0 count1).att = s.att ∧ (applyCut s count0 count1).tier = s.tier ∧
    (applyCut s count0 count1).net = s.net ∧ (applyCut s count0 count1).links = s.links ∧
    (applyCut s count0 count1).coll = s.coll ∧ (applyCut s count0 count1).host.mem = s.host.mem ∧
    (applyCut s count0 count1).crew = s.crew ∧ (applyCut s count0 count1).power = s.power ∧
    (applyCut s count0 count1).ud = s.ud ∧ (applyCut s count0 count1).back = s.back ∧
    (applyCut s count0 count1).now = s.now ∧ (applyCut s count0 count1).free = s.free ∧
    (applyCut s count0 count1).pending = s.pending := by
  simp [applyCut]

@[simp] theorem twinOffset_frame (s : State) (tx : Nat) (rx : Nat) :
    (twinOffset s tx rx).reg = s.reg ∧ (twinOffset s tx rx).heat = s.heat ∧
    (twinOffset s tx rx).sprint = s.sprint ∧ (twinOffset s tx rx).ports = s.ports ∧
    (twinOffset s tx rx).grid = s.grid ∧ (twinOffset s tx rx).tile = s.tile ∧
    (twinOffset s tx rx).att = s.att ∧ (twinOffset s tx rx).tier = s.tier ∧
    (twinOffset s tx rx).net = s.net ∧ (twinOffset s tx rx).links = s.links ∧
    (twinOffset s tx rx).coll = s.coll ∧ (twinOffset s tx rx).host.mem = s.host.mem ∧
    (twinOffset s tx rx).crew = s.crew ∧ (twinOffset s tx rx).power = s.power ∧
    (twinOffset s tx rx).ud = s.ud ∧ (twinOffset s tx rx).back = s.back ∧
    (twinOffset s tx rx).now = s.now ∧ (twinOffset s tx rx).free = s.free ∧
    (twinOffset s tx rx).pending = s.pending := by
  simp [twinOffset]

@[simp] theorem cutLate_frame (s : State) (t : Time) :
    (cutLate s t).reg = s.reg ∧ (cutLate s t).heat = s.heat ∧ (cutLate s t).sprint = s.sprint ∧
    (cutLate s t).ports.live = s.ports.live ∧ (cutLate s t).ports.shadow = s.ports.shadow ∧
    (cutLate s t).grid = s.grid ∧ (cutLate s t).tile = s.tile ∧ (cutLate s t).att = s.att ∧
    (cutLate s t).tier = s.tier ∧ (cutLate s t).net = s.net ∧ (cutLate s t).links = s.links ∧
    (cutLate s t).coll = s.coll ∧ (cutLate s t).host.mem = s.host.mem ∧
    (cutLate s t).crew = s.crew ∧ (cutLate s t).power = s.power ∧ (cutLate s t).ud = s.ud ∧
    (cutLate s t).back = s.back ∧ (cutLate s t).free = s.free ∧ (cutLate s t).pending = s.pending := by
  simp [cutLate]

@[simp] theorem valueMismatch_frame (s : State) (heat : Nat) (part : Nat) (rows : Nat) :
    (valueMismatch s heat part rows).heat = s.heat ∧
    (valueMismatch s heat part rows).sprint.readout = s.sprint.readout ∧
    (valueMismatch s heat part rows).ports = s.ports ∧
    (valueMismatch s heat part rows).grid = s.grid ∧
    (valueMismatch s heat part rows).tile = s.tile ∧
    (valueMismatch s heat part rows).att = s.att ∧
    (valueMismatch s heat part rows).tier = s.tier ∧
    (valueMismatch s heat part rows).net = s.net ∧
    (valueMismatch s heat part rows).links = s.links ∧
    (valueMismatch s heat part rows).coll = s.coll ∧
    (valueMismatch s heat part rows).host.mem = s.host.mem ∧
    (valueMismatch s heat part rows).crew = s.crew ∧
    (valueMismatch s heat part rows).power = s.power ∧
    (valueMismatch s heat part rows).ud.vcount = s.ud.vcount ∧
    (valueMismatch s heat part rows).ud.staging = s.ud.staging ∧
    (valueMismatch s heat part rows).back = s.back ∧
    (valueMismatch s heat part rows).now = s.now ∧
    (valueMismatch s heat part rows).free = s.free ∧
    (valueMismatch s heat part rows).pending = s.pending := by
  simp [valueMismatch]

@[simp] theorem compareDigest_frame (s : State) (heat : Nat) (own : Digest) (m : DigestMsg) :
    (compareDigest s heat own m).heat = s.heat ∧
    (compareDigest s heat own m).sprint.readout = s.sprint.readout ∧
    (compareDigest s heat own m).ports = s.ports ∧ (compareDigest s heat own m).grid = s.grid ∧
    (compareDigest s heat own m).tile = s.tile ∧ (compareDigest s heat own m).att = s.att ∧
    (compareDigest s heat own m).tier = s.tier ∧ (compareDigest s heat own m).net = s.net ∧
    (compareDigest s heat own m).links = s.links ∧ (compareDigest s heat own m).coll = s.coll ∧
    (compareDigest s heat own m).host.mem = s.host.mem ∧
    (compareDigest s heat own m).crew = s.crew ∧ (compareDigest s heat own m).power = s.power ∧
    (compareDigest s heat own m).ud.vcount = s.ud.vcount ∧
    (compareDigest s heat own m).ud.staging = s.ud.staging ∧
    (compareDigest s heat own m).back = s.back ∧ (compareDigest s heat own m).now = s.now ∧
    (compareDigest s heat own m).free = s.free ∧ (compareDigest s heat own m).pending = s.pending := by
  simp [compareDigest]

@[simp] theorem judgeDigest_frame (s : State) (h : Nat) (m : DigestMsg) :
    (judgeDigest s h m).heat = s.heat ∧ (judgeDigest s h m).sprint.readout = s.sprint.readout ∧
    (judgeDigest s h m).ports = s.ports ∧ (judgeDigest s h m).grid = s.grid ∧
    (judgeDigest s h m).tile = s.tile ∧ (judgeDigest s h m).att = s.att ∧
    (judgeDigest s h m).tier = s.tier ∧ (judgeDigest s h m).net = s.net ∧
    (judgeDigest s h m).links = s.links ∧ (judgeDigest s h m).coll = s.coll ∧
    (judgeDigest s h m).host.mem = s.host.mem ∧ (judgeDigest s h m).crew = s.crew ∧
    (judgeDigest s h m).power = s.power ∧ (judgeDigest s h m).ud.vcount = s.ud.vcount ∧
    (judgeDigest s h m).ud.staging = s.ud.staging ∧ (judgeDigest s h m).back = s.back ∧
    (judgeDigest s h m).now = s.now ∧ (judgeDigest s h m).free = s.free ∧
    (judgeDigest s h m).pending = s.pending := by
  simp [judgeDigest]

@[simp] theorem cbeMessage_frame (s : State) (id : TokenId) (m : Option (Bool × DWord)) (t : Time) :
    (cbeMessage s id m t).reg = s.reg ∧ (cbeMessage s id m t).heat = s.heat ∧
    (cbeMessage s id m t).sprint.readout = s.sprint.readout ∧
    (cbeMessage s id m t).ports.live = s.ports.live ∧
    (cbeMessage s id m t).ports.shadow = s.ports.shadow ∧ (cbeMessage s id m t).grid = s.grid ∧
    (cbeMessage s id m t).tile = s.tile ∧ (cbeMessage s id m t).att = s.att ∧
    (cbeMessage s id m t).tier = s.tier ∧ (cbeMessage s id m t).net = s.net ∧
    (cbeMessage s id m t).coll = s.coll ∧ (cbeMessage s id m t).host.mem = s.host.mem ∧
    (cbeMessage s id m t).crew = s.crew ∧ (cbeMessage s id m t).power = s.power ∧
    (cbeMessage s id m t).ud.vcount = s.ud.vcount ∧
    (cbeMessage s id m t).ud.staging = s.ud.staging ∧ (cbeMessage s id m t).back = s.back ∧
    (cbeMessage s id m t).now = s.now ∧ (cbeMessage s id m t).pending = s.pending := by
  simp only [cbeMessage]
  repeat' split
  all_goals simp

@[simp] theorem announce_frame (s : State) (c : Control) :
    (announce s c).regs = s.regs ∧ (announce s c).reg = s.reg ∧ (announce s c).heat = s.heat ∧
    (announce s c).sprint = s.sprint ∧ (announce s c).ports = s.ports ∧
    (announce s c).grid = s.grid ∧ (announce s c).tile = s.tile ∧ (announce s c).att = s.att ∧
    (announce s c).tier = s.tier ∧ (announce s c).net = s.net ∧ (announce s c).coll = s.coll ∧
    (announce s c).host = s.host ∧ (announce s c).crew = s.crew ∧ (announce s c).power = s.power ∧
    (announce s c).ud = s.ud ∧ (announce s c).back = s.back ∧ (announce s c).now = s.now ∧
    (announce s c).pending = s.pending := by
  simp [announce]

@[simp] theorem twinDetach_frame (s : State) :
    (twinDetach s).reg = s.reg ∧ (twinDetach s).heat = s.heat ∧ (twinDetach s).sprint = s.sprint ∧
    (twinDetach s).ports.live = s.ports.live ∧ (twinDetach s).ports.shadow = s.ports.shadow ∧
    (twinDetach s).grid = s.grid ∧ (twinDetach s).tile = s.tile ∧ (twinDetach s).att = s.att ∧
    (twinDetach s).tier = s.tier ∧ (twinDetach s).net = s.net ∧ (twinDetach s).coll = s.coll ∧
    (twinDetach s).host = s.host ∧ (twinDetach s).crew = s.crew ∧ (twinDetach s).power = s.power ∧
    (twinDetach s).ud = s.ud ∧ (twinDetach s).back = s.back ∧ (twinDetach s).now = s.now ∧
    (twinDetach s).pending = s.pending := by
  simp [twinDetach]

@[simp] theorem twinReattach_frame (s : State) :
    (twinReattach s).regs = s.regs ∧ (twinReattach s).reg = s.reg ∧
    (twinReattach s).heat = s.heat ∧ (twinReattach s).sprint = s.sprint ∧
    (twinReattach s).ports = s.ports ∧ (twinReattach s).grid = s.grid ∧
    (twinReattach s).tile = s.tile ∧ (twinReattach s).att = s.att ∧
    (twinReattach s).tier = s.tier ∧ (twinReattach s).net = s.net ∧
    (twinReattach s).coll = s.coll ∧ (twinReattach s).host = s.host ∧
    (twinReattach s).crew = s.crew ∧ (twinReattach s).power = s.power ∧
    (twinReattach s).ud = s.ud ∧ (twinReattach s).back = s.back ∧ (twinReattach s).now = s.now ∧
    (twinReattach s).pending = s.pending := by
  simp [twinReattach]

@[simp] theorem twinUnfence_frame (s : State) :
    (twinUnfence s).regs = s.regs ∧ (twinUnfence s).reg = s.reg ∧ (twinUnfence s).heat = s.heat ∧
    (twinUnfence s).sprint = s.sprint ∧ (twinUnfence s).ports = s.ports ∧
    (twinUnfence s).grid = s.grid ∧ (twinUnfence s).tile = s.tile ∧ (twinUnfence s).att = s.att ∧
    (twinUnfence s).tier = s.tier ∧ (twinUnfence s).net = s.net ∧ (twinUnfence s).coll = s.coll ∧
    (twinUnfence s).host = s.host ∧ (twinUnfence s).crew = s.crew ∧
    (twinUnfence s).power = s.power ∧ (twinUnfence s).ud = s.ud ∧ (twinUnfence s).back = s.back ∧
    (twinUnfence s).now = s.now ∧ (twinUnfence s).pending = s.pending := by
  simp [twinUnfence]

@[simp] theorem detachAt_frame (s : State) (b : Time) :
    (detachAt s b).reg = s.reg ∧ (detachAt s b).heat = s.heat ∧ (detachAt s b).sprint = s.sprint ∧
    (detachAt s b).ports.live = s.ports.live ∧ (detachAt s b).ports.shadow = s.ports.shadow ∧
    (detachAt s b).grid = s.grid ∧ (detachAt s b).tile = s.tile ∧ (detachAt s b).att = s.att ∧
    (detachAt s b).tier = s.tier ∧ (detachAt s b).net = s.net ∧ (detachAt s b).links = s.links ∧
    (detachAt s b).coll = s.coll ∧ (detachAt s b).host = s.host ∧ (detachAt s b).crew = s.crew ∧
    (detachAt s b).power = s.power ∧ (detachAt s b).ud = s.ud ∧ (detachAt s b).back = s.back ∧
    (detachAt s b).now = s.now ∧ (detachAt s b).free = s.free ∧ (detachAt s b).pending = s.pending := by
  simp [detachAt]

@[simp] theorem fenceAt_frame (s : State) :
    (fenceAt s).regs = s.regs ∧ (fenceAt s).reg = s.reg ∧ (fenceAt s).heat = s.heat ∧
    (fenceAt s).sprint = s.sprint ∧ (fenceAt s).ports = s.ports ∧ (fenceAt s).grid = s.grid ∧
    (fenceAt s).tile = s.tile ∧ (fenceAt s).att = s.att ∧ (fenceAt s).tier = s.tier ∧
    (fenceAt s).net = s.net ∧ (fenceAt s).links = s.links ∧ (fenceAt s).coll = s.coll ∧
    (fenceAt s).host = s.host ∧ (fenceAt s).crew = s.crew ∧ (fenceAt s).power = s.power ∧
    (fenceAt s).ud = s.ud ∧ (fenceAt s).back = s.back ∧ (fenceAt s).now = s.now ∧
    (fenceAt s).free = s.free ∧ (fenceAt s).pending = s.pending := by
  simp [fenceAt]

@[simp] theorem pairAt_frame (s : State) :
    (pairAt s).reg = s.reg ∧ (pairAt s).heat = s.heat ∧ (pairAt s).sprint = s.sprint ∧
    (pairAt s).ports = s.ports ∧ (pairAt s).grid = s.grid ∧ (pairAt s).tile = s.tile ∧
    (pairAt s).att = s.att ∧ (pairAt s).tier = s.tier ∧ (pairAt s).net = s.net ∧
    (pairAt s).links = s.links ∧ (pairAt s).coll = s.coll ∧ (pairAt s).host = s.host ∧
    (pairAt s).crew = s.crew ∧ (pairAt s).power = s.power ∧ (pairAt s).ud = s.ud ∧
    (pairAt s).back = s.back ∧ (pairAt s).now = s.now ∧ (pairAt s).free = s.free ∧
    (pairAt s).pending = s.pending := by
  simp [pairAt]

@[simp] theorem swapAt_frame (s : State) (gs : List Nat) :
    (swapAt s gs).regs = s.regs ∧ (swapAt s gs).reg = s.reg ∧ (swapAt s gs).heat = s.heat ∧
    (swapAt s gs).sprint = s.sprint ∧ (swapAt s gs).ports = s.ports ∧
    (swapAt s gs).grid = s.grid ∧ (swapAt s gs).tile = s.tile ∧ (swapAt s gs).att = s.att ∧
    (swapAt s gs).tier = s.tier ∧ (swapAt s gs).net = s.net ∧ (swapAt s gs).coll = s.coll ∧
    (swapAt s gs).host = s.host ∧ (swapAt s gs).crew = s.crew ∧ (swapAt s gs).power = s.power ∧
    (swapAt s gs).ud = s.ud ∧ (swapAt s gs).back = s.back ∧ (swapAt s gs).now = s.now ∧
    (swapAt s gs).pending = s.pending := by
  simp [swapAt]

@[simp] theorem cfgAt_frame (s : State) :
    (cfgAt s).regs = s.regs ∧ (cfgAt s).reg = s.reg ∧ (cfgAt s).heat = s.heat ∧
    (cfgAt s).sprint = s.sprint ∧ (cfgAt s).ports = s.ports ∧ (cfgAt s).grid = s.grid ∧
    (cfgAt s).tile = s.tile ∧ (cfgAt s).att = s.att ∧ (cfgAt s).tier = s.tier ∧
    (cfgAt s).net = s.net ∧ (cfgAt s).links = s.links ∧ (cfgAt s).coll = s.coll ∧
    (cfgAt s).host = s.host ∧ (cfgAt s).crew = s.crew ∧ (cfgAt s).power = s.power ∧
    (cfgAt s).ud = s.ud ∧ (cfgAt s).back = s.back ∧ (cfgAt s).now = s.now ∧
    (cfgAt s).free = s.free ∧ (cfgAt s).pending = s.pending := by
  simp only [cfgAt]
  repeat' split
  all_goals simp

@[simp] theorem digestSend_frame (s : State) (n : Nat) :
    (digestSend s n).regs = s.regs ∧ (digestSend s n).reg = s.reg ∧
    (digestSend s n).heat = s.heat ∧ (digestSend s n).sprint = s.sprint ∧
    (digestSend s n).ports = s.ports ∧ (digestSend s n).grid = s.grid ∧
    (digestSend s n).tile = s.tile ∧ (digestSend s n).att = s.att ∧
    (digestSend s n).tier = s.tier ∧ (digestSend s n).net = s.net ∧
    (digestSend s n).coll = s.coll ∧ (digestSend s n).host = s.host ∧
    (digestSend s n).crew = s.crew ∧ (digestSend s n).power = s.power ∧
    (digestSend s n).ud = s.ud ∧ (digestSend s n).back = s.back ∧ (digestSend s n).now = s.now ∧
    (digestSend s n).pending = s.pending := by
  simp only [digestSend]
  repeat' split
  all_goals simp

@[simp] theorem digestWaited_frame (s : State) :
    (digestWaited s).heat = s.heat ∧ (digestWaited s).sprint.readout = s.sprint.readout ∧
    (digestWaited s).ports = s.ports ∧ (digestWaited s).grid = s.grid ∧
    (digestWaited s).tile = s.tile ∧ (digestWaited s).att = s.att ∧
    (digestWaited s).tier = s.tier ∧ (digestWaited s).net = s.net ∧
    (digestWaited s).links = s.links ∧ (digestWaited s).coll = s.coll ∧
    (digestWaited s).host.mem = s.host.mem ∧ (digestWaited s).crew = s.crew ∧
    (digestWaited s).power = s.power ∧ (digestWaited s).ud.vcount = s.ud.vcount ∧
    (digestWaited s).ud.staging = s.ud.staging ∧ (digestWaited s).back = s.back ∧
    (digestWaited s).now = s.now ∧ (digestWaited s).free = s.free ∧
    (digestWaited s).pending = s.pending := by
  simp only [digestWaited]
  repeat' split
  all_goals simp

@[simp] theorem digestOpen_frame (s : State) (n : Nat) :
    (digestOpen s n).regs = s.regs ∧ (digestOpen s n).reg = s.reg ∧
    (digestOpen s n).heat = s.heat ∧ (digestOpen s n).sprint = s.sprint ∧
    (digestOpen s n).ports = s.ports ∧ (digestOpen s n).grid = s.grid ∧
    (digestOpen s n).tile = s.tile ∧ (digestOpen s n).att = s.att ∧
    (digestOpen s n).tier = s.tier ∧ (digestOpen s n).net = s.net ∧
    (digestOpen s n).links = s.links ∧ (digestOpen s n).coll = s.coll ∧
    (digestOpen s n).host = s.host ∧ (digestOpen s n).crew = s.crew ∧
    (digestOpen s n).power = s.power ∧ (digestOpen s n).ud = s.ud ∧
    (digestOpen s n).back = s.back ∧ (digestOpen s n).now = s.now ∧
    (digestOpen s n).free = s.free ∧ (digestOpen s n).pending = s.pending := by
  simp [digestOpen]

@[simp] theorem cutBegin_frame (s : State) (b : Time) :
    (cutBegin s b).reg = s.reg ∧ (cutBegin s b).heat = s.heat ∧ (cutBegin s b).sprint = s.sprint ∧
    (cutBegin s b).ports.live = s.ports.live ∧ (cutBegin s b).ports.shadow = s.ports.shadow ∧
    (cutBegin s b).grid = s.grid ∧ (cutBegin s b).tile = s.tile ∧ (cutBegin s b).att = s.att ∧
    (cutBegin s b).tier = s.tier ∧ (cutBegin s b).net = s.net ∧ (cutBegin s b).links = s.links ∧
    (cutBegin s b).coll = s.coll ∧ (cutBegin s b).host.mem = s.host.mem ∧
    (cutBegin s b).crew = s.crew ∧ (cutBegin s b).power = s.power ∧ (cutBegin s b).ud = s.ud ∧
    (cutBegin s b).back = s.back ∧ (cutBegin s b).now = s.now ∧ (cutBegin s b).free = s.free ∧
    (cutBegin s b).pending = s.pending := by
  simp only [cutBegin]
  repeat' split
  all_goals simp

@[simp] theorem cutSend_frame (s : State) :
    (cutSend s).regs = s.regs ∧ (cutSend s).reg = s.reg ∧ (cutSend s).heat = s.heat ∧
    (cutSend s).sprint = s.sprint ∧ (cutSend s).ports = s.ports ∧ (cutSend s).grid = s.grid ∧
    (cutSend s).tile = s.tile ∧ (cutSend s).att = s.att ∧ (cutSend s).tier = s.tier ∧
    (cutSend s).net = s.net ∧ (cutSend s).coll = s.coll ∧ (cutSend s).host = s.host ∧
    (cutSend s).crew = s.crew ∧ (cutSend s).power = s.power ∧ (cutSend s).ud = s.ud ∧
    (cutSend s).back = s.back ∧ (cutSend s).now = s.now ∧ (cutSend s).pending = s.pending := by
  simp [cutSend]

@[simp] theorem exchangeAt_frame (s : State) (b : Time) :
    (exchangeAt s b).heat = s.heat ∧ (exchangeAt s b).sprint.readout = s.sprint.readout ∧
    (exchangeAt s b).ports.live = s.ports.live ∧ (exchangeAt s b).ports.shadow = s.ports.shadow ∧
    (exchangeAt s b).grid = s.grid ∧ (exchangeAt s b).tile = s.tile ∧
    (exchangeAt s b).att = s.att ∧ (exchangeAt s b).tier = s.tier ∧ (exchangeAt s b).net = s.net ∧
    (exchangeAt s b).coll = s.coll ∧ (exchangeAt s b).host.mem = s.host.mem ∧
    (exchangeAt s b).crew = s.crew ∧ (exchangeAt s b).power = s.power ∧
    (exchangeAt s b).ud.vcount = s.ud.vcount ∧ (exchangeAt s b).ud.staging = s.ud.staging ∧
    (exchangeAt s b).back = s.back ∧ (exchangeAt s b).now = s.now ∧
    (exchangeAt s b).pending = s.pending := by
  simp [exchangeAt]

@[simp] theorem driftAt_frame (s : State) :
    (driftAt s).regs = s.regs ∧ (driftAt s).reg = s.reg ∧ (driftAt s).heat = s.heat ∧
    (driftAt s).sprint = s.sprint ∧ (driftAt s).ports = s.ports ∧ (driftAt s).grid = s.grid ∧
    (driftAt s).tile = s.tile ∧ (driftAt s).att = s.att ∧ (driftAt s).tier = s.tier ∧
    (driftAt s).net = s.net ∧ (driftAt s).links = s.links ∧ (driftAt s).coll = s.coll ∧
    (driftAt s).host = s.host ∧ (driftAt s).crew = s.crew ∧ (driftAt s).power = s.power ∧
    (driftAt s).ud = s.ud ∧ (driftAt s).back = s.back ∧ (driftAt s).now = s.now ∧
    (driftAt s).free = s.free ∧ (driftAt s).pending = s.pending := by
  simp [driftAt]

@[simp] theorem cbeAt_frame (s : State) :
    (cbeAt s).regs = s.regs ∧ (cbeAt s).reg = s.reg ∧ (cbeAt s).heat = s.heat ∧
    (cbeAt s).sprint = s.sprint ∧ (cbeAt s).ports = s.ports ∧ (cbeAt s).grid = s.grid ∧
    (cbeAt s).tile = s.tile ∧ (cbeAt s).att = s.att ∧ (cbeAt s).tier = s.tier ∧
    (cbeAt s).net = s.net ∧ (cbeAt s).links = s.links ∧ (cbeAt s).coll = s.coll ∧
    (cbeAt s).host = s.host ∧ (cbeAt s).crew = s.crew ∧ (cbeAt s).power = s.power ∧
    (cbeAt s).ud = s.ud ∧ (cbeAt s).back = s.back ∧ (cbeAt s).now = s.now ∧
    (cbeAt s).free = s.free ∧ (cbeAt s).pending = s.pending := by
  simp [cbeAt]

end Sys2Proof.Machine
end

