-- ==== Sys2Proof/Laws/FramePower.lean ====
section
/-!
SUPPORT. What the operations of Machine/Power.lean leave unchanged.
-/
namespace Sys2Proof.Machine
open Sys2Proof

@[simp] theorem lockBit_frame (s : State) (i : Nat) (on : Bool) :
    (lockBit s i on).reg = s.reg ∧ (lockBit s i on).heat = s.heat ∧
    (lockBit s i on).sprint = s.sprint ∧ (lockBit s i on).ports = s.ports ∧
    (lockBit s i on).grid = s.grid ∧ (lockBit s i on).tile = s.tile ∧
    (lockBit s i on).att = s.att ∧ (lockBit s i on).tier = s.tier ∧ (lockBit s i on).net = s.net ∧
    (lockBit s i on).links = s.links ∧ (lockBit s i on).coll = s.coll ∧
    (lockBit s i on).host = s.host ∧ (lockBit s i on).crew = s.crew ∧
    (lockBit s i on).power = s.power ∧ (lockBit s i on).twin = s.twin ∧
    (lockBit s i on).ud = s.ud ∧ (lockBit s i on).back = s.back ∧ (lockBit s i on).now = s.now ∧
    (lockBit s i on).free = s.free ∧ (lockBit s i on).pending = s.pending := by
  simp only [lockBit]
  repeat' split
  all_goals simp

@[simp] theorem lockRange_frame (s : State) (hi : Nat) (lo : Nat) :
    (lockRange s hi lo).reg = s.reg ∧ (lockRange s hi lo).heat = s.heat ∧
    (lockRange s hi lo).sprint = s.sprint ∧ (lockRange s hi lo).ports = s.ports ∧
    (lockRange s hi lo).grid = s.grid ∧ (lockRange s hi lo).tile = s.tile ∧
    (lockRange s hi lo).att = s.att ∧ (lockRange s hi lo).tier = s.tier ∧
    (lockRange s hi lo).net = s.net ∧ (lockRange s hi lo).links = s.links ∧
    (lockRange s hi lo).coll = s.coll ∧ (lockRange s hi lo).host = s.host ∧
    (lockRange s hi lo).crew = s.crew ∧ (lockRange s hi lo).power = s.power ∧
    (lockRange s hi lo).twin = s.twin ∧ (lockRange s hi lo).ud = s.ud ∧
    (lockRange s hi lo).back = s.back ∧ (lockRange s hi lo).now = s.now ∧
    (lockRange s hi lo).free = s.free ∧ (lockRange s hi lo).pending = s.pending := by
  simp [lockRange]

@[simp] theorem diesCleared_frame (s : State) :
    (diesCleared s).regs = s.regs ∧ (diesCleared s).reg = s.reg ∧ (diesCleared s).heat = s.heat ∧
    (diesCleared s).ports = s.ports ∧ (diesCleared s).tier.data = s.tier.data ∧
    (diesCleared s).links = s.links ∧ (diesCleared s).coll = s.coll ∧
    (diesCleared s).host = s.host ∧ (diesCleared s).crew = s.crew ∧
    (diesCleared s).power = s.power ∧ (diesCleared s).twin = s.twin ∧ (diesCleared s).ud = s.ud ∧
    (diesCleared s).back = s.back ∧ (diesCleared s).now = s.now ∧ (diesCleared s).free = s.free ∧
    (diesCleared s).pending = s.pending := by
  simp [diesCleared]

@[simp] theorem warmOp_frame (s : State) :
    (warmOp s).reg.log = s.reg.log ∧ (warmOp s).heat = s.heat ∧
    (warmOp s).ports.live = s.ports.live ∧ (warmOp s).ports.shadow = s.ports.shadow ∧
    (warmOp s).tier.data = s.tier.data ∧ (warmOp s).host.mem = s.host.mem ∧ (warmOp s).ud = s.ud ∧
    (warmOp s).back = s.back ∧ (warmOp s).now = s.now ∧ (warmOp s).free = s.free ∧
    (warmOp s).pending = s.pending := by
  simp [warmOp]

@[simp] theorem warmReset_frame (s : State) :
    (warmReset s).reg.log = s.reg.log ∧ (warmReset s).heat = s.heat ∧
    (warmReset s).ports.live = s.ports.live ∧ (warmReset s).ports.shadow = s.ports.shadow ∧
    (warmReset s).tier.data = s.tier.data ∧ (warmReset s).host.mem = s.host.mem ∧
    (warmReset s).ud = s.ud ∧ (warmReset s).back = s.back ∧ (warmReset s).now = s.now ∧
    (warmReset s).free = s.free ∧ (warmReset s).pending = s.pending := by
  simp [warmReset]

@[simp] theorem telemetry_frame (s : State) (temps : List Nat) :
    (telemetry s temps).reg = s.reg ∧ (telemetry s temps).heat = s.heat ∧
    (telemetry s temps).sprint = s.sprint ∧ (telemetry s temps).ports = s.ports ∧
    (telemetry s temps).grid = s.grid ∧ (telemetry s temps).tile = s.tile ∧
    (telemetry s temps).att = s.att ∧ (telemetry s temps).tier = s.tier ∧
    (telemetry s temps).net = s.net ∧ (telemetry s temps).links = s.links ∧
    (telemetry s temps).coll = s.coll ∧ (telemetry s temps).host = s.host ∧
    (telemetry s temps).crew = s.crew ∧ (telemetry s temps).twin = s.twin ∧
    (telemetry s temps).ud = s.ud ∧ (telemetry s temps).back = s.back ∧
    (telemetry s temps).now = s.now ∧ (telemetry s temps).free = s.free ∧
    (telemetry s temps).pending = s.pending := by
  simp only [telemetry]
  repeat' split
  all_goals first
  | (simp; done)
  | refine ⟨(foldl_reg ?_ _ _).trans ?_, (foldl_heat ?_ _ _).trans ?_, (foldl_sprint ?_ _ _).trans ?_,
      (foldl_ports ?_ _ _).trans ?_, (foldl_grid ?_ _ _).trans ?_, (foldl_tile ?_ _ _).trans ?_,
      (foldl_att ?_ _ _).trans ?_, (foldl_tier ?_ _ _).trans ?_, (foldl_net ?_ _ _).trans ?_,
      (foldl_links ?_ _ _).trans ?_, (foldl_coll ?_ _ _).trans ?_, (foldl_host ?_ _ _).trans ?_,
      (foldl_crew ?_ _ _).trans ?_, (foldl_twin ?_ _ _).trans ?_, (foldl_ud ?_ _ _).trans ?_,
      (foldl_back ?_ _ _).trans ?_, (foldl_now ?_ _ _).trans ?_, (foldl_free ?_ _ _).trans ?_,
      (foldl_pending ?_ _ _).trans ?_⟩
    all_goals first
    | (simp; done)
    | intro s q; (repeat' split) <;> simp

@[simp] theorem memoryLost_frame (s : State) (i : Nat) :
    (memoryLost s i).reg = s.reg ∧ (memoryLost s i).heat = s.heat ∧
    (memoryLost s i).sprint = s.sprint ∧ (memoryLost s i).ports = s.ports ∧
    (memoryLost s i).grid = s.grid ∧ (memoryLost s i).tile = s.tile ∧
    (memoryLost s i).att = s.att ∧ (memoryLost s i).tier.data = s.tier.data ∧
    (memoryLost s i).net = s.net ∧ (memoryLost s i).links = s.links ∧
    (memoryLost s i).coll = s.coll ∧ (memoryLost s i).host.mem = s.host.mem ∧
    (memoryLost s i).crew = s.crew ∧ (memoryLost s i).power = s.power ∧
    (memoryLost s i).twin = s.twin ∧ (memoryLost s i).ud = s.ud ∧ (memoryLost s i).back = s.back ∧
    (memoryLost s i).now = s.now ∧ (memoryLost s i).free = s.free ∧
    (memoryLost s i).pending = s.pending := by
  simp [memoryLost]

@[simp] theorem lossRecords_frame (s : State) :
    (lossRecords s).reg = s.reg ∧ (lossRecords s).heat = s.heat ∧
    (lossRecords s).sprint = s.sprint ∧ (lossRecords s).ports = s.ports ∧
    (lossRecords s).grid = s.grid ∧ (lossRecords s).tile = s.tile ∧ (lossRecords s).att = s.att ∧
    (lossRecords s).tier = s.tier ∧ (lossRecords s).net = s.net ∧
    (lossRecords s).links = s.links ∧ (lossRecords s).coll = s.coll ∧
    (lossRecords s).crew = s.crew ∧ (lossRecords s).power = s.power ∧
    (lossRecords s).twin = s.twin ∧ (lossRecords s).ud = s.ud ∧ (lossRecords s).back = s.back ∧
    (lossRecords s).now = s.now ∧ (lossRecords s).free = s.free ∧
    (lossRecords s).pending = s.pending := by
  simp [lossRecords]

@[simp] theorem dieOff_frame (s : State) (d : Nat) :
    (dieOff s d).regs = s.regs ∧ (dieOff s d).reg = s.reg ∧ (dieOff s d).heat = s.heat ∧
    (dieOff s d).sprint.readout = s.sprint.readout ∧ (dieOff s d).ports = s.ports ∧
    (dieOff s d).tier = s.tier ∧ (dieOff s d).links = s.links ∧ (dieOff s d).coll = s.coll ∧
    (dieOff s d).host = s.host ∧ (dieOff s d).crew = s.crew ∧ (dieOff s d).twin = s.twin ∧
    (dieOff s d).ud = s.ud ∧ (dieOff s d).back = s.back ∧ (dieOff s d).now = s.now ∧
    (dieOff s d).free = s.free ∧ (dieOff s d).pending = s.pending := by
  simp [dieOff]

@[simp] theorem enterStage7_frame (s : State) :
    (enterStage7 s).heat = s.heat ∧ (enterStage7 s).sprint.readout = s.sprint.readout ∧
    (enterStage7 s).ports.live = s.ports.live ∧ (enterStage7 s).ports.shadow = s.ports.shadow ∧
    (enterStage7 s).grid = s.grid ∧ (enterStage7 s).tile = s.tile ∧ (enterStage7 s).att = s.att ∧
    (enterStage7 s).tier = s.tier ∧ (enterStage7 s).net = s.net ∧ (enterStage7 s).coll = s.coll ∧
    (enterStage7 s).host.mem = s.host.mem ∧ (enterStage7 s).crew = s.crew ∧
    (enterStage7 s).ud.vcount = s.ud.vcount ∧ (enterStage7 s).ud.staging = s.ud.staging ∧
    (enterStage7 s).back = s.back ∧ (enterStage7 s).now = s.now ∧ (enterStage7 s).free = s.free ∧
    (enterStage7 s).pending = s.pending := by
  simp [enterStage7]

@[simp] theorem stageAdvance_frame (s : State) :
    (stageAdvance s).heat = s.heat ∧ (stageAdvance s).sprint.readout = s.sprint.readout ∧
    (stageAdvance s).ports.live = s.ports.live ∧ (stageAdvance s).ports.shadow = s.ports.shadow ∧
    (stageAdvance s).grid = s.grid ∧ (stageAdvance s).tile = s.tile ∧
    (stageAdvance s).att = s.att ∧ (stageAdvance s).tier = s.tier ∧ (stageAdvance s).net = s.net ∧
    (stageAdvance s).coll = s.coll ∧ (stageAdvance s).host.mem = s.host.mem ∧
    (stageAdvance s).crew = s.crew ∧ (stageAdvance s).ud.vcount = s.ud.vcount ∧
    (stageAdvance s).ud.staging = s.ud.staging ∧ (stageAdvance s).back = s.back ∧
    (stageAdvance s).now = s.now ∧ (stageAdvance s).free = s.free ∧
    (stageAdvance s).pending = s.pending := by
  simp [stageAdvance]

end Sys2Proof.Machine
end

