-- ==== Sys2Proof/Laws/FrameRegRead.lean ====
section
/-!
SUPPORT. What the operations of Machine/RegRead.lean leave unchanged.
-/
namespace Sys2Proof.Machine
open Sys2Proof

@[simp] theorem tblRead_frame (s : State) :
    (tblRead s).2.reg = s.reg ∧ (tblRead s).2.heat = s.heat ∧ (tblRead s).2.sprint = s.sprint ∧
    (tblRead s).2.ports = s.ports ∧ (tblRead s).2.grid = s.grid ∧ (tblRead s).2.tile = s.tile ∧
    (tblRead s).2.att = s.att ∧ (tblRead s).2.tier = s.tier ∧ (tblRead s).2.net = s.net ∧
    (tblRead s).2.links = s.links ∧ (tblRead s).2.coll = s.coll ∧ (tblRead s).2.host = s.host ∧
    (tblRead s).2.crew = s.crew ∧ (tblRead s).2.power = s.power ∧ (tblRead s).2.twin = s.twin ∧
    (tblRead s).2.ud = s.ud ∧ (tblRead s).2.back = s.back ∧ (tblRead s).2.now = s.now ∧
    (tblRead s).2.pending = s.pending := by
  simp only [tblRead]
  repeat' split
  all_goals simp

@[simp] theorem serveRead_frame (s : State) (p : Port) (off : Nat) :
    (serveRead s p off).2.2.heat = s.heat ∧
    (serveRead s p off).2.2.sprint.readout = s.sprint.readout ∧
    (serveRead s p off).2.2.ports = s.ports ∧ (serveRead s p off).2.2.grid = s.grid ∧
    (serveRead s p off).2.2.tile = s.tile ∧ (serveRead s p off).2.2.att = s.att ∧
    (serveRead s p off).2.2.tier = s.tier ∧ (serveRead s p off).2.2.net = s.net ∧
    (serveRead s p off).2.2.links = s.links ∧ (serveRead s p off).2.2.coll = s.coll ∧
    (serveRead s p off).2.2.host.mem = s.host.mem ∧ (serveRead s p off).2.2.crew = s.crew ∧
    (serveRead s p off).2.2.power = s.power ∧ (serveRead s p off).2.2.twin = s.twin ∧
    (serveRead s p off).2.2.ud.vcount = s.ud.vcount ∧
    (serveRead s p off).2.2.ud.staging = s.ud.staging ∧ (serveRead s p off).2.2.back = s.back ∧
    (serveRead s p off).2.2.now = s.now ∧ (serveRead s p off).2.2.pending = s.pending := by
  simp only [serveRead]
  repeat' split
  all_goals simp

@[simp] theorem pcieRead_frame (s : State) (off : Nat) :
    (pcieRead s off).heat = s.heat ∧ (pcieRead s off).sprint.readout = s.sprint.readout ∧
    (pcieRead s off).ports = s.ports ∧ (pcieRead s off).grid = s.grid ∧
    (pcieRead s off).tile = s.tile ∧ (pcieRead s off).att = s.att ∧
    (pcieRead s off).tier = s.tier ∧ (pcieRead s off).net = s.net ∧
    (pcieRead s off).links = s.links ∧ (pcieRead s off).coll = s.coll ∧
    (pcieRead s off).host.mem = s.host.mem ∧ (pcieRead s off).crew = s.crew ∧
    (pcieRead s off).power = s.power ∧ (pcieRead s off).twin = s.twin ∧
    (pcieRead s off).ud.vcount = s.ud.vcount ∧ (pcieRead s off).ud.staging = s.ud.staging ∧
    (pcieRead s off).back = s.back ∧ (pcieRead s off).now = s.now ∧
    (pcieRead s off).pending = s.pending := by
  simp [pcieRead]

end Sys2Proof.Machine
end

