-- ==== Sys2Proof/Laws/FrameAccess.lean ====
section
/-!
SUPPORT. What the operations of Machine/Access.lean leave unchanged.
-/
namespace Sys2Proof.Machine
open Sys2Proof

@[simp] theorem clrCtrs_frame (s : State) (k : PageKind) (n : Nat) (base : Nat) (c : Nat) :
    (clrCtrs s k n base c).reg = s.reg ∧ (clrCtrs s k n base c).heat = s.heat ∧
    (clrCtrs s k n base c).sprint = s.sprint ∧ (clrCtrs s k n base c).ports = s.ports ∧
    (clrCtrs s k n base c).grid = s.grid ∧ (clrCtrs s k n base c).tile = s.tile ∧
    (clrCtrs s k n base c).att = s.att ∧ (clrCtrs s k n base c).tier = s.tier ∧
    (clrCtrs s k n base c).net = s.net ∧ (clrCtrs s k n base c).links = s.links ∧
    (clrCtrs s k n base c).coll = s.coll ∧ (clrCtrs s k n base c).host = s.host ∧
    (clrCtrs s k n base c).crew = s.crew ∧ (clrCtrs s k n base c).power = s.power ∧
    (clrCtrs s k n base c).twin = s.twin ∧ (clrCtrs s k n base c).ud = s.ud ∧
    (clrCtrs s k n base c).back = s.back ∧ (clrCtrs s k n base c).now = s.now ∧
    (clrCtrs s k n base c).free = s.free ∧ (clrCtrs s k n base c).pending = s.pending := by
  simp only [clrCtrs]
  repeat' split
  all_goals simp

@[simp] theorem loadErr_frame (s : State) (off : Nat) :
    (loadErr s off).reg = s.reg ∧ (loadErr s off).heat = s.heat ∧
    (loadErr s off).sprint = s.sprint ∧ (loadErr s off).ports = s.ports ∧
    (loadErr s off).grid = s.grid ∧ (loadErr s off).tile = s.tile ∧ (loadErr s off).att = s.att ∧
    (loadErr s off).tier = s.tier ∧ (loadErr s off).net = s.net ∧
    (loadErr s off).links = s.links ∧ (loadErr s off).coll = s.coll ∧
    (loadErr s off).host = s.host ∧ (loadErr s off).crew = s.crew ∧
    (loadErr s off).power = s.power ∧ (loadErr s off).twin = s.twin ∧ (loadErr s off).ud = s.ud ∧
    (loadErr s off).back = s.back ∧ (loadErr s off).now = s.now ∧ (loadErr s off).free = s.free ∧
    (loadErr s off).pending = s.pending := by
  simp only [loadErr]
  repeat' split
  all_goals simp

@[simp] theorem writeConfig_frame (s : State) (k : PageKind) (n : Nat) (o : Nat) :
    (writeConfig s k n o).heat = s.heat ∧
    (writeConfig s k n o).sprint.readout = s.sprint.readout ∧
    (writeConfig s k n o).ports = s.ports ∧ (writeConfig s k n o).grid = s.grid ∧
    (writeConfig s k n o).tile = s.tile ∧ (writeConfig s k n o).att = s.att ∧
    (writeConfig s k n o).tier = s.tier ∧ (writeConfig s k n o).net = s.net ∧
    (writeConfig s k n o).links = s.links ∧ (writeConfig s k n o).coll = s.coll ∧
    (writeConfig s k n o).host.mem = s.host.mem ∧ (writeConfig s k n o).crew = s.crew ∧
    (writeConfig s k n o).power = s.power ∧ (writeConfig s k n o).twin = s.twin ∧
    (writeConfig s k n o).ud.vcount = s.ud.vcount ∧
    (writeConfig s k n o).ud.staging = s.ud.staging ∧ (writeConfig s k n o).back = s.back ∧
    (writeConfig s k n o).now = s.now ∧ (writeConfig s k n o).free = s.free ∧
    (writeConfig s k n o).pending = s.pending := by
  simp [writeConfig]

@[simp] theorem rwhConfig_frame (s : State) (k : PageKind) (n : Nat) (o : Nat) :
    (rwhConfig s k n o).heat = s.heat ∧ (rwhConfig s k n o).sprint.readout = s.sprint.readout ∧
    (rwhConfig s k n o).ports = s.ports ∧ (rwhConfig s k n o).grid = s.grid ∧
    (rwhConfig s k n o).tile = s.tile ∧ (rwhConfig s k n o).att = s.att ∧
    (rwhConfig s k n o).tier = s.tier ∧ (rwhConfig s k n o).net = s.net ∧
    (rwhConfig s k n o).links = s.links ∧ (rwhConfig s k n o).coll = s.coll ∧
    (rwhConfig s k n o).host.mem = s.host.mem ∧ (rwhConfig s k n o).crew = s.crew ∧
    (rwhConfig s k n o).power = s.power ∧ (rwhConfig s k n o).twin = s.twin ∧
    (rwhConfig s k n o).ud.vcount = s.ud.vcount ∧ (rwhConfig s k n o).ud.staging = s.ud.staging ∧
    (rwhConfig s k n o).back = s.back ∧ (rwhConfig s k n o).now = s.now ∧
    (rwhConfig s k n o).free = s.free ∧ (rwhConfig s k n o).pending = s.pending := by
  simp [rwhConfig]

@[simp] theorem xactRefuse_frame (s : State) (k : PageKind) (n : Nat) (o : Nat) (code : Nat) :
    (xactRefuse s k n o code).heat = s.heat ∧
    (xactRefuse s k n o code).sprint.readout = s.sprint.readout ∧
    (xactRefuse s k n o code).ports = s.ports ∧ (xactRefuse s k n o code).grid = s.grid ∧
    (xactRefuse s k n o code).tile = s.tile ∧ (xactRefuse s k n o code).att = s.att ∧
    (xactRefuse s k n o code).tier = s.tier ∧ (xactRefuse s k n o code).net = s.net ∧
    (xactRefuse s k n o code).links = s.links ∧ (xactRefuse s k n o code).coll = s.coll ∧
    (xactRefuse s k n o code).host.mem = s.host.mem ∧ (xactRefuse s k n o code).crew = s.crew ∧
    (xactRefuse s k n o code).power = s.power ∧ (xactRefuse s k n o code).twin = s.twin ∧
    (xactRefuse s k n o code).ud.vcount = s.ud.vcount ∧
    (xactRefuse s k n o code).ud.staging = s.ud.staging ∧
    (xactRefuse s k n o code).back = s.back ∧ (xactRefuse s k n o code).now = s.now ∧
    (xactRefuse s k n o code).free = s.free ∧ (xactRefuse s k n o code).pending = s.pending := by
  simp [xactRefuse]

@[simp] theorem rwhWord_frame (s : State) (k : PageKind) (n : Nat) (o : Nat) (v : Nat) (old : Nat) :
    (rwhWord s k n o v old).2.2.heat = s.heat ∧
    (rwhWord s k n o v old).2.2.sprint.readout = s.sprint.readout ∧
    (rwhWord s k n o v old).2.2.ports = s.ports ∧ (rwhWord s k n o v old).2.2.grid = s.grid ∧
    (rwhWord s k n o v old).2.2.tile = s.tile ∧ (rwhWord s k n o v old).2.2.att = s.att ∧
    (rwhWord s k n o v old).2.2.tier = s.tier ∧ (rwhWord s k n o v old).2.2.net = s.net ∧
    (rwhWord s k n o v old).2.2.links = s.links ∧ (rwhWord s k n o v old).2.2.coll = s.coll ∧
    (rwhWord s k n o v old).2.2.host.mem = s.host.mem ∧
    (rwhWord s k n o v old).2.2.crew = s.crew ∧ (rwhWord s k n o v old).2.2.power = s.power ∧
    (rwhWord s k n o v old).2.2.twin = s.twin ∧
    (rwhWord s k n o v old).2.2.ud.vcount = s.ud.vcount ∧
    (rwhWord s k n o v old).2.2.ud.staging = s.ud.staging ∧
    (rwhWord s k n o v old).2.2.back = s.back ∧ (rwhWord s k n o v old).2.2.now = s.now ∧
    (rwhWord s k n o v old).2.2.free = s.free ∧ (rwhWord s k n o v old).2.2.pending = s.pending := by
  simp only [rwhWord]
  refine ⟨foldl_snd_snd_same (·.heat) _ ?_ _ _, foldl_snd_snd_same (·.sprint.readout) _ ?_ _ _,
    foldl_snd_snd_same (·.ports) _ ?_ _ _, foldl_snd_snd_same (·.grid) _ ?_ _ _,
    foldl_snd_snd_same (·.tile) _ ?_ _ _, foldl_snd_snd_same (·.att) _ ?_ _ _,
    foldl_snd_snd_same (·.tier) _ ?_ _ _, foldl_snd_snd_same (·.net) _ ?_ _ _,
    foldl_snd_snd_same (·.links) _ ?_ _ _, foldl_snd_snd_same (·.coll) _ ?_ _ _,
    foldl_snd_snd_same (·.host.mem) _ ?_ _ _, foldl_snd_snd_same (·.crew) _ ?_ _ _,
    foldl_snd_snd_same (·.power) _ ?_ _ _, foldl_snd_snd_same (·.twin) _ ?_ _ _,
    foldl_snd_snd_same (·.ud.vcount) _ ?_ _ _, foldl_snd_snd_same (·.ud.staging) _ ?_ _ _,
    foldl_snd_snd_same (·.back) _ ?_ _ _, foldl_snd_snd_same (·.now) _ ?_ _ _,
    foldl_snd_snd_same (·.free) _ ?_ _ _, foldl_snd_snd_same (·.pending) _ ?_ _ _⟩
  all_goals (intro s q; split <;> simp)

@[simp] theorem collect_frame (s : State) (off : Nat) (w : Word) :
    (collect s off w).regs = s.regs ∧ (collect s off w).reg.log = s.reg.log ∧
    (collect s off w).heat = s.heat ∧ (collect s off w).sprint = s.sprint ∧
    (collect s off w).ports = s.ports ∧ (collect s off w).grid = s.grid ∧
    (collect s off w).tile = s.tile ∧ (collect s off w).att = s.att ∧
    (collect s off w).tier = s.tier ∧ (collect s off w).net = s.net ∧
    (collect s off w).links = s.links ∧ (collect s off w).coll = s.coll ∧
    (collect s off w).host = s.host ∧ (collect s off w).crew = s.crew ∧
    (collect s off w).power = s.power ∧ (collect s off w).twin = s.twin ∧
    (collect s off w).ud = s.ud ∧ (collect s off w).back = s.back ∧
    (collect s off w).now = s.now ∧ (collect s off w).free = s.free ∧
    (collect s off w).pending = s.pending := by
  simp [collect]

@[simp] theorem standalone_frame (s : State) (k : PageKind) (n : Nat) (o : Nat) (w : Word) :
    (standalone s k n o w).heat = s.heat ∧
    (standalone s k n o w).sprint.readout = s.sprint.readout ∧
    (standalone s k n o w).ports = s.ports ∧ (standalone s k n o w).grid = s.grid ∧
    (standalone s k n o w).tile = s.tile ∧ (standalone s k n o w).att = s.att ∧
    (standalone s k n o w).tier = s.tier ∧ (standalone s k n o w).net = s.net ∧
    (standalone s k n o w).links = s.links ∧ (standalone s k n o w).coll = s.coll ∧
    (standalone s k n o w).host.mem = s.host.mem ∧ (standalone s k n o w).crew = s.crew ∧
    (standalone s k n o w).power = s.power ∧ (standalone s k n o w).twin = s.twin ∧
    (standalone s k n o w).ud.vcount = s.ud.vcount ∧
    (standalone s k n o w).ud.staging = s.ud.staging ∧ (standalone s k n o w).back = s.back ∧
    (standalone s k n o w).now = s.now ∧ (standalone s k n o w).free = s.free ∧
    (standalone s k n o w).pending = s.pending := by
  simp [standalone]

@[simp] theorem serveRwh_frame (s : State) (p : Port) (ow : Option Nat) (k : PageKind) (n : Nat) (o : Nat) (v : Nat) :
    (serveRwh s p ow k n o v).heat = s.heat ∧
    (serveRwh s p ow k n o v).sprint.readout = s.sprint.readout ∧
    (serveRwh s p ow k n o v).ports = s.ports ∧ (serveRwh s p ow k n o v).grid = s.grid ∧
    (serveRwh s p ow k n o v).tile = s.tile ∧ (serveRwh s p ow k n o v).att = s.att ∧
    (serveRwh s p ow k n o v).tier = s.tier ∧ (serveRwh s p ow k n o v).net = s.net ∧
    (serveRwh s p ow k n o v).links = s.links ∧ (serveRwh s p ow k n o v).coll = s.coll ∧
    (serveRwh s p ow k n o v).host.mem = s.host.mem ∧ (serveRwh s p ow k n o v).crew = s.crew ∧
    (serveRwh s p ow k n o v).power = s.power ∧ (serveRwh s p ow k n o v).twin = s.twin ∧
    (serveRwh s p ow k n o v).ud.vcount = s.ud.vcount ∧
    (serveRwh s p ow k n o v).ud.staging = s.ud.staging ∧
    (serveRwh s p ow k n o v).back = s.back ∧ (serveRwh s p ow k n o v).now = s.now ∧
    (serveRwh s p ow k n o v).free = s.free ∧ (serveRwh s p ow k n o v).pending = s.pending := by
  simp only [serveRwh]
  repeat' split
  all_goals simp

@[simp] theorem rwPlain_frame (s : State) (k : PageKind) (n : Nat) (o : Nat) (v : Nat) :
    (rwPlain s k n o v).heat = s.heat ∧ (rwPlain s k n o v).sprint.readout = s.sprint.readout ∧
    (rwPlain s k n o v).ports = s.ports ∧ (rwPlain s k n o v).grid = s.grid ∧
    (rwPlain s k n o v).tile = s.tile ∧ (rwPlain s k n o v).att = s.att ∧
    (rwPlain s k n o v).tier = s.tier ∧ (rwPlain s k n o v).net = s.net ∧
    (rwPlain s k n o v).links = s.links ∧ (rwPlain s k n o v).coll = s.coll ∧
    (rwPlain s k n o v).host.mem = s.host.mem ∧ (rwPlain s k n o v).crew = s.crew ∧
    (rwPlain s k n o v).power = s.power ∧ (rwPlain s k n o v).twin = s.twin ∧
    (rwPlain s k n o v).ud.vcount = s.ud.vcount ∧ (rwPlain s k n o v).ud.staging = s.ud.staging ∧
    (rwPlain s k n o v).back = s.back ∧ (rwPlain s k n o v).now = s.now ∧
    (rwPlain s k n o v).free = s.free ∧ (rwPlain s k n o v).pending = s.pending := by
  simp [rwPlain]

@[simp] theorem rw1cPlain_frame (s : State) (k : PageKind) (n : Nat) (o : Nat) (v : Nat) :
    (rw1cPlain s k n o v).reg = s.reg ∧ (rw1cPlain s k n o v).heat = s.heat ∧
    (rw1cPlain s k n o v).sprint = s.sprint ∧ (rw1cPlain s k n o v).ports = s.ports ∧
    (rw1cPlain s k n o v).grid = s.grid ∧ (rw1cPlain s k n o v).tile = s.tile ∧
    (rw1cPlain s k n o v).att = s.att ∧ (rw1cPlain s k n o v).tier = s.tier ∧
    (rw1cPlain s k n o v).net = s.net ∧ (rw1cPlain s k n o v).links = s.links ∧
    (rw1cPlain s k n o v).coll = s.coll ∧ (rw1cPlain s k n o v).host = s.host ∧
    (rw1cPlain s k n o v).crew = s.crew ∧ (rw1cPlain s k n o v).power = s.power ∧
    (rw1cPlain s k n o v).twin = s.twin ∧ (rw1cPlain s k n o v).ud = s.ud ∧
    (rw1cPlain s k n o v).back = s.back ∧ (rw1cPlain s k n o v).now = s.now ∧
    (rw1cPlain s k n o v).free = s.free ∧ (rw1cPlain s k n o v).pending = s.pending := by
  simp [rw1cPlain]

@[simp] theorem queueCfg_frame (s : State) (c : Nat) (o : Nat) (v : Nat) :
    (queueCfg s c o v).heat = s.heat ∧ (queueCfg s c o v).sprint.readout = s.sprint.readout ∧
    (queueCfg s c o v).ports = s.ports ∧ (queueCfg s c o v).grid = s.grid ∧
    (queueCfg s c o v).tile = s.tile ∧ (queueCfg s c o v).att = s.att ∧
    (queueCfg s c o v).tier = s.tier ∧ (queueCfg s c o v).net = s.net ∧
    (queueCfg s c o v).links = s.links ∧ (queueCfg s c o v).coll = s.coll ∧
    (queueCfg s c o v).host.mem = s.host.mem ∧ (queueCfg s c o v).crew = s.crew ∧
    (queueCfg s c o v).power = s.power ∧ (queueCfg s c o v).twin = s.twin ∧
    (queueCfg s c o v).ud.vcount = s.ud.vcount ∧ (queueCfg s c o v).ud.staging = s.ud.staging ∧
    (queueCfg s c o v).back = s.back ∧ (queueCfg s c o v).now = s.now ∧
    (queueCfg s c o v).free = s.free ∧ (queueCfg s c o v).pending = s.pending := by
  simp only [queueCfg]
  repeat' split
  all_goals simp

@[simp] theorem acceptWrite_frame (s : State) (o : Nat) (v : Nat) :
    (acceptWrite s o v).heat = s.heat ∧ (acceptWrite s o v).sprint.readout = s.sprint.readout ∧
    (acceptWrite s o v).ports = s.ports ∧ (acceptWrite s o v).grid = s.grid ∧
    (acceptWrite s o v).tile = s.tile ∧ (acceptWrite s o v).att = s.att ∧
    (acceptWrite s o v).tier = s.tier ∧ (acceptWrite s o v).net = s.net ∧
    (acceptWrite s o v).links = s.links ∧ (acceptWrite s o v).coll = s.coll ∧
    (acceptWrite s o v).host.mem = s.host.mem ∧ (acceptWrite s o v).crew = s.crew ∧
    (acceptWrite s o v).power = s.power ∧ (acceptWrite s o v).twin = s.twin ∧
    (acceptWrite s o v).ud.vcount = s.ud.vcount ∧ (acceptWrite s o v).ud.staging = s.ud.staging ∧
    (acceptWrite s o v).back = s.back ∧ (acceptWrite s o v).now = s.now ∧
    (acceptWrite s o v).free = s.free ∧ (acceptWrite s o v).pending = s.pending := by
  simp [acceptWrite]

@[simp] theorem targetWrite_frame (s : State) (p : Port) (ow : Option Nat) (o : Nat) (v : Nat) :
    (targetWrite s p ow o v).heat = s.heat ∧
    (targetWrite s p ow o v).sprint.readout = s.sprint.readout ∧
    (targetWrite s p ow o v).ports = s.ports ∧ (targetWrite s p ow o v).grid = s.grid ∧
    (targetWrite s p ow o v).tile = s.tile ∧ (targetWrite s p ow o v).att = s.att ∧
    (targetWrite s p ow o v).tier = s.tier ∧ (targetWrite s p ow o v).net = s.net ∧
    (targetWrite s p ow o v).links = s.links ∧ (targetWrite s p ow o v).coll = s.coll ∧
    (targetWrite s p ow o v).host.mem = s.host.mem ∧ (targetWrite s p ow o v).crew = s.crew ∧
    (targetWrite s p ow o v).power = s.power ∧ (targetWrite s p ow o v).twin = s.twin ∧
    (targetWrite s p ow o v).ud.vcount = s.ud.vcount ∧
    (targetWrite s p ow o v).ud.staging = s.ud.staging ∧ (targetWrite s p ow o v).back = s.back ∧
    (targetWrite s p ow o v).now = s.now ∧ (targetWrite s p ow o v).free = s.free ∧
    (targetWrite s p ow o v).pending = s.pending := by
  simp [targetWrite]

@[simp] theorem headerIrq_frame (s : State) (k : PageKind) (n : Nat) (o : Nat) :
    (headerIrq s k n o).regs = s.regs ∧ (headerIrq s k n o).reg = s.reg ∧
    (headerIrq s k n o).heat = s.heat ∧ (headerIrq s k n o).sprint = s.sprint ∧
    (headerIrq s k n o).ports = s.ports ∧ (headerIrq s k n o).grid = s.grid ∧
    (headerIrq s k n o).tile = s.tile ∧ (headerIrq s k n o).att = s.att ∧
    (headerIrq s k n o).tier = s.tier ∧ (headerIrq s k n o).net = s.net ∧
    (headerIrq s k n o).links = s.links ∧ (headerIrq s k n o).coll = s.coll ∧
    (headerIrq s k n o).host.mem = s.host.mem ∧ (headerIrq s k n o).crew = s.crew ∧
    (headerIrq s k n o).power = s.power ∧ (headerIrq s k n o).twin = s.twin ∧
    (headerIrq s k n o).ud = s.ud ∧ (headerIrq s k n o).back = s.back ∧
    (headerIrq s k n o).now = s.now ∧ (headerIrq s k n o).free = s.free ∧
    (headerIrq s k n o).pending = s.pending := by
  simp [headerIrq]

@[simp] theorem slicesWrite_frame (s : State) (v : Nat) :
    (slicesWrite s v).heat = s.heat ∧ (slicesWrite s v).sprint.readout = s.sprint.readout ∧
    (slicesWrite s v).ports = s.ports ∧ (slicesWrite s v).grid = s.grid ∧
    (slicesWrite s v).tile = s.tile ∧ (slicesWrite s v).att = s.att ∧
    (slicesWrite s v).tier = s.tier ∧ (slicesWrite s v).net = s.net ∧
    (slicesWrite s v).links = s.links ∧ (slicesWrite s v).coll = s.coll ∧
    (slicesWrite s v).host.mem = s.host.mem ∧ (slicesWrite s v).crew = s.crew ∧
    (slicesWrite s v).power = s.power ∧ (slicesWrite s v).twin = s.twin ∧
    (slicesWrite s v).ud.vcount = s.ud.vcount ∧ (slicesWrite s v).ud.staging = s.ud.staging ∧
    (slicesWrite s v).back = s.back ∧ (slicesWrite s v).now = s.now ∧
    (slicesWrite s v).free = s.free ∧ (slicesWrite s v).pending = s.pending := by
  simp [slicesWrite]

@[simp] theorem eportEn_frame (s : State) (n : Nat) (v : Nat) :
    (eportEn s n v).heat = s.heat ∧ (eportEn s n v).sprint.readout = s.sprint.readout ∧
    (eportEn s n v).ports = s.ports ∧ (eportEn s n v).grid = s.grid ∧
    (eportEn s n v).tile = s.tile ∧ (eportEn s n v).att = s.att ∧ (eportEn s n v).tier = s.tier ∧
    (eportEn s n v).net = s.net ∧ (eportEn s n v).links = s.links ∧
    (eportEn s n v).coll = s.coll ∧ (eportEn s n v).host.mem = s.host.mem ∧
    (eportEn s n v).crew = s.crew ∧ (eportEn s n v).power = s.power ∧
    (eportEn s n v).twin = s.twin ∧ (eportEn s n v).ud.vcount = s.ud.vcount ∧
    (eportEn s n v).ud.staging = s.ud.staging ∧ (eportEn s n v).back = s.back ∧
    (eportEn s n v).now = s.now ∧ (eportEn s n v).free = s.free ∧
    (eportEn s n v).pending = s.pending := by
  simp [eportEn]

@[simp] theorem linkEnWrite_frame (s : State) (k : PageKind) (n : Nat) (v : Nat) :
    (linkEnWrite s k n v).heat = s.heat ∧
    (linkEnWrite s k n v).sprint.readout = s.sprint.readout ∧
    (linkEnWrite s k n v).ports.live = s.ports.live ∧
    (linkEnWrite s k n v).ports.shadow = s.ports.shadow ∧ (linkEnWrite s k n v).grid = s.grid ∧
    (linkEnWrite s k n v).tile = s.tile ∧ (linkEnWrite s k n v).att = s.att ∧
    (linkEnWrite s k n v).tier = s.tier ∧ (linkEnWrite s k n v).net = s.net ∧
    (linkEnWrite s k n v).coll = s.coll ∧ (linkEnWrite s k n v).host.mem = s.host.mem ∧
    (linkEnWrite s k n v).crew = s.crew ∧ (linkEnWrite s k n v).ud.vcount = s.ud.vcount ∧
    (linkEnWrite s k n v).ud.staging = s.ud.staging ∧ (linkEnWrite s k n v).back = s.back ∧
    (linkEnWrite s k n v).now = s.now ∧ (linkEnWrite s k n v).free = s.free ∧
    (linkEnWrite s k n v).pending = s.pending := by
  simp [linkEnWrite]

@[simp] theorem serveRw_frame (s : State) (p : Port) (ow : Option Nat) (k : PageKind) (n : Nat) (o : Nat) (v : Nat) :
    (serveRw s p ow k n o v).heat = s.heat ∧
    (serveRw s p ow k n o v).sprint.readout = s.sprint.readout ∧
    (serveRw s p ow k n o v).ports.live = s.ports.live ∧ (serveRw s p ow k n o v).grid = s.grid ∧
    (serveRw s p ow k n o v).tile = s.tile ∧ (serveRw s p ow k n o v).att = s.att ∧
    (serveRw s p ow k n o v).tier = s.tier ∧ (serveRw s p ow k n o v).net = s.net ∧
    (serveRw s p ow k n o v).coll = s.coll ∧ (serveRw s p ow k n o v).host.mem = s.host.mem ∧
    (serveRw s p ow k n o v).crew = s.crew ∧ (serveRw s p ow k n o v).ud.vcount = s.ud.vcount ∧
    (serveRw s p ow k n o v).ud.staging = s.ud.staging ∧ (serveRw s p ow k n o v).back = s.back ∧
    (serveRw s p ow k n o v).now = s.now ∧ (serveRw s p ow k n o v).free = s.free ∧
    (serveRw s p ow k n o v).pending = s.pending := by
  simp only [serveRw]
  repeat' split
  all_goals simp

@[simp] theorem xactAnswer_frame (s : State) (p : Port) (code : Nat) :
    (xactAnswer s p code).heat = s.heat ∧
    (xactAnswer s p code).sprint.readout = s.sprint.readout ∧
    (xactAnswer s p code).ports = s.ports ∧ (xactAnswer s p code).grid = s.grid ∧
    (xactAnswer s p code).tile = s.tile ∧ (xactAnswer s p code).att = s.att ∧
    (xactAnswer s p code).tier = s.tier ∧ (xactAnswer s p code).net = s.net ∧
    (xactAnswer s p code).links = s.links ∧ (xactAnswer s p code).coll = s.coll ∧
    (xactAnswer s p code).host.mem = s.host.mem ∧ (xactAnswer s p code).crew = s.crew ∧
    (xactAnswer s p code).power = s.power ∧ (xactAnswer s p code).twin = s.twin ∧
    (xactAnswer s p code).ud.vcount = s.ud.vcount ∧
    (xactAnswer s p code).ud.staging = s.ud.staging ∧ (xactAnswer s p code).back = s.back ∧
    (xactAnswer s p code).now = s.now ∧ (xactAnswer s p code).free = s.free ∧
    (xactAnswer s p code).pending = s.pending := by
  simp [xactAnswer]

@[simp] theorem xactBegin_frame (s : State) (p : Port) (tag : Nat) :
    (xactBegin s p tag).heat = s.heat ∧ (xactBegin s p tag).sprint.readout = s.sprint.readout ∧
    (xactBegin s p tag).ports = s.ports ∧ (xactBegin s p tag).grid = s.grid ∧
    (xactBegin s p tag).tile = s.tile ∧ (xactBegin s p tag).att = s.att ∧
    (xactBegin s p tag).tier = s.tier ∧ (xactBegin s p tag).net = s.net ∧
    (xactBegin s p tag).links = s.links ∧ (xactBegin s p tag).coll = s.coll ∧
    (xactBegin s p tag).host.mem = s.host.mem ∧ (xactBegin s p tag).crew = s.crew ∧
    (xactBegin s p tag).power = s.power ∧ (xactBegin s p tag).twin = s.twin ∧
    (xactBegin s p tag).ud.vcount = s.ud.vcount ∧ (xactBegin s p tag).ud.staging = s.ud.staging ∧
    (xactBegin s p tag).back = s.back ∧ (xactBegin s p tag).now = s.now ∧
    (xactBegin s p tag).free = s.free ∧ (xactBegin s p tag).pending = s.pending := by
  simp [xactBegin]

@[simp] theorem xactJudge_frame (s : State) (p : Port) :
    (xactJudge s p).heat = s.heat ∧ (xactJudge s p).sprint.readout = s.sprint.readout ∧
    (xactJudge s p).ports = s.ports ∧ (xactJudge s p).grid = s.grid ∧
    (xactJudge s p).tile = s.tile ∧ (xactJudge s p).att = s.att ∧ (xactJudge s p).tier = s.tier ∧
    (xactJudge s p).net = s.net ∧ (xactJudge s p).links = s.links ∧
    (xactJudge s p).coll = s.coll ∧ (xactJudge s p).host.mem = s.host.mem ∧
    (xactJudge s p).crew = s.crew ∧ (xactJudge s p).power = s.power ∧
    (xactJudge s p).twin = s.twin ∧ (xactJudge s p).ud.vcount = s.ud.vcount ∧
    (xactJudge s p).ud.staging = s.ud.staging ∧ (xactJudge s p).back = s.back ∧
    (xactJudge s p).now = s.now ∧ (xactJudge s p).free = s.free ∧
    (xactJudge s p).pending = s.pending := by
  simp only [xactJudge]
  repeat' split
  all_goals simp

@[simp] theorem xactCommit_frame (s : State) (p : Port) (tag : Nat) :
    (xactCommit s p tag).heat = s.heat ∧ (xactCommit s p tag).sprint.readout = s.sprint.readout ∧
    (xactCommit s p tag).ports = s.ports ∧ (xactCommit s p tag).grid = s.grid ∧
    (xactCommit s p tag).tile = s.tile ∧ (xactCommit s p tag).att = s.att ∧
    (xactCommit s p tag).tier = s.tier ∧ (xactCommit s p tag).net = s.net ∧
    (xactCommit s p tag).links = s.links ∧ (xactCommit s p tag).coll = s.coll ∧
    (xactCommit s p tag).host.mem = s.host.mem ∧ (xactCommit s p tag).crew = s.crew ∧
    (xactCommit s p tag).power = s.power ∧ (xactCommit s p tag).twin = s.twin ∧
    (xactCommit s p tag).ud.vcount = s.ud.vcount ∧
    (xactCommit s p tag).ud.staging = s.ud.staging ∧ (xactCommit s p tag).back = s.back ∧
    (xactCommit s p tag).now = s.now ∧ (xactCommit s p tag).free = s.free ∧
    (xactCommit s p tag).pending = s.pending := by
  simp [xactCommit]

@[simp] theorem xactAbort_frame (s : State) (p : Port) (tag : Nat) :
    (xactAbort s p tag).heat = s.heat ∧ (xactAbort s p tag).sprint.readout = s.sprint.readout ∧
    (xactAbort s p tag).ports = s.ports ∧ (xactAbort s p tag).grid = s.grid ∧
    (xactAbort s p tag).tile = s.tile ∧ (xactAbort s p tag).att = s.att ∧
    (xactAbort s p tag).tier = s.tier ∧ (xactAbort s p tag).net = s.net ∧
    (xactAbort s p tag).links = s.links ∧ (xactAbort s p tag).coll = s.coll ∧
    (xactAbort s p tag).host.mem = s.host.mem ∧ (xactAbort s p tag).crew = s.crew ∧
    (xactAbort s p tag).power = s.power ∧ (xactAbort s p tag).twin = s.twin ∧
    (xactAbort s p tag).ud.vcount = s.ud.vcount ∧ (xactAbort s p tag).ud.staging = s.ud.staging ∧
    (xactAbort s p tag).back = s.back ∧ (xactAbort s p tag).now = s.now ∧
    (xactAbort s p tag).free = s.free ∧ (xactAbort s p tag).pending = s.pending := by
  simp [xactAbort]

@[simp] theorem xactCmd_frame (s : State) (p : Port) (v : Nat) :
    (xactCmd s p v).heat = s.heat ∧ (xactCmd s p v).sprint.readout = s.sprint.readout ∧
    (xactCmd s p v).ports = s.ports ∧ (xactCmd s p v).grid = s.grid ∧
    (xactCmd s p v).tile = s.tile ∧ (xactCmd s p v).att = s.att ∧ (xactCmd s p v).tier = s.tier ∧
    (xactCmd s p v).net = s.net ∧ (xactCmd s p v).links = s.links ∧
    (xactCmd s p v).coll = s.coll ∧ (xactCmd s p v).host.mem = s.host.mem ∧
    (xactCmd s p v).crew = s.crew ∧ (xactCmd s p v).power = s.power ∧
    (xactCmd s p v).twin = s.twin ∧ (xactCmd s p v).ud.vcount = s.ud.vcount ∧
    (xactCmd s p v).ud.staging = s.ud.staging ∧ (xactCmd s p v).back = s.back ∧
    (xactCmd s p v).now = s.now ∧ (xactCmd s p v).free = s.free ∧
    (xactCmd s p v).pending = s.pending := by
  simp only [xactCmd]
  repeat' split
  all_goals simp

@[simp] theorem featureLock_frame (s : State) :
    (featureLock s).heat = s.heat ∧ (featureLock s).sprint.readout = s.sprint.readout ∧
    (featureLock s).ports.live = s.ports.live ∧ (featureLock s).ports.shadow = s.ports.shadow ∧
    (featureLock s).grid = s.grid ∧ (featureLock s).tile = s.tile ∧ (featureLock s).att = s.att ∧
    (featureLock s).tier = s.tier ∧ (featureLock s).net = s.net ∧ (featureLock s).coll = s.coll ∧
    (featureLock s).host.mem = s.host.mem ∧ (featureLock s).crew = s.crew ∧
    (featureLock s).ud.vcount = s.ud.vcount ∧ (featureLock s).ud.staging = s.ud.staging ∧
    (featureLock s).back = s.back ∧ (featureLock s).now = s.now ∧ (featureLock s).free = s.free ∧
    (featureLock s).pending = s.pending := by
  simp [featureLock]

@[simp] theorem errorClear_frame (s : State) :
    (errorClear s).heat = s.heat ∧ (errorClear s).sprint = s.sprint ∧
    (errorClear s).ports = s.ports ∧ (errorClear s).grid = s.grid ∧ (errorClear s).tile = s.tile ∧
    (errorClear s).att = s.att ∧ (errorClear s).tier = s.tier ∧ (errorClear s).net = s.net ∧
    (errorClear s).links = s.links ∧ (errorClear s).coll = s.coll ∧ (errorClear s).host = s.host ∧
    (errorClear s).crew = s.crew ∧ (errorClear s).power = s.power ∧ (errorClear s).twin = s.twin ∧
    (errorClear s).ud = s.ud ∧ (errorClear s).back = s.back ∧ (errorClear s).now = s.now ∧
    (errorClear s).free = s.free ∧ (errorClear s).pending = s.pending := by
  simp [errorClear]

@[simp] theorem sprintClear_frame (s : State) :
    (sprintClear s).reg = s.reg ∧ (sprintClear s).heat = s.heat ∧
    (sprintClear s).sprint = s.sprint ∧ (sprintClear s).ports = s.ports ∧
    (sprintClear s).grid = s.grid ∧ (sprintClear s).tile = s.tile ∧ (sprintClear s).att = s.att ∧
    (sprintClear s).tier = s.tier ∧ (sprintClear s).net = s.net ∧
    (sprintClear s).links = s.links ∧ (sprintClear s).coll = s.coll ∧
    (sprintClear s).host = s.host ∧ (sprintClear s).crew = s.crew ∧
    (sprintClear s).power = s.power ∧ (sprintClear s).twin = s.twin ∧ (sprintClear s).ud = s.ud ∧
    (sprintClear s).back = s.back ∧ (sprintClear s).now = s.now ∧ (sprintClear s).free = s.free ∧
    (sprintClear s).pending = s.pending := by
  simp [sprintClear]

@[simp] theorem attnClear_frame (s : State) :
    (attnClear s).reg = s.reg ∧ (attnClear s).heat = s.heat ∧ (attnClear s).sprint = s.sprint ∧
    (attnClear s).ports = s.ports ∧ (attnClear s).grid = s.grid ∧ (attnClear s).tile = s.tile ∧
    (attnClear s).tier = s.tier ∧ (attnClear s).net = s.net ∧ (attnClear s).links = s.links ∧
    (attnClear s).coll = s.coll ∧ (attnClear s).host = s.host ∧ (attnClear s).crew = s.crew ∧
    (attnClear s).power = s.power ∧ (attnClear s).twin = s.twin ∧ (attnClear s).ud = s.ud ∧
    (attnClear s).back = s.back ∧ (attnClear s).now = s.now ∧ (attnClear s).free = s.free ∧
    (attnClear s).pending = s.pending := by
  simp [attnClear]

@[simp] theorem hostClear_frame (s : State) :
    (hostClear s).reg = s.reg ∧ (hostClear s).heat = s.heat ∧ (hostClear s).sprint = s.sprint ∧
    (hostClear s).ports = s.ports ∧ (hostClear s).grid = s.grid ∧ (hostClear s).tile = s.tile ∧
    (hostClear s).att = s.att ∧ (hostClear s).tier = s.tier ∧ (hostClear s).net = s.net ∧
    (hostClear s).links = s.links ∧ (hostClear s).coll = s.coll ∧
    (hostClear s).host.mem = s.host.mem ∧ (hostClear s).crew = s.crew ∧
    (hostClear s).power = s.power ∧ (hostClear s).twin = s.twin ∧ (hostClear s).ud = s.ud ∧
    (hostClear s).back = s.back ∧ (hostClear s).now = s.now ∧ (hostClear s).free = s.free ∧
    (hostClear s).pending = s.pending := by
  simp [hostClear]

@[simp] theorem linkWo_frame (s : State) (k : PageKind) (n : Nat) (v : Nat) :
    (linkWo s k n v).heat = s.heat ∧ (linkWo s k n v).sprint.readout = s.sprint.readout ∧
    (linkWo s k n v).ports.live = s.ports.live ∧ (linkWo s k n v).ports.shadow = s.ports.shadow ∧
    (linkWo s k n v).grid = s.grid ∧ (linkWo s k n v).tile = s.tile ∧
    (linkWo s k n v).att = s.att ∧ (linkWo s k n v).tier = s.tier ∧ (linkWo s k n v).net = s.net ∧
    (linkWo s k n v).coll = s.coll ∧ (linkWo s k n v).host.mem = s.host.mem ∧
    (linkWo s k n v).crew = s.crew ∧ (linkWo s k n v).power = s.power ∧
    (linkWo s k n v).ud.vcount = s.ud.vcount ∧ (linkWo s k n v).ud.staging = s.ud.staging ∧
    (linkWo s k n v).back = s.back ∧ (linkWo s k n v).now = s.now ∧
    (linkWo s k n v).free = s.free ∧ (linkWo s k n v).pending = s.pending := by
  simp [linkWo]

@[simp] theorem twinWo_frame (s : State) (v : Nat) :
    (twinWo s v).reg = s.reg ∧ (twinWo s v).heat = s.heat ∧ (twinWo s v).sprint = s.sprint ∧
    (twinWo s v).ports.live = s.ports.live ∧ (twinWo s v).ports.shadow = s.ports.shadow ∧
    (twinWo s v).grid = s.grid ∧ (twinWo s v).tile = s.tile ∧ (twinWo s v).att = s.att ∧
    (twinWo s v).tier = s.tier ∧ (twinWo s v).net = s.net ∧ (twinWo s v).coll = s.coll ∧
    (twinWo s v).host = s.host ∧ (twinWo s v).crew = s.crew ∧ (twinWo s v).power = s.power ∧
    (twinWo s v).ud = s.ud ∧ (twinWo s v).back = s.back ∧ (twinWo s v).now = s.now ∧
    (twinWo s v).pending = s.pending := by
  simp [twinWo]

@[simp] theorem gridWo_frame (s : State) (n : Nat) (v : Nat) :
    (gridWo s n v).heat = s.heat ∧ (gridWo s n v).sprint.readout = s.sprint.readout ∧
    (gridWo s n v).ports = s.ports ∧ (gridWo s n v).grid.scratch = s.grid.scratch ∧
    (gridWo s n v).tile = s.tile ∧ (gridWo s n v).att = s.att ∧ (gridWo s n v).tier = s.tier ∧
    (gridWo s n v).net = s.net ∧ (gridWo s n v).links = s.links ∧ (gridWo s n v).coll = s.coll ∧
    (gridWo s n v).host.mem = s.host.mem ∧ (gridWo s n v).crew = s.crew ∧
    (gridWo s n v).power = s.power ∧ (gridWo s n v).twin = s.twin ∧
    (gridWo s n v).ud.vcount = s.ud.vcount ∧ (gridWo s n v).ud.staging = s.ud.staging ∧
    (gridWo s n v).back = s.back ∧ (gridWo s n v).now = s.now ∧ (gridWo s n v).free = s.free ∧
    (gridWo s n v).pending = s.pending := by
  simp [gridWo]

@[simp] theorem serveWo_frame (s : State) (p : Port) (k : PageKind) (n : Nat) (o : Nat) (v : Nat) :
    (serveWo s p k n o v).heat = s.heat ∧ (serveWo s p k n o v).ports.live = s.ports.live ∧
    (serveWo s p k n o v).ports.shadow = s.ports.shadow ∧
    (serveWo s p k n o v).ud.vcount = s.ud.vcount ∧
    (serveWo s p k n o v).ud.staging = s.ud.staging ∧ (serveWo s p k n o v).back = s.back ∧
    (serveWo s p k n o v).now = s.now ∧ (serveWo s p k n o v).pending = s.pending := by
  simp only [serveWo]
  repeat' split
  all_goals simp

@[simp] theorem serveWrite_frame (s : State) (p : Port) (ow : Option Nat) (off : Nat) (val : Word) :
    (serveWrite s p ow off val).heat = s.heat ∧
    (serveWrite s p ow off val).ports.live = s.ports.live ∧
    (serveWrite s p ow off val).ud.vcount = s.ud.vcount ∧
    (serveWrite s p ow off val).ud.staging = s.ud.staging ∧
    (serveWrite s p ow off val).back = s.back ∧ (serveWrite s p ow off val).now = s.now ∧
    (serveWrite s p ow off val).pending = s.pending := by
  simp only [serveWrite, atPage]
  repeat' split
  all_goals simp

@[simp] theorem serveAction_frame (s : State) (p : Port) (k : PageKind) (n : Nat) (o : Nat) (v : Nat) :
    (serveAction s p k n o v).heat = s.heat ∧
    (serveAction s p k n o v).ports.live = s.ports.live ∧
    (serveAction s p k n o v).ports.shadow = s.ports.shadow ∧
    (serveAction s p k n o v).ud.vcount = s.ud.vcount ∧
    (serveAction s p k n o v).ud.staging = s.ud.staging ∧
    (serveAction s p k n o v).back = s.back ∧ (serveAction s p k n o v).now = s.now ∧
    (serveAction s p k n o v).pending = s.pending := by
  simp only [serveAction, atPage]
  repeat' split
  all_goals simp

end Sys2Proof.Machine
end

