-- ==== Sys2Proof/Laws/FrameBoundary.lean ====
section
/-!
SUPPORT. What the operations of Machine/Boundary.lean leave unchanged.
-/
namespace Sys2Proof.Machine
open Sys2Proof

@[simp] theorem liveOne_frame (s : State) (e : Nat × Word) :
    (liveOne s e).reg = s.reg ∧ (liveOne s e).heat = s.heat ∧
    (liveOne s e).sprint.readout = s.sprint.readout ∧
    (liveOne s e).ports.shadow = s.ports.shadow ∧ (liveOne s e).tier = s.tier ∧
    (liveOne s e).links = s.links ∧ (liveOne s e).coll = s.coll ∧ (liveOne s e).host = s.host ∧
    (liveOne s e).crew = s.crew ∧ (liveOne s e).ud = s.ud ∧ (liveOne s e).back = s.back ∧
    (liveOne s e).now = s.now ∧ (liveOne s e).free = s.free ∧ (liveOne s e).pending = s.pending := by
  simp only [liveOne]
  repeat' split
  all_goals simp

@[simp] theorem swapPages_frame (s : State) (offs : List Nat) :
    (swapPages s offs).reg = s.reg ∧ (swapPages s offs).heat = s.heat ∧
    (swapPages s offs).sprint = s.sprint ∧ (swapPages s offs).ports = s.ports ∧
    (swapPages s offs).grid = s.grid ∧ (swapPages s offs).tile = s.tile ∧
    (swapPages s offs).att = s.att ∧ (swapPages s offs).tier = s.tier ∧
    (swapPages s offs).net = s.net ∧ (swapPages s offs).links = s.links ∧
    (swapPages s offs).coll = s.coll ∧ (swapPages s offs).host.mem = s.host.mem ∧
    (swapPages s offs).crew = s.crew ∧ (swapPages s offs).power = s.power ∧
    (swapPages s offs).twin = s.twin ∧ (swapPages s offs).ud = s.ud ∧
    (swapPages s offs).back = s.back ∧ (swapPages s offs).now = s.now ∧
    (swapPages s offs).free = s.free ∧ (swapPages s offs).pending = s.pending := by
  simp only [swapPages]
  refine ⟨foldl_reg ?_ _ _, foldl_heat ?_ _ _, foldl_sprint ?_ _ _, foldl_ports ?_ _ _,
    foldl_grid ?_ _ _, foldl_tile ?_ _ _, foldl_att ?_ _ _, foldl_tier ?_ _ _, foldl_net ?_ _ _,
    foldl_links ?_ _ _, foldl_coll ?_ _ _, foldl_host_mem ?_ _ _, foldl_crew ?_ _ _,
    foldl_power ?_ _ _, foldl_twin ?_ _ _, foldl_ud ?_ _ _, foldl_back ?_ _ _, foldl_now ?_ _ _,
    foldl_free ?_ _ _, foldl_pending ?_ _ _⟩
  all_goals (intro s q; repeat' split)
  all_goals simp

@[simp] theorem keepOld_frame (s : State) :
    (keepOld s).regs = s.regs ∧ (keepOld s).reg = s.reg ∧ (keepOld s).heat = s.heat ∧
    (keepOld s).sprint.readout = s.sprint.readout ∧ (keepOld s).ports = s.ports ∧
    (keepOld s).grid = s.grid ∧ (keepOld s).tile = s.tile ∧ (keepOld s).att = s.att ∧
    (keepOld s).tier = s.tier ∧ (keepOld s).net = s.net ∧ (keepOld s).links = s.links ∧
    (keepOld s).coll = s.coll ∧ (keepOld s).host = s.host ∧ (keepOld s).crew = s.crew ∧
    (keepOld s).power = s.power ∧ (keepOld s).twin = s.twin ∧ (keepOld s).ud = s.ud ∧
    (keepOld s).back = s.back ∧ (keepOld s).now = s.now ∧ (keepOld s).free = s.free ∧
    (keepOld s).pending = s.pending := by
  simp [keepOld]

@[simp] theorem shadowsLive_frame (s : State) :
    (shadowsLive s).reg.log = s.reg.log ∧ (shadowsLive s).heat = s.heat ∧
    (shadowsLive s).sprint.readout = s.sprint.readout ∧
    (shadowsLive s).ports.shadow = s.ports.shadow ∧ (shadowsLive s).tier = s.tier ∧
    (shadowsLive s).links = s.links ∧ (shadowsLive s).coll = s.coll ∧
    (shadowsLive s).host.mem = s.host.mem ∧ (shadowsLive s).crew = s.crew ∧
    (shadowsLive s).ud = s.ud ∧ (shadowsLive s).back = s.back ∧ (shadowsLive s).now = s.now ∧
    (shadowsLive s).free = s.free ∧ (shadowsLive s).pending = s.pending := by
  simp [shadowsLive]

@[simp] theorem transactionLive_frame (s : State) :
    (transactionLive s).reg.log = s.reg.log ∧ (transactionLive s).heat = s.heat ∧
    (transactionLive s).sprint.readout = s.sprint.readout ∧
    (transactionLive s).ports.shadow = s.ports.shadow ∧ (transactionLive s).tier = s.tier ∧
    (transactionLive s).links = s.links ∧ (transactionLive s).coll = s.coll ∧
    (transactionLive s).host.mem = s.host.mem ∧ (transactionLive s).crew = s.crew ∧
    (transactionLive s).ud = s.ud ∧ (transactionLive s).back = s.back ∧
    (transactionLive s).now = s.now ∧ (transactionLive s).free = s.free ∧
    (transactionLive s).pending = s.pending := by
  simp [transactionLive]

@[simp] theorem groupLive_frame (s : State) (g : Nat) (x : GroupShadow) :
    (groupLive s g x).reg = s.reg ∧ (groupLive s g x).heat = s.heat ∧
    (groupLive s g x).sprint.readout = s.sprint.readout ∧ (groupLive s g x).ports = s.ports ∧
    (groupLive s g x).grid = s.grid ∧ (groupLive s g x).tile = s.tile ∧
    (groupLive s g x).att = s.att ∧ (groupLive s g x).tier.data = s.tier.data ∧
    (groupLive s g x).host.mem = s.host.mem ∧ (groupLive s g x).crew = s.crew ∧
    (groupLive s g x).power = s.power ∧ (groupLive s g x).twin = s.twin ∧
    (groupLive s g x).ud = s.ud ∧ (groupLive s g x).back = s.back ∧
    (groupLive s g x).now = s.now ∧ (groupLive s g x).free = s.free ∧
    (groupLive s g x).pending = s.pending := by
  simp [groupLive]

@[simp] theorem groupsLive_frame (s : State) :
    (groupsLive s).reg = s.reg ∧ (groupsLive s).heat = s.heat ∧
    (groupsLive s).sprint.readout = s.sprint.readout ∧ (groupsLive s).ports = s.ports ∧
    (groupsLive s).grid = s.grid ∧ (groupsLive s).tile = s.tile ∧ (groupsLive s).att = s.att ∧
    (groupsLive s).tier.data = s.tier.data ∧ (groupsLive s).host.mem = s.host.mem ∧
    (groupsLive s).crew = s.crew ∧ (groupsLive s).power = s.power ∧ (groupsLive s).twin = s.twin ∧
    (groupsLive s).ud = s.ud ∧ (groupsLive s).back = s.back ∧ (groupsLive s).now = s.now ∧
    (groupsLive s).free = s.free ∧ (groupsLive s).pending = s.pending := by
  simp [groupsLive]

@[simp] theorem lengthChange_frame (old : Nat) (b : Time) (s : State) :
    (lengthChange old b s).regs = s.regs ∧ (lengthChange old b s).reg = s.reg ∧
    (lengthChange old b s).heat.num = s.heat.num ∧ (lengthChange old b s).sprint = s.sprint ∧
    (lengthChange old b s).ports = s.ports ∧ (lengthChange old b s).grid = s.grid ∧
    (lengthChange old b s).tile = s.tile ∧ (lengthChange old b s).att = s.att ∧
    (lengthChange old b s).tier = s.tier ∧ (lengthChange old b s).net = s.net ∧
    (lengthChange old b s).links = s.links ∧ (lengthChange old b s).coll = s.coll ∧
    (lengthChange old b s).host = s.host ∧ (lengthChange old b s).crew = s.crew ∧
    (lengthChange old b s).power = s.power ∧ (lengthChange old b s).twin = s.twin ∧
    (lengthChange old b s).ud = s.ud ∧ (lengthChange old b s).back = s.back ∧
    (lengthChange old b s).now = s.now ∧ (lengthChange old b s).free = s.free ∧
    (lengthChange old b s).pending = s.pending := by
  simp [lengthChange]

@[simp] theorem setsExchange_frame (s : State) (heat : Nat) (b : Time) (len : Nat) :
    (setsExchange s heat b len).2.reg = s.reg ∧ (setsExchange s heat b len).2.heat = s.heat ∧
    (setsExchange s heat b len).2.sprint.readout = s.sprint.readout ∧
    (setsExchange s heat b len).2.ports = s.ports ∧ (setsExchange s heat b len).2.grid = s.grid ∧
    (setsExchange s heat b len).2.tile = s.tile ∧ (setsExchange s heat b len).2.att = s.att ∧
    (setsExchange s heat b len).2.tier = s.tier ∧ (setsExchange s heat b len).2.net = s.net ∧
    (setsExchange s heat b len).2.links = s.links ∧ (setsExchange s heat b len).2.coll = s.coll ∧
    (setsExchange s heat b len).2.host = s.host ∧ (setsExchange s heat b len).2.crew = s.crew ∧
    (setsExchange s heat b len).2.power = s.power ∧ (setsExchange s heat b len).2.twin = s.twin ∧
    (setsExchange s heat b len).2.ud = s.ud ∧ (setsExchange s heat b len).2.back = s.back ∧
    (setsExchange s heat b len).2.now = s.now ∧ (setsExchange s heat b len).2.free = s.free ∧
    (setsExchange s heat b len).2.pending = s.pending := by
  simp [setsExchange]

@[simp] theorem releaseHeld_frame (s : State) (h : Held) :
    (releaseHeld s h).reg = s.reg ∧ (releaseHeld s h).heat = s.heat ∧
    (releaseHeld s h).sprint = s.sprint ∧ (releaseHeld s h).ports = s.ports ∧
    (releaseHeld s h).grid = s.grid ∧ (releaseHeld s h).tile = s.tile ∧
    (releaseHeld s h).att = s.att ∧ (releaseHeld s h).tier = s.tier ∧
    (releaseHeld s h).coll = s.coll ∧ (releaseHeld s h).host = s.host ∧
    (releaseHeld s h).crew = s.crew ∧ (releaseHeld s h).power = s.power ∧
    (releaseHeld s h).twin = s.twin ∧ (releaseHeld s h).ud = s.ud ∧
    (releaseHeld s h).back = s.back ∧ (releaseHeld s h).now = s.now ∧
    (releaseHeld s h).free = s.free ∧ (releaseHeld s h).pending = s.pending := by
  simp only [releaseHeld]
  repeat' split
  all_goals simp

@[simp] theorem heldReleased_frame (s : State) :
    (heldReleased s).reg = s.reg ∧ (heldReleased s).heat = s.heat ∧
    (heldReleased s).sprint = s.sprint ∧ (heldReleased s).ports = s.ports ∧
    (heldReleased s).grid = s.grid ∧ (heldReleased s).tile = s.tile ∧
    (heldReleased s).att = s.att ∧ (heldReleased s).tier = s.tier ∧
    (heldReleased s).coll = s.coll ∧ (heldReleased s).host = s.host ∧
    (heldReleased s).crew = s.crew ∧ (heldReleased s).power = s.power ∧
    (heldReleased s).twin = s.twin ∧ (heldReleased s).ud = s.ud ∧ (heldReleased s).back = s.back ∧
    (heldReleased s).now = s.now ∧ (heldReleased s).free = s.free ∧
    (heldReleased s).pending = s.pending := by
  simp [heldReleased]

@[simp] theorem throttleAt_frame (s : State) :
    (throttleAt s).reg = s.reg ∧ (throttleAt s).heat = s.heat ∧ (throttleAt s).sprint = s.sprint ∧
    (throttleAt s).ports = s.ports ∧ (throttleAt s).grid = s.grid ∧ (throttleAt s).tile = s.tile ∧
    (throttleAt s).att = s.att ∧ (throttleAt s).tier = s.tier ∧ (throttleAt s).net = s.net ∧
    (throttleAt s).links = s.links ∧ (throttleAt s).coll = s.coll ∧ (throttleAt s).host = s.host ∧
    (throttleAt s).crew = s.crew ∧ (throttleAt s).twin = s.twin ∧ (throttleAt s).ud = s.ud ∧
    (throttleAt s).back = s.back ∧ (throttleAt s).now = s.now ∧ (throttleAt s).free = s.free ∧
    (throttleAt s).pending = s.pending := by
  simp [throttleAt]

@[simp] theorem sprintAt_frame (s : State) :
    (sprintAt s).reg = s.reg ∧ (sprintAt s).heat = s.heat ∧
    (sprintAt s).sprint.readout = s.sprint.readout ∧ (sprintAt s).ports = s.ports ∧
    (sprintAt s).grid = s.grid ∧ (sprintAt s).tile = s.tile ∧ (sprintAt s).att = s.att ∧
    (sprintAt s).tier = s.tier ∧ (sprintAt s).net = s.net ∧ (sprintAt s).links = s.links ∧
    (sprintAt s).coll = s.coll ∧ (sprintAt s).host = s.host ∧ (sprintAt s).crew = s.crew ∧
    (sprintAt s).power = s.power ∧ (sprintAt s).twin = s.twin ∧ (sprintAt s).ud = s.ud ∧
    (sprintAt s).back = s.back ∧ (sprintAt s).now = s.now ∧ (sprintAt s).free = s.free ∧
    (sprintAt s).pending = s.pending := by
  simp [sprintAt]

@[simp] theorem portsAt_frame (s : State) :
    (portsAt s).regs = s.regs ∧ (portsAt s).reg = s.reg ∧ (portsAt s).heat = s.heat ∧
    (portsAt s).sprint = s.sprint ∧ (portsAt s).ports.live = s.ports.live ∧
    (portsAt s).ports.shadow = s.ports.shadow ∧ (portsAt s).grid = s.grid ∧
    (portsAt s).tile = s.tile ∧ (portsAt s).att = s.att ∧ (portsAt s).tier = s.tier ∧
    (portsAt s).net = s.net ∧ (portsAt s).links = s.links ∧ (portsAt s).coll = s.coll ∧
    (portsAt s).host = s.host ∧ (portsAt s).crew = s.crew ∧ (portsAt s).power = s.power ∧
    (portsAt s).twin = s.twin ∧ (portsAt s).ud = s.ud ∧ (portsAt s).back = s.back ∧
    (portsAt s).now = s.now ∧ (portsAt s).free = s.free ∧ (portsAt s).pending = s.pending := by
  simp [portsAt]

@[simp] theorem heatBegin_frame (s : State) (b : Time) (n : Nat) :
    (heatBegin s b n).regs = s.regs ∧ (heatBegin s b n).reg = s.reg ∧
    (heatBegin s b n).sprint = s.sprint ∧ (heatBegin s b n).ports = s.ports ∧
    (heatBegin s b n).grid = s.grid ∧ (heatBegin s b n).tile = s.tile ∧
    (heatBegin s b n).att = s.att ∧ (heatBegin s b n).tier = s.tier ∧
    (heatBegin s b n).net = s.net ∧ (heatBegin s b n).links = s.links ∧
    (heatBegin s b n).coll = s.coll ∧ (heatBegin s b n).host = s.host ∧
    (heatBegin s b n).crew = s.crew ∧ (heatBegin s b n).power = s.power ∧
    (heatBegin s b n).twin = s.twin ∧ (heatBegin s b n).ud = s.ud ∧
    (heatBegin s b n).back = s.back ∧ (heatBegin s b n).free = s.free ∧
    (heatBegin s b n).pending = s.pending := by
  simp [heatBegin]

@[simp] theorem setsAt_frame (armed : Bool) (s : State) (n : Nat) (b : Time) (len : Nat) :
    (setsAt armed s n b len).2.reg = s.reg ∧ (setsAt armed s n b len).2.heat = s.heat ∧
    (setsAt armed s n b len).2.sprint.readout = s.sprint.readout ∧
    (setsAt armed s n b len).2.ports = s.ports ∧ (setsAt armed s n b len).2.grid = s.grid ∧
    (setsAt armed s n b len).2.tile = s.tile ∧ (setsAt armed s n b len).2.att = s.att ∧
    (setsAt armed s n b len).2.tier = s.tier ∧ (setsAt armed s n b len).2.net = s.net ∧
    (setsAt armed s n b len).2.links = s.links ∧ (setsAt armed s n b len).2.coll = s.coll ∧
    (setsAt armed s n b len).2.host = s.host ∧ (setsAt armed s n b len).2.crew = s.crew ∧
    (setsAt armed s n b len).2.power = s.power ∧ (setsAt armed s n b len).2.twin = s.twin ∧
    (setsAt armed s n b len).2.ud = s.ud ∧ (setsAt armed s n b len).2.back = s.back ∧
    (setsAt armed s n b len).2.now = s.now ∧ (setsAt armed s n b len).2.free = s.free ∧
    (setsAt armed s n b len).2.pending = s.pending := by
  simp only [setsAt]
  repeat' split
  all_goals simp

@[simp] theorem pairEvents_frame (s : State) (gs : List Nat) (b : Time) :
    (pairEvents s gs b).heat = s.heat ∧ (pairEvents s gs b).sprint.readout = s.sprint.readout ∧
    (pairEvents s gs b).ports.live = s.ports.live ∧
    (pairEvents s gs b).ports.shadow = s.ports.shadow ∧ (pairEvents s gs b).grid = s.grid ∧
    (pairEvents s gs b).tile = s.tile ∧ (pairEvents s gs b).att = s.att ∧
    (pairEvents s gs b).tier = s.tier ∧ (pairEvents s gs b).net = s.net ∧
    (pairEvents s gs b).coll = s.coll ∧ (pairEvents s gs b).host.mem = s.host.mem ∧
    (pairEvents s gs b).crew = s.crew ∧ (pairEvents s gs b).power = s.power ∧
    (pairEvents s gs b).ud.vcount = s.ud.vcount ∧ (pairEvents s gs b).ud.staging = s.ud.staging ∧
    (pairEvents s gs b).back = s.back ∧ (pairEvents s gs b).now = s.now ∧
    (pairEvents s gs b).pending = s.pending := by
  simp [pairEvents]

@[simp] theorem slackOver_frame (s : State) :
    (slackOver s).regs = s.regs ∧ (slackOver s).reg = s.reg ∧ (slackOver s).heat = s.heat ∧
    (slackOver s).sprint = s.sprint ∧ (slackOver s).ports = s.ports ∧
    (slackOver s).grid = s.grid ∧ (slackOver s).tile = s.tile ∧ (slackOver s).att = s.att ∧
    (slackOver s).tier = s.tier ∧ (slackOver s).net = s.net ∧ (slackOver s).links = s.links ∧
    (slackOver s).coll = s.coll ∧ (slackOver s).host = s.host ∧ (slackOver s).crew = s.crew ∧
    (slackOver s).power = s.power ∧ (slackOver s).twin = s.twin ∧ (slackOver s).ud = s.ud ∧
    (slackOver s).now = s.now ∧ (slackOver s).free = s.free ∧ (slackOver s).pending = s.pending := by
  simp [slackOver]

@[simp] theorem stageTen_frame (s : State) :
    (stageTen s).regs = s.regs ∧ (stageTen s).reg = s.reg ∧ (stageTen s).heat = s.heat ∧
    (stageTen s).sprint = s.sprint ∧ (stageTen s).ports = s.ports ∧ (stageTen s).grid = s.grid ∧
    (stageTen s).tile = s.tile ∧ (stageTen s).att = s.att ∧ (stageTen s).tier = s.tier ∧
    (stageTen s).net = s.net ∧ (stageTen s).links = s.links ∧ (stageTen s).coll = s.coll ∧
    (stageTen s).host = s.host ∧ (stageTen s).crew = s.crew ∧ (stageTen s).twin = s.twin ∧
    (stageTen s).ud = s.ud ∧ (stageTen s).back = s.back ∧ (stageTen s).now = s.now ∧
    (stageTen s).free = s.free ∧ (stageTen s).pending = s.pending := by
  simp [stageTen]

@[simp] theorem settingsAt_frame (s : State) (b : Time) (n : Nat) :
    (settingsAt s b n).reg.log = s.reg.log ∧
    (settingsAt s b n).sprint.readout = s.sprint.readout ∧
    (settingsAt s b n).ports.shadow = s.ports.shadow ∧
    (settingsAt s b n).tier.data = s.tier.data ∧ (settingsAt s b n).host.mem = s.host.mem ∧
    (settingsAt s b n).crew = s.crew ∧ (settingsAt s b n).ud = s.ud ∧
    (settingsAt s b n).back = s.back ∧ (settingsAt s b n).free = s.free ∧
    (settingsAt s b n).pending = s.pending := by
  simp [settingsAt]

@[simp] theorem boundary_frame (s : State) (b : Time) (n : Nat) :
    (boundary s b n).sprint.readout = s.sprint.readout ∧
    (boundary s b n).ports.shadow = s.ports.shadow ∧ (boundary s b n).tier.data = s.tier.data ∧
    (boundary s b n).host.mem = s.host.mem ∧ (boundary s b n).crew = s.crew ∧
    (boundary s b n).ud.vcount = s.ud.vcount ∧ (boundary s b n).ud.staging = s.ud.staging ∧
    (boundary s b n).pending = s.pending := by
  simp [boundary]

@[simp] theorem heatRecompute_frame (s : State) (t : Time) :
    (heatRecompute s t).sprint.readout = s.sprint.readout ∧
    (heatRecompute s t).ports.shadow = s.ports.shadow ∧
    (heatRecompute s t).tier.data = s.tier.data ∧ (heatRecompute s t).host.mem = s.host.mem ∧
    (heatRecompute s t).crew = s.crew ∧ (heatRecompute s t).ud.vcount = s.ud.vcount ∧
    (heatRecompute s t).ud.staging = s.ud.staging ∧ (heatRecompute s t).pending = s.pending := by
  simp [heatRecompute]

end Sys2Proof.Machine
end

