-- ==== Sys2Proof/Laws/FrameMgmt.lean ====
section
/-!
SUPPORT. What the operations of Machine/Mgmt.lean leave unchanged.
-/
namespace Sys2Proof.Machine
open Sys2Proof

@[simp] theorem noPointer_frame (s : State) :
    (noPointer s).regs = s.regs ∧ (noPointer s).reg.log = s.reg.log ∧
    (noPointer s).heat = s.heat ∧ (noPointer s).sprint = s.sprint ∧
    (noPointer s).ports = s.ports ∧ (noPointer s).grid = s.grid ∧ (noPointer s).tile = s.tile ∧
    (noPointer s).att = s.att ∧ (noPointer s).tier = s.tier ∧ (noPointer s).net = s.net ∧
    (noPointer s).links = s.links ∧ (noPointer s).coll = s.coll ∧ (noPointer s).host = s.host ∧
    (noPointer s).crew = s.crew ∧ (noPointer s).power = s.power ∧ (noPointer s).twin = s.twin ∧
    (noPointer s).ud = s.ud ∧ (noPointer s).back = s.back ∧ (noPointer s).now = s.now ∧
    (noPointer s).free = s.free ∧ (noPointer s).pending = s.pending := by
  simp [noPointer]

@[simp] theorem badPointer_frame (s : State) :
    (badPointer s).regs = s.regs ∧ (badPointer s).reg.log = s.reg.log ∧
    (badPointer s).heat = s.heat ∧ (badPointer s).sprint = s.sprint ∧
    (badPointer s).ports = s.ports ∧ (badPointer s).grid = s.grid ∧ (badPointer s).tile = s.tile ∧
    (badPointer s).att = s.att ∧ (badPointer s).tier = s.tier ∧ (badPointer s).net = s.net ∧
    (badPointer s).links = s.links ∧ (badPointer s).coll = s.coll ∧ (badPointer s).host = s.host ∧
    (badPointer s).crew = s.crew ∧ (badPointer s).power = s.power ∧ (badPointer s).twin = s.twin ∧
    (badPointer s).ud = s.ud ∧ (badPointer s).back = s.back ∧ (badPointer s).now = s.now ∧
    (badPointer s).free = s.free ∧ (badPointer s).pending = s.pending := by
  simp [badPointer]

@[simp] theorem frameDrop_frame (s : State) (j : Nat) :
    (frameDrop s j).reg.log = s.reg.log ∧ (frameDrop s j).heat = s.heat ∧
    (frameDrop s j).sprint = s.sprint ∧ (frameDrop s j).ports = s.ports ∧
    (frameDrop s j).grid = s.grid ∧ (frameDrop s j).tile = s.tile ∧ (frameDrop s j).att = s.att ∧
    (frameDrop s j).tier = s.tier ∧ (frameDrop s j).net = s.net ∧
    (frameDrop s j).links = s.links ∧ (frameDrop s j).coll = s.coll ∧
    (frameDrop s j).host.mem = s.host.mem ∧ (frameDrop s j).crew = s.crew ∧
    (frameDrop s j).power = s.power ∧ (frameDrop s j).twin = s.twin ∧ (frameDrop s j).ud = s.ud ∧
    (frameDrop s j).back = s.back ∧ (frameDrop s j).now = s.now ∧ (frameDrop s j).free = s.free ∧
    (frameDrop s j).pending = s.pending := by
  simp [frameDrop]

@[simp] theorem mgmtCommit_frame (s : State) (op : Nat) (ow : Option Nat) (f : List Byte) :
    (mgmtCommit s op ow f).heat = s.heat ∧ (mgmtCommit s op ow f).ports.live = s.ports.live ∧
    (mgmtCommit s op ow f).ud.vcount = s.ud.vcount ∧
    (mgmtCommit s op ow f).ud.staging = s.ud.staging ∧ (mgmtCommit s op ow f).back = s.back ∧
    (mgmtCommit s op ow f).now = s.now ∧ (mgmtCommit s op ow f).pending = s.pending := by
  simp [mgmtCommit]

@[simp] theorem mgmtAnswer_frame (s : State) (addr : Byte) (data : Nat) (status : Nat) :
    (mgmtAnswer s addr data status).regs = s.regs ∧
    (mgmtAnswer s addr data status).reg.log = s.reg.log ∧
    (mgmtAnswer s addr data status).heat = s.heat ∧
    (mgmtAnswer s addr data status).sprint = s.sprint ∧
    (mgmtAnswer s addr data status).ports = s.ports ∧
    (mgmtAnswer s addr data status).grid = s.grid ∧
    (mgmtAnswer s addr data status).tile = s.tile ∧ (mgmtAnswer s addr data status).att = s.att ∧
    (mgmtAnswer s addr data status).tier = s.tier ∧ (mgmtAnswer s addr data status).net = s.net ∧
    (mgmtAnswer s addr data status).links = s.links ∧
    (mgmtAnswer s addr data status).coll = s.coll ∧
    (mgmtAnswer s addr data status).host = s.host ∧
    (mgmtAnswer s addr data status).crew = s.crew ∧
    (mgmtAnswer s addr data status).power = s.power ∧
    (mgmtAnswer s addr data status).twin = s.twin ∧ (mgmtAnswer s addr data status).ud = s.ud ∧
    (mgmtAnswer s addr data status).back = s.back ∧ (mgmtAnswer s addr data status).now = s.now ∧
    (mgmtAnswer s addr data status).free = s.free ∧
    (mgmtAnswer s addr data status).pending = s.pending := by
  simp [mgmtAnswer]

end Sys2Proof.Machine
end

