-- ==== Sys2Proof/Laws/FrameStep.lean ====
section
/-!
SUPPORT. What the operations of Machine/Step.lean leave unchanged.
-/
namespace Sys2Proof.Machine
open Sys2Proof

@[simp] theorem State_withFetchWord_frame (s : State) (nbits : Nat) (w : Nat) :
    (State.withFetchWord s nbits w).regs = s.regs ∧ (State.withFetchWord s nbits w).reg = s.reg ∧
    (State.withFetchWord s nbits w).heat = s.heat ∧
    (State.withFetchWord s nbits w).sprint = s.sprint ∧
    (State.withFetchWord s nbits w).ports = s.ports ∧
    (State.withFetchWord s nbits w).grid = s.grid ∧
    (State.withFetchWord s nbits w).tile = s.tile ∧ (State.withFetchWord s nbits w).att = s.att ∧
    (State.withFetchWord s nbits w).tier = s.tier ∧ (State.withFetchWord s nbits w).net = s.net ∧
    (State.withFetchWord s nbits w).links = s.links ∧
    (State.withFetchWord s nbits w).coll = s.coll ∧
    (State.withFetchWord s nbits w).host = s.host ∧
    (State.withFetchWord s nbits w).crew = s.crew ∧
    (State.withFetchWord s nbits w).power = s.power ∧
    (State.withFetchWord s nbits w).twin = s.twin ∧ (State.withFetchWord s nbits w).ud = s.ud ∧
    (State.withFetchWord s nbits w).back = s.back ∧ (State.withFetchWord s nbits w).now = s.now ∧
    (State.withFetchWord s nbits w).free = s.free := by
  simp only [State.withFetchWord]
  repeat' split
  all_goals simp

end Sys2Proof.Machine
end

