-- ==== Sys2Proof/Laws/Memories.lean ====
section
/-!
SUPPORT. Every operation that writes a memory of the device keeps that memory's canonical form.
-/
namespace Sys2Proof.Machine
open Sys2Proof

@[simp] theorem foldl_sprint_readout_wf {α : Type} {f : State → α → State} (l : List α) (s : State)
    (h : ∀ s x, memWf s.sprint.readout = true → memWf (f s x).sprint.readout = true) (hs : memWf s.sprint.readout = true) :
    memWf (l.foldl f s).sprint.readout = true := foldl_inv (fun s => memWf s.sprint.readout = true) _ l s hs h

@[simp] theorem foldl_ports_live_wf {α : Type} {f : State → α → State} (l : List α) (s : State)
    (h : ∀ s x, memWf s.ports.live = true → memWf (f s x).ports.live = true) (hs : memWf s.ports.live = true) :
    memWf (l.foldl f s).ports.live = true := foldl_inv (fun s => memWf s.ports.live = true) _ l s hs h

@[simp] theorem foldl_ports_shadow_wf {α : Type} {f : State → α → State} (l : List α) (s : State)
    (h : ∀ s x, memWf s.ports.shadow = true → memWf (f s x).ports.shadow = true) (hs : memWf s.ports.shadow = true) :
    memWf (l.foldl f s).ports.shadow = true := foldl_inv (fun s => memWf s.ports.shadow = true) _ l s hs h

@[simp] theorem foldl_grid_scratch_wf {α : Type} {f : State → α → State} (l : List α) (s : State)
    (h : ∀ s x, memWf s.grid.scratch = true → memWf (f s x).grid.scratch = true) (hs : memWf s.grid.scratch = true) :
    memWf (l.foldl f s).grid.scratch = true := foldl_inv (fun s => memWf s.grid.scratch = true) _ l s hs h

@[simp] theorem foldl_tier_data_wf {α : Type} {f : State → α → State} (l : List α) (s : State)
    (h : ∀ s x, memWf s.tier.data = true → memWf (f s x).tier.data = true) (hs : memWf s.tier.data = true) :
    memWf (l.foldl f s).tier.data = true := foldl_inv (fun s => memWf s.tier.data = true) _ l s hs h

@[simp] theorem foldl_host_mem_wf {α : Type} {f : State → α → State} (l : List α) (s : State)
    (h : ∀ s x, memWf s.host.mem = true → memWf (f s x).host.mem = true) (hs : memWf s.host.mem = true) :
    memWf (l.foldl f s).host.mem = true := foldl_inv (fun s => memWf s.host.mem = true) _ l s hs h

@[simp] theorem foldl_ud_staging_wf {α : Type} {f : State → α → State} (l : List α) (s : State)
    (h : ∀ s x, memWf s.ud.staging = true → memWf (f s x).ud.staging = true) (hs : memWf s.ud.staging = true) :
    memWf (l.foldl f s).ud.staging = true := foldl_inv (fun s => memWf s.ud.staging = true) _ l s hs h

@[simp] theorem hostWrite_host_mem_wf (s : State) (a : Nat) (b : List Byte)
    (h : memWf s.host.mem = true) : memWf (hostWrite s a b).host.mem = true := by
  simp only [hostWrite]
  repeat' split
  all_goals simp (maxDischargeDepth := 9) [*]

@[simp] theorem wrU_tier_data_wf (s : State) (crew : Nat) (a : Nat) (b : List Byte)
    (h : memWf s.tier.data = true) : memWf (wrU s crew a b).tier.data = true := by
  simp only [wrU]
  repeat' split
  all_goals simp (maxDischargeDepth := 9) [*]

@[simp] theorem allocObj_tier_data_wf (s : State) (crew : Nat) (obj : Nat) (tier : Nat) (die : Nat) (size : Nat) (pin : Bool)
    (h : memWf s.tier.data = true) :
    memWf (allocObj s crew obj tier die size pin).tier.data = true := by
  simp only [allocObj]
  repeat' split
  all_goals simp (maxDischargeDepth := 9) [*]

@[simp] theorem copyPiece_tier_data_wf (s : State) (crew : Nat) (src : Nat) (dst : Nat) (pos : Nat) (len : Nat)
    (h : memWf s.tier.data = true) : memWf (copyPiece s crew src dst pos len).tier.data = true := by
  simp only [copyPiece]
  repeat' split
  all_goals simp (maxDischargeDepth := 9) [*]

@[simp] theorem copyAll_tier_data_wf (s : State) (crew : Nat) (src : Nat) (dst : Nat) (len : Nat)
    (h : memWf s.tier.data = true) : memWf (copyAll s crew src dst len).tier.data = true := by
  simp only [copyAll]
  repeat' split
  all_goals simp +contextual (maxDischargeDepth := 9) [*]

@[simp] theorem finishReq_tier_data_wf (s : State) (r : TierReq)
    (h : memWf s.tier.data = true) : memWf (finishReq s r).tier.data = true := by
  simp only [finishReq]
  repeat' split
  all_goals simp (maxDischargeDepth := 9) [*]

@[simp] theorem finishReq_host_mem_wf (s : State) (r : TierReq)
    (h : memWf s.host.mem = true) : memWf (finishReq s r).host.mem = true := by
  simp only [finishReq]
  repeat' split
  all_goals simp (maxDischargeDepth := 9) [*]

@[simp] theorem beginReq_tier_data_wf (s : State) (r : TierReq)
    (h : memWf s.tier.data = true) : memWf (beginReq s r).tier.data = true := by
  simp only [beginReq]
  repeat' split
  all_goals simp (maxDischargeDepth := 9) [*]

@[simp] theorem beginReq_host_mem_wf (s : State) (r : TierReq)
    (h : memWf s.host.mem = true) : memWf (beginReq s r).host.mem = true := by
  simp only [beginReq]
  repeat' split
  all_goals simp (maxDischargeDepth := 9) [*]

@[simp] theorem slicePut_grid_scratch_wf (s : State) (area : Bool) (u : Nat) (b : List Byte)
    (h : memWf s.grid.scratch = true) : memWf (slicePut s area u b).grid.scratch = true := by
  simp only [slicePut]
  exact foldl_inv (fun m => memWf m = true) _ _ _ h fun m x hm => memWf_wrB _ _ hm

@[simp] theorem exportBlock_host_mem_wf (s : State) (b : LBlock)
    (h : memWf s.host.mem = true) : memWf (exportBlock s b).host.mem = true := by
  simp only [exportBlock]
  repeat' split
  all_goals simp (maxDischargeDepth := 9) [*]

@[simp] theorem ledgerReplay_host_mem_wf (s : State) (hi : Nat)
    (h : memWf s.host.mem = true) : memWf (ledgerReplay s hi).host.mem = true := by
  simp only [ledgerReplay]
  repeat' split
  all_goals simp (maxDischargeDepth := 9) [*]

@[simp] theorem exportSigned_host_mem_wf (s : State) (l : List LBlock)
    (h : memWf s.host.mem = true) : memWf (exportSigned s l).host.mem = true := by
  simp only [exportSigned]
  repeat' split
  all_goals simp +contextual (maxDischargeDepth := 9) [*]

@[simp] theorem sealIntoReset_host_mem_wf (s : State) (cause : Nat) (reason : Nat) (t : Time)
    (h : memWf s.host.mem = true) : memWf (sealIntoReset s cause reason t).host.mem = true := by
  simp only [sealIntoReset]
  repeat' split
  all_goals simp (maxDischargeDepth := 9) [*]

@[simp] theorem wrScratch_grid_scratch_wf (s : State) (k : Nat) (a : Int) (b : List Byte)
    (h : memWf s.grid.scratch = true) : memWf (wrScratch s k a b).grid.scratch = true := by
  simp only [wrScratch]
  repeat' split
  all_goals simp (maxDischargeDepth := 9) [*]

@[simp] theorem finishOp_grid_scratch_wf (s : State) (k : Nat) (op : UnitOp)
    (h : memWf s.grid.scratch = true) : memWf (finishOp s k op).grid.scratch = true := by
  simp only [finishOp]
  repeat' split
  all_goals simp (maxDischargeDepth := 9) [*]

@[simp] theorem takeShell_grid_scratch_wf (s : State) (k : Nat) (crew : Nat)
    (h : memWf s.grid.scratch = true) : memWf (takeShell s k crew).grid.scratch = true := by
  simp only [takeShell]
  repeat' split
  all_goals simp +contextual (maxDischargeDepth := 9) [*]

@[simp] theorem startShell_grid_scratch_wf (s : State) (k : Nat) (slot : Nat) (crew : Nat) (image : Nat)
    (h : memWf s.grid.scratch = true) :
    memWf (startShell s k slot crew image).grid.scratch = true := by
  simp only [startShell]
  repeat' split
  all_goals simp (maxDischargeDepth := 9) [*]

@[simp] theorem loadTable_grid_scratch_wf (s : State) (k : Nat) (crew : Nat) (slot : Nat) (img : List Byte)
    (h : memWf s.grid.scratch = true) :
    memWf (loadTable s k crew slot img).grid.scratch = true := by
  simp only [loadTable]
  repeat' split
  all_goals simp (maxDischargeDepth := 9) [*]

@[simp] theorem putElem_tier_data_wf (s : State) (crew : Nat) (w : Nat) (a : Nat) (i : Nat) (v : Nat)
    (h : memWf s.tier.data = true) : memWf (putElem s crew w a i v).tier.data = true := by
  simp only [putElem]
  repeat' split
  all_goals simp (maxDischargeDepth := 9) [*]

@[simp] theorem storeUnit_tier_data_wf (s : State) (crew : Nat) (d : XDesc) (u : Nat) (b : List Byte)
    (h : memWf s.tier.data = true) : memWf (storeUnit s crew d u b).tier.data = true := by
  simp only [storeUnit]
  repeat' split
  all_goals first
  | assumption
  | (simp +contextual (maxDischargeDepth := 9) [*]; done)
  | (apply foldl_tier_data_wf; (intro s q hq; (repeat' split) <;> simp (maxDischargeDepth := 9) [*]); simp (maxDischargeDepth := 9) [*])

@[simp] theorem collStore_tier_data_wf (s : State) (x : Coll) (c : Slot) (a : Nat) (b : List Byte)
    (h : memWf s.tier.data = true) : memWf (collStore s x c a b).tier.data = true := by
  simp only [collStore]
  repeat' split
  all_goals simp (maxDischargeDepth := 9) [*]

@[simp] theorem blockWhole_tier_data_wf (s : State) (x : Coll) (c : Slot) (i : Nat)
    (h : memWf s.tier.data = true) : memWf (blockWhole s x c i).tier.data = true := by
  simp only [blockWhole]
  repeat' split
  all_goals simp (maxDischargeDepth := 9) [*]

@[simp] theorem xchgEnd_tier_data_wf (s : State) (i : Nat)
    (h : memWf s.tier.data = true) : memWf (xchgEnd s i).tier.data = true := by
  simp only [xchgEnd]
  repeat' split
  all_goals simp (maxDischargeDepth := 9) [*]

@[simp] theorem takePiece_tier_data_wf (s : State) (x : Coll) (c : Slot) (j : Nat) (off : Nat) (b : List Byte)
    (h : memWf s.tier.data = true) : memWf (takePiece s x c j off b).tier.data = true := by
  simp only [takePiece]
  repeat' split
  all_goals simp (maxDischargeDepth := 9) [*]

@[simp] theorem ownBlock_tier_data_wf (s : State) (x : Coll) (c : Slot) (self : Nat)
    (h : memWf s.tier.data = true) : memWf (ownBlock s x c self).tier.data = true := by
  simp only [ownBlock]
  repeat' split
  all_goals simp (maxDischargeDepth := 9) [*]

@[simp] theorem xchgData_tier_data_wf (s : State) (x : Coll) (c : Slot) (gr : Group)
    (h : memWf s.tier.data = true) : memWf (xchgData s x c gr).tier.data = true := by
  simp only [xchgData]
  repeat' split
  all_goals simp (maxDischargeDepth := 9) [*]

@[simp] theorem countsCheck_tier_data_wf (s : State) (x : Coll) (c : Slot) (gr : Group)
    (h : memWf s.tier.data = true) : memWf (countsCheck s x c gr).tier.data = true := by
  simp only [countsCheck]
  repeat' split
  all_goals simp (maxDischargeDepth := 9) [*]

@[simp] theorem xchgBegin_tier_data_wf (s : State) (x : Coll) (c : Slot) (gr : Group)
    (h : memWf s.tier.data = true) : memWf (xchgBegin s x c gr).tier.data = true := by
  simp only [xchgBegin]
  repeat' split
  all_goals simp (maxDischargeDepth := 9) [*]

@[simp] theorem goOn_tier_data_wf (s : State) (i : Nat) (weft : Bool)
    (h : memWf s.tier.data = true) : memWf (goOn s i weft).tier.data = true := by
  simp only [goOn]
  repeat' split
  all_goals simp (maxDischargeDepth := 9) [*]

@[simp] theorem readyUp_tier_data_wf (s : State) (i : Nat)
    (h : memWf s.tier.data = true) : memWf (readyUp s i).tier.data = true := by
  simp only [readyUp]
  repeat' split
  all_goals try exact h
  all_goals try refine goOn_tier_data_wf _ _ _ (goOn_tier_data_wf _ _ _ ?_)
  all_goals
    refine foldl_tier_data_wf _ _ ?_ h
    intro s q hq
    repeat' split
    all_goals simpa using hq

@[simp] theorem phase2_tier_data_wf (s : State) (x : Coll) (c : Slot) (gr : Group) (weft : Bool) (flags : Flags)
    (h : memWf s.tier.data = true) : memWf (phase2 s x c gr weft flags).tier.data = true := by
  simp only [phase2]
  repeat' split
  all_goals simp (maxDischargeDepth := 9) [*]

@[simp] theorem downData_tier_data_wf (s : State) (x : Coll) (c : Slot) (gr : Group) (p : HPkt)
    (h : memWf s.tier.data = true) : memWf (downData s x c gr p).tier.data = true := by
  simp only [downData]
  repeat' split
  all_goals simp (maxDischargeDepth := 9) [*]

@[simp] theorem xchgPiece_tier_data_wf (s : State) (x : Coll) (c : Slot) (gr : Group) (p : HPkt)
    (h : memWf s.tier.data = true) : memWf (xchgPiece s x c gr p).tier.data = true := by
  simp only [xchgPiece]
  repeat' split
  all_goals simp (maxDischargeDepth := 9) [*]

@[simp] theorem instArrive_tier_data_wf (s : State) (x : Coll) (gr : Group) (p : HPkt)
    (h : memWf s.tier.data = true) : memWf (instArrive s x gr p).tier.data = true := by
  simp only [instArrive]
  repeat' split
  all_goals simp (maxDischargeDepth := 9) [*]

@[simp] theorem collArrive_tier_data_wf (s : State) (gr : Group) (p : HPkt)
    (h : memWf s.tier.data = true) : memWf (collArrive s gr p).tier.data = true := by
  simp only [collArrive]
  repeat' split
  all_goals simp (maxDischargeDepth := 9) [*]

@[simp] theorem collStart_tier_data_wf (s : State) (i : Nat) (c : Slot) (gr : Group)
    (h : memWf s.tier.data = true) : memWf (collStart s i c gr).tier.data = true := by
  simp only [collStart]
  repeat' split
  all_goals first
  | assumption
  | (simp +contextual (maxDischargeDepth := 9) [*]; done)
  | (apply foldl_tier_data_wf; (intro s q hq; (repeat' split) <;> simp (maxDischargeDepth := 9) [*]); simp (maxDischargeDepth := 9) [*])

@[simp] theorem collLaunch_tier_data_wf (i : Nat) (c : Slot) (s : State)
    (h : memWf s.tier.data = true) : memWf (collLaunch i c s).tier.data = true := by
  simp only [collLaunch]
  repeat' split
  all_goals simp (maxDischargeDepth := 9) [*]

@[simp] theorem collSum_tier_data_wf (s : State) (n : TreeNode) (v : List Word) (fl : Flags)
    (h : memWf s.tier.data = true) : memWf (collSum s n v fl).tier.data = true := by
  simp only [collSum]
  repeat' split
  all_goals simp (maxDischargeDepth := 9) [*]

@[simp] theorem storeLine_grid_scratch_wf (s : State) (o : Nat) (p : Pass) (i : Nat) (rec : List Word) (out : List Byte)
    (h : memWf s.grid.scratch = true) : memWf (storeLine s o p i rec out).grid.scratch = true := by
  simp only [storeLine]
  repeat' split
  all_goals simp (maxDischargeDepth := 9) [*]

@[simp] theorem tblHw_ports_live_wf (s : State) (a : Nat) (b : List Byte)
    (h : memWf s.ports.live = true) : memWf (tblHw s a b).ports.live = true := by
  simp only [tblHw]
  repeat' split
  all_goals simp (maxDischargeDepth := 9) [*]

@[simp] theorem tblHw_ports_shadow_wf (s : State) (a : Nat) (b : List Byte)
    (h : memWf s.ports.shadow = true) : memWf (tblHw s a b).ports.shadow = true := by
  simp only [tblHw]
  repeat' split
  all_goals simp (maxDischargeDepth := 9) [*]

@[simp] theorem bumpEpoch_ports_live_wf (s : State) (port : Nat) (i : Nat)
    (h : memWf s.ports.live = true) : memWf (bumpEpoch s port i).ports.live = true := by
  simp only [bumpEpoch]
  repeat' split
  all_goals simp (maxDischargeDepth := 9) [*]

@[simp] theorem bumpEpoch_ports_shadow_wf (s : State) (port : Nat) (i : Nat)
    (h : memWf s.ports.shadow = true) : memWf (bumpEpoch s port i).ports.shadow = true := by
  simp only [bumpEpoch]
  repeat' split
  all_goals simp (maxDischargeDepth := 9) [*]

@[simp] theorem writeRecord_host_mem_wf (s : State) (c : Slot)
    (h : memWf s.host.mem = true) : memWf (writeRecord s c).host.mem = true := by
  simp only [writeRecord]
  repeat' split
  all_goals simp (maxDischargeDepth := 9) [*]

@[simp] theorem recordOut_host_mem_wf (s : State) (i : Nat)
    (h : memWf s.host.mem = true) : memWf (recordOut s i).host.mem = true := by
  simp only [recordOut]
  repeat' split
  all_goals simp (maxDischargeDepth := 9) [*]

@[simp] theorem exceptionCopy_host_mem_wf (s : State) (port : Nat) (f : RxFrame)
    (h : memWf s.host.mem = true) : memWf (exceptionCopy s port f).host.mem = true := by
  simp only [exceptionCopy]
  repeat' split
  all_goals simp (maxDischargeDepth := 9) [*]

@[simp] theorem deepEnd_host_mem_wf (s : State) (port : Nat) (stamp : Time) (layers : Nat)
    (h : memWf s.host.mem = true) : memWf (deepEnd s port stamp layers).host.mem = true := by
  simp only [deepEnd]
  repeat' split
  all_goals simp (maxDischargeDepth := 9) [*]

@[simp] theorem inconsistent_ports_live_wf (s : State) (port : Nat) (r : ParserRun) (ctr : Option Nat)
    (h : memWf s.ports.live = true) : memWf (inconsistent s port r ctr).ports.live = true := by
  simp only [inconsistent]
  repeat' split
  all_goals simp (maxDischargeDepth := 9) [*]

@[simp] theorem inconsistent_ports_shadow_wf (s : State) (port : Nat) (r : ParserRun) (ctr : Option Nat)
    (h : memWf s.ports.shadow = true) : memWf (inconsistent s port r ctr).ports.shadow = true := by
  simp only [inconsistent]
  repeat' split
  all_goals simp (maxDischargeDepth := 9) [*]

@[simp] theorem sequence_ports_live_wf (s : State) (k : TokRec)
    (h : memWf s.ports.live = true) : memWf (sequence s k).2.ports.live = true := by
  simp only [sequence]
  repeat' split
  all_goals simp (maxDischargeDepth := 9) [*]

@[simp] theorem sequence_ports_shadow_wf (s : State) (k : TokRec)
    (h : memWf s.ports.shadow = true) : memWf (sequence s k).2.ports.shadow = true := by
  simp only [sequence]
  repeat' split
  all_goals simp (maxDischargeDepth := 9) [*]

@[simp] theorem tablesSwap_ports_live_wf (s : State)
    (h : memWf s.ports.live = true)
    (h2 : memWf s.ports.shadow = true) : memWf (tablesSwap s).ports.live = true := by
  simp only [tablesSwap]
  repeat' split
  all_goals simp (maxDischargeDepth := 9) [*]

@[simp] theorem tblPut_ports_shadow_wf (s : State) (w : Nat × Word)
    (h : memWf s.ports.shadow = true) : memWf (tblPut s w).ports.shadow = true := by
  simp only [tblPut]
  repeat' split
  all_goals simp (maxDischargeDepth := 9) [*]

@[simp] theorem tblWrite_ports_shadow_wf (s : State) (v : Word)
    (h : memWf s.ports.shadow = true) : memWf (tblWrite s v).ports.shadow = true := by
  simp only [tblWrite]
  repeat' split
  all_goals simp (maxDischargeDepth := 9) [*]

@[simp] theorem scrubCrew_tier_data_wf (s : State) (c : Nat)
    (h : memWf s.tier.data = true) : memWf (scrubCrew s c).tier.data = true := by
  simp only [scrubCrew]
  repeat' split
  all_goals simp (maxDischargeDepth := 9) [*]

@[simp] theorem scrubMask_tier_data_wf (s : State) (mask : Nat)
    (h : memWf s.tier.data = true) : memWf (scrubMask s mask).tier.data = true := by
  simp only [scrubMask]
  repeat' split
  all_goals simp +contextual (maxDischargeDepth := 9) [*]

@[simp] theorem diesCleared_sprint_readout_wf (s : State)
    (h : memWf s.sprint.readout = true) : memWf (diesCleared s).sprint.readout = true := by
  simp [diesCleared, SprintSt.reset, GridSt.reset]

@[simp] theorem diesCleared_grid_scratch_wf (s : State)
    (h : memWf s.grid.scratch = true) : memWf (diesCleared s).grid.scratch = true := by
  simp [diesCleared, SprintSt.reset, GridSt.reset]

@[simp] theorem warmOp_sprint_readout_wf (s : State)
    (h : memWf s.sprint.readout = true) : memWf (warmOp s).sprint.readout = true := by
  simp only [warmOp]
  repeat' split
  all_goals simp (maxDischargeDepth := 9) [*]

@[simp] theorem warmOp_grid_scratch_wf (s : State)
    (h : memWf s.grid.scratch = true) : memWf (warmOp s).grid.scratch = true := by
  simp only [warmOp]
  repeat' split
  all_goals simp (maxDischargeDepth := 9) [*]

@[simp] theorem warmReset_sprint_readout_wf (s : State)
    (h : memWf s.sprint.readout = true) : memWf (warmReset s).sprint.readout = true := by
  simp only [warmReset]
  repeat' split
  all_goals simp (maxDischargeDepth := 9) [*]

@[simp] theorem warmReset_grid_scratch_wf (s : State)
    (h : memWf s.grid.scratch = true) : memWf (warmReset s).grid.scratch = true := by
  simp only [warmReset]
  repeat' split
  all_goals simp (maxDischargeDepth := 9) [*]

@[simp] theorem lossRecords_host_mem_wf (s : State)
    (h : memWf s.host.mem = true) : memWf (lossRecords s).host.mem = true := by
  simp only [lossRecords]
  repeat' split
  all_goals simp +contextual (maxDischargeDepth := 9) [*]

@[simp] theorem dieOff_grid_scratch_wf (s : State) (d : Nat)
    (h : memWf s.grid.scratch = true) : memWf (dieOff s d).grid.scratch = true := by
  simp only [dieOff]
  repeat' split
  all_goals simp (maxDischargeDepth := 9) [*]

@[simp] theorem serveRw_ports_shadow_wf (s : State) (p : Port) (ow : Option Nat) (k : PageKind) (n : Nat) (o : Nat) (v : Nat)
    (h : memWf s.ports.shadow = true) : memWf (serveRw s p ow k n o v).ports.shadow = true := by
  simp only [serveRw]
  repeat' split
  all_goals simp (maxDischargeDepth := 9) [*]

@[simp] theorem serveWo_sprint_readout_wf (s : State) (p : Port) (k : PageKind) (n : Nat) (o : Nat) (v : Nat)
    (h : memWf s.sprint.readout = true) : memWf (serveWo s p k n o v).sprint.readout = true := by
  simp only [serveWo]
  repeat' split
  all_goals simp (maxDischargeDepth := 9) [*]

@[simp] theorem serveWo_grid_scratch_wf (s : State) (p : Port) (k : PageKind) (n : Nat) (o : Nat) (v : Nat)
    (h : memWf s.grid.scratch = true) : memWf (serveWo s p k n o v).grid.scratch = true := by
  simp only [serveWo]
  repeat' split
  all_goals simp (maxDischargeDepth := 9) [*]

@[simp] theorem serveWo_tier_data_wf (s : State) (p : Port) (k : PageKind) (n : Nat) (o : Nat) (v : Nat)
    (h : memWf s.tier.data = true) : memWf (serveWo s p k n o v).tier.data = true := by
  simp only [serveWo]
  repeat' split
  all_goals simp (maxDischargeDepth := 9) [*]

@[simp] theorem serveWo_host_mem_wf (s : State) (p : Port) (k : PageKind) (n : Nat) (o : Nat) (v : Nat)
    (h : memWf s.host.mem = true) : memWf (serveWo s p k n o v).host.mem = true := by
  simp only [serveWo]
  repeat' split
  all_goals simp (maxDischargeDepth := 9) [*]

@[simp] theorem serveWrite_sprint_readout_wf (s : State) (p : Port) (ow : Option Nat) (off : Nat) (val : Word)
    (h : memWf s.sprint.readout = true) :
    memWf (serveWrite s p ow off val).sprint.readout = true := by
  simp only [serveWrite, atPage]
  repeat' split
  all_goals simp (maxDischargeDepth := 9) [*]

@[simp] theorem serveWrite_ports_shadow_wf (s : State) (p : Port) (ow : Option Nat) (off : Nat) (val : Word)
    (h : memWf s.ports.shadow = true) : memWf (serveWrite s p ow off val).ports.shadow = true := by
  simp only [serveWrite, atPage]
  repeat' split
  all_goals simp (maxDischargeDepth := 9) [*]

@[simp] theorem serveWrite_grid_scratch_wf (s : State) (p : Port) (ow : Option Nat) (off : Nat) (val : Word)
    (h : memWf s.grid.scratch = true) : memWf (serveWrite s p ow off val).grid.scratch = true := by
  simp only [serveWrite, atPage]
  repeat' split
  all_goals simp (maxDischargeDepth := 9) [*]

@[simp] theorem serveWrite_tier_data_wf (s : State) (p : Port) (ow : Option Nat) (off : Nat) (val : Word)
    (h : memWf s.tier.data = true) : memWf (serveWrite s p ow off val).tier.data = true := by
  simp only [serveWrite, atPage]
  repeat' split
  all_goals simp (maxDischargeDepth := 9) [*]

@[simp] theorem serveWrite_host_mem_wf (s : State) (p : Port) (ow : Option Nat) (off : Nat) (val : Word)
    (h : memWf s.host.mem = true) : memWf (serveWrite s p ow off val).host.mem = true := by
  simp only [serveWrite, atPage]
  repeat' split
  all_goals simp (maxDischargeDepth := 9) [*]

@[simp] theorem serveAction_sprint_readout_wf (s : State) (p : Port) (k : PageKind) (n : Nat) (o : Nat) (v : Nat)
    (h : memWf s.sprint.readout = true) :
    memWf (serveAction s p k n o v).sprint.readout = true := by
  simp only [serveAction, atPage]
  repeat' split
  all_goals simp (maxDischargeDepth := 9) [*]

@[simp] theorem serveAction_grid_scratch_wf (s : State) (p : Port) (k : PageKind) (n : Nat) (o : Nat) (v : Nat)
    (h : memWf s.grid.scratch = true) : memWf (serveAction s p k n o v).grid.scratch = true := by
  simp only [serveAction, atPage]
  repeat' split
  all_goals simp (maxDischargeDepth := 9) [*]

@[simp] theorem serveAction_tier_data_wf (s : State) (p : Port) (k : PageKind) (n : Nat) (o : Nat) (v : Nat)
    (h : memWf s.tier.data = true) : memWf (serveAction s p k n o v).tier.data = true := by
  simp only [serveAction, atPage]
  repeat' split
  all_goals simp (maxDischargeDepth := 9) [*]

@[simp] theorem serveAction_host_mem_wf (s : State) (p : Port) (k : PageKind) (n : Nat) (o : Nat) (v : Nat)
    (h : memWf s.host.mem = true) : memWf (serveAction s p k n o v).host.mem = true := by
  simp only [serveAction, atPage]
  repeat' split
  all_goals simp (maxDischargeDepth := 9) [*]

@[simp] theorem liveOne_ports_live_wf (s : State) (e : Nat × Word)
    (h : memWf s.ports.live = true)
    (h2 : memWf s.ports.shadow = true) : memWf (liveOne s e).ports.live = true := by
  simp only [liveOne]
  repeat' split
  all_goals simp (maxDischargeDepth := 9) [*]

@[simp] theorem liveOne_grid_scratch_wf (s : State) (e : Nat × Word)
    (h : memWf s.grid.scratch = true) : memWf (liveOne s e).grid.scratch = true := by
  simp only [liveOne]
  repeat' split
  all_goals first
  | assumption
  | (simp +contextual (maxDischargeDepth := 9) [*]; done)
  | (apply foldl_grid_scratch_wf; (intro s q hq; (repeat' split) <;> simp (maxDischargeDepth := 9) [*]); simp (maxDischargeDepth := 9) [*])

theorem foldl_liveOne_wf (l : List (Nat × Word)) (s : State)
    (h : memWf s.ports.live = true) (h2 : memWf s.ports.shadow = true) :
    memWf (l.foldl liveOne s).ports.live = true :=
  (foldl_inv (fun s => memWf s.ports.live = true ∧ memWf s.ports.shadow = true) liveOne l s
    ⟨h, h2⟩ fun s e hs => ⟨liveOne_ports_live_wf s e hs.1 hs.2, by simpa using hs.2⟩).1

@[simp] theorem shadowsLive_ports_live_wf (s : State)
    (h : memWf s.ports.live = true)
    (h2 : memWf s.ports.shadow = true) : memWf (shadowsLive s).ports.live = true := by
  simp only [shadowsLive, swapPages_frame]
  exact foldl_liveOne_wf _ _ h h2

@[simp] theorem shadowsLive_grid_scratch_wf (s : State)
    (h : memWf s.grid.scratch = true) : memWf (shadowsLive s).grid.scratch = true := by
  simp only [shadowsLive]
  repeat' split
  all_goals simp +contextual (maxDischargeDepth := 9) [*]

@[simp] theorem transactionLive_ports_live_wf (s : State)
    (h : memWf s.ports.live = true)
    (h2 : memWf s.ports.shadow = true) : memWf (transactionLive s).ports.live = true := by
  simp only [transactionLive]
  split
  · simp only [bumpC_frame, swapPages_frame, rset_frame]
    exact foldl_liveOne_wf _ _ (by simpa using h) (by simpa using h2)
  · exact h

@[simp] theorem transactionLive_grid_scratch_wf (s : State)
    (h : memWf s.grid.scratch = true) : memWf (transactionLive s).grid.scratch = true := by
  simp only [transactionLive]
  repeat' split
  all_goals simp +contextual (maxDischargeDepth := 9) [*]

@[simp] theorem settingsAt_ports_live_wf (s : State) (b : Time) (n : Nat)
    (h : memWf s.ports.live = true)
    (h2 : memWf s.ports.shadow = true) : memWf (settingsAt s b n).ports.live = true := by
  simp only [settingsAt]
  repeat' split
  all_goals simp (maxDischargeDepth := 9) [*]

@[simp] theorem settingsAt_grid_scratch_wf (s : State) (b : Time) (n : Nat)
    (h : memWf s.grid.scratch = true) : memWf (settingsAt s b n).grid.scratch = true := by
  simp only [settingsAt]
  repeat' split
  all_goals simp (maxDischargeDepth := 9) [*]

@[simp] theorem boundary_ports_live_wf (s : State) (b : Time) (n : Nat)
    (h : memWf s.ports.live = true)
    (h2 : memWf s.ports.shadow = true) : memWf (boundary s b n).ports.live = true := by
  simp only [boundary]
  repeat' split
  all_goals simp (maxDischargeDepth := 9) [*]

@[simp] theorem boundary_grid_scratch_wf (s : State) (b : Time) (n : Nat)
    (h : memWf s.grid.scratch = true) : memWf (boundary s b n).grid.scratch = true := by
  simp only [boundary]
  repeat' split
  all_goals simp (maxDischargeDepth := 9) [*]

@[simp] theorem heatRecompute_ports_live_wf (s : State) (t : Time)
    (h : memWf s.ports.live = true)
    (h2 : memWf s.ports.shadow = true) : memWf (heatRecompute s t).ports.live = true := by
  simp only [heatRecompute]
  repeat' split
  all_goals simp (maxDischargeDepth := 9) [*]

@[simp] theorem heatRecompute_grid_scratch_wf (s : State) (t : Time)
    (h : memWf s.grid.scratch = true) : memWf (heatRecompute s t).grid.scratch = true := by
  simp only [heatRecompute]
  repeat' split
  all_goals simp (maxDischargeDepth := 9) [*]

@[simp] theorem mgmtCommit_sprint_readout_wf (s : State) (op : Nat) (ow : Option Nat) (f : List Byte)
    (h : memWf s.sprint.readout = true) : memWf (mgmtCommit s op ow f).sprint.readout = true := by
  simp only [mgmtCommit]
  repeat' split
  all_goals simp (maxDischargeDepth := 9) [*]

@[simp] theorem mgmtCommit_ports_shadow_wf (s : State) (op : Nat) (ow : Option Nat) (f : List Byte)
    (h : memWf s.ports.shadow = true) : memWf (mgmtCommit s op ow f).ports.shadow = true := by
  simp only [mgmtCommit]
  repeat' split
  all_goals simp (maxDischargeDepth := 9) [*]

@[simp] theorem mgmtCommit_grid_scratch_wf (s : State) (op : Nat) (ow : Option Nat) (f : List Byte)
    (h : memWf s.grid.scratch = true) : memWf (mgmtCommit s op ow f).grid.scratch = true := by
  simp only [mgmtCommit]
  repeat' split
  all_goals simp (maxDischargeDepth := 9) [*]

@[simp] theorem mgmtCommit_tier_data_wf (s : State) (op : Nat) (ow : Option Nat) (f : List Byte)
    (h : memWf s.tier.data = true) : memWf (mgmtCommit s op ow f).tier.data = true := by
  simp only [mgmtCommit]
  repeat' split
  all_goals simp (maxDischargeDepth := 9) [*]

@[simp] theorem mgmtCommit_host_mem_wf (s : State) (op : Nat) (ow : Option Nat) (f : List Byte)
    (h : memWf s.host.mem = true) : memWf (mgmtCommit s op ow f).host.mem = true := by
  simp only [mgmtCommit]
  repeat' split
  all_goals simp (maxDischargeDepth := 9) [*]

end Sys2Proof.Machine
end

