-- ==== Sys2Proof/Laws/Regs.lean ====
section
/-!
SUPPORT. Registers and event ports read after they are written: counters, fields, ports, and the
places of the register pages.
-/
namespace Sys2Proof.Machine
open Sys2Proof

@[simp] theorem regOff_inj (k : PageKind) (n a b : Nat) : regOff k n a = regOff k n b ↔ a = b := by
  simp [regOff]

@[simp] theorem bumpBy_regs (s : State) (k : PageKind) (n off c : Nat) :
    (bumpBy s k n off c).regs = regSet s.regs (regOff k n off) (satAdd 32 (rg s k n off) c) := rfl

@[simp] theorem bump_regs (s : State) (k : PageKind) (n off : Nat) :
    (bump s k n off).regs = regSet s.regs (regOff k n off) (satAdd 32 (rg s k n off) 1) := rfl

@[simp] theorem bumpC_regs (s : State) (k : PageKind) (n j : Nat) :
    (bumpC s k n j).regs
      = regSet s.regs (regOff k n (0x100 + 4 * j)) (satAdd 32 (rg s k n (0x100 + 4 * j)) 1) := rfl

@[simp] theorem epCount_regs (s : State) (p j c : Nat) :
    (epCount s p j c).regs = regSet s.regs (regOff .eport p (0x200 + 4 * j))
      (satAdd 32 (rg s .eport p (0x200 + 4 * j)) c) := rfl

/-- A saturating sum at 32 bits is a register value. -/
@[simp] theorem satAdd_mod (a b : Nat) : satAdd 32 a b % 2 ^ 32 = satAdd 32 a b := by
  apply Nat.mod_eq_of_lt
  simp only [satAdd]
  omega

@[simp] theorem epGet_epSet_same (s : State) (p : Nat) (e : EPort) : epGet (epSet s p e) p = e := by
  unfold epGet epSet
  split <;> simp_all

/-- The ports are what an event port is read from. -/
theorem epGet_of_ports {s t : State} (h : t.ports = s.ports) (p : Nat) : epGet t p = epGet s p := by
  simp [epGet, h]

@[simp] theorem epSet_epGet (s : State) (p : Nat) : epSet s p (epGet s p) = s := by
  unfold epGet epSet
  split <;> rfl

@[simp] theorem epSet_epSet (s : State) (p : Nat) (e e' : EPort) :
    epSet (epSet s p e) p e' = epSet s p e' := by
  unfold epSet
  split <;> rfl

end Sys2Proof.Machine
end

