-- ==== Sys2Proof/Tests/Slice0.lean ====
section
/-!
SUPPORT. Tests: for each clause of each statement a state and operands that meet its premises, with what
the specification says of the command there; and the smoke test of WellFormed.
-/
namespace Sys2Proof.Tests
set_option Elab.async false
open Sys2Proof Sys2Proof.Machine

/-- The command answers a next state with a property. -/
def after (o : Host.Outcome State Fault Refusal) (p : State → Bool) : Bool :=
  match o with
  | .next t => p t
  | _ => false

/-- A device at work in heat 5, TIME_OK 1, its seal measuring. -/
def up : State :=
  { State.reset with
    power := { PowerSt.reset with
      railsOk := true, resetN := true, perstN := true, sealVdd := true, stage := 10, diesReset := false }
    heat := { HeatSt.reset with num := 5, next := 24000000, timeOk := true }
    ud := { SealSt.reset with running := true, inReset := false, copyValid := true, tstate := .locked } }

/-- The stern of a pair. -/
def stern : State :=
  { up with power := { up.power with straps := 0x18 }, twin := { up.twin with pair := 1 } }

/-- The device, sprint-armed. -/
def armed : State := rset up .sprint 0 0x040 1


/-- The state a command answers. -/
def run (c : Instr) (s : State) : State :=
  match exec c s with
  | .next t => t
  | _ => s
-- Steps, reset, invariants

theorem wit_step_runs_front_command :
    { up with pending := [.timeOkRise 3, .heatBoundary] }.pending = .timeOkRise 3 :: [.heatBoundary]
      ∧ up.pending = [] := by decide +kernel

theorem wit_reset_memories_canonical : memWf State.reset.tier.data = true := by decide +kernel

theorem wit_step_keeps_memories :
    (memWf up.tier.data ∧ after (step { up with pending := [.heatBoundary] }) fun t =>
      memWf t.tier.data && t.heat.num = 6) := by decide +kernel

theorem wit_heat_number_never_decreases :
    coldResets .heatBoundary = false ∧ fabOn up = true ∧ up.heat.timeOk = true
      ∧ after (exec .heatBoundary up) (fun t => t.heat.num = 6) = true := by decide +kernel

theorem wit_verification_counter :
    after (exec (.timeOkRise 3) up) (fun _ => true) = true := by decide +kernel

/-- An entry of the error log. -/
def err : ErrEntry := ⟨0x10, 0, 31, 3, 0, 0⟩

/-- A device whose error log is full. -/
def logFull : State := { up with reg := { up.reg with log := List.replicate 64 err } }

theorem wit_error_log_full :
    logFull.reg.log.length ≤ 64 ∧ coldResets (.xactBegin .pcie 0) = false
      ∧ writesRegisters (.xactBegin .pcie 0) = false
      ∧ after (exec (.xactBegin .pcie 0) logFull) (fun t =>
        t.reg.log.length = 64 && rf t .error 0 0x044 8 8 = 1) = true := by decide +kernel

-- Heats and the cut

theorem wit_heat_boundary :
    fabOn up = true ∧ up.heat.timeOk = true
      ∧ after (exec .heatBoundary { up with reg := { up.reg with shadows := [(regOff .power 0 0x044, 50)] } })
        (fun t => t.heat.num = 6 && t.reg.shadows = [] && rf t .power 0 0x044 6 0 = 50
          && t.now = 24000000 && t.back.slack = false) = true := by decide +kernel

/-- A device whose copy of seal time has just become valid. -/
def timeless : State := { up with heat := { up.heat with timeOk := false, num := 5, base := 5 } }

theorem wit_time_ok_rise_above :
    fabOn timeless = true ∧ timeless.ud.copyValid = true ∧ timeless.heat.timeOk = false
      ∧ timeless.heat.num < timeless.heat.base + (4000000 - timeless.heat.origin) / heatLen timeless
      ∧ after (exec (.timeOkRise 4000000) timeless) (fun t =>
        t.heat.num = 6 && t.heat.timeOk && t.reg.shadows = []) = true := by decide +kernel

theorem wit_time_ok_rise_held :
    timeless.heat.base + (3999999 - timeless.heat.origin) / heatLen timeless ≤ timeless.heat.num
      ∧ after (exec (.timeOkRise 3999999) timeless) (fun t =>
        t.heat.num = 5 && t.heat.timeOk && t.heat.next = 4000000) = true := by decide +kernel

/-- An armed device with a group's set marked ready. -/
def marked : State :=
  { armed with sprint := { armed.sprint with sets := [(7, ⟨false, true, false, false, 2, 0⟩)] } }

theorem wit_hold_window_freezes :
    fabOn marked = true ∧ marked.heat.timeOk = true ∧ marked.heat.hold = false
      ∧ after (exec .holdWindowOpen marked) (fun t =>
        t.heat.hold && mget t.sprint.sets 7 = some ⟨false, false, true, false, 2, 0⟩) = true := by
  decide +kernel

theorem wit_hold_window_unarmed :
    rf up .sprint 0 0x040 0 0 ≠ 1 ∧ after (exec .holdWindowOpen { marked with regs := [] }) (fun t =>
      mget t.sprint.sets 7 = some ⟨false, true, false, false, 2, 0⟩) = true
      ∧ after (exec .holdWindowOpen { marked with twin := { marked.twin with pair := 4 } }) (fun t =>
      mget t.sprint.sets 7 = some ⟨false, true, false, false, 2, 0⟩) = true := by decide +kernel

/-- A group with a retiring set. -/
def retiring : State :=
  { up with sprint := { up.sprint with sets := [(7, ⟨true, false, false, true, 5, 50⟩)] } }

theorem wit_retiring_set :
    fabOn retiring = true ∧ (setGet retiring 7).retiring = true
      ∧ oldInFlight retiring 7 (setGet retiring 7).liveFrom = false
      ∧ after (exec (.retiringSetRelease 7 9) retiring) (fun t =>
        setGet t 7 = ⟨true, false, false, false, 5, 50⟩ && t.now = 9) = true := by decide +kernel

/-- A frame as it is admitted. -/
def rx : RxFrame :=
  { stamp := 100, ordinal := 4, heat := none, reserved := 32, parsed := false, ended := false
    bytes := [], badSize := false, ipLong := false, trailer := false, lenCase := 0, udpOk := true
    layers := 0, deep := false, tokens := 0, verdict := none }

/-- A stern with two frames held for the cut, the boundary having passed at 150. -/
def cutting : State :=
  { stern with
    twin := { stern.twin with cutWait := true, cutTime := 150 }
    ports := { stern.ports with
      p0 := { EPort.reset with
        frames := [rx, { rx with stamp := 160, ordinal := 5 }], count := 6, heldN := 2, prevBase := 1 } } }

theorem wit_cut_now :
    fabOn cutting = true ∧ cutting.twin.pair = 1 ∧ isStern cutting = true ∧ cutting.twin.cutWait = true
      ∧ ordFrom 5 (ordFrom cutting.ports.p0.count cutting.ports.p0.heldN) ≤ cutting.ports.p0.heldN
      ∧ ordFrom 0 (ordFrom cutting.ports.p1.count cutting.ports.p1.heldN) ≤ cutting.ports.p1.heldN
      ∧ after (exec (.cut 5 5 0 0 200) cutting) (fun t =>
        t.ports.p0.frames.map (fun f => (f.heat, f.ordinal)) = [(some 4, 3), (some 5, 0)]
          && t.ports.p0.heldN = 0 && t.ports.p0.ordBase = 5 && t.twin.cutWait = false) = true := by
  decide +kernel

theorem wit_cut_early :
    (390 ≤ cutting.twin.cutTime + 240 ∧ after (exec (.cut 6 8 9 0 390) cutting) (fun t =>
      t.twin.cutEarly = some (6, 8, 9) && t.ports = cutting.ports) = true)
      ∧ (stern.twin.cutWait = false ∧ after (exec (.cut 6 8 9 0 900) stern) (fun t =>
        t.twin.cutEarly = some (6, 8, 9)) = true) := by decide +kernel

theorem wit_cut_late :
    cutting.twin.cutTime + 240 ≤ 390
      ∧ after (exec (.cutLate 390) cutting) (fun t =>
        t.ports.p0.frames.map (·.heat) = [some 4, some 5] && rf t .twin 0 0x044 6 6 = 1
          && rg t .twin 0 0x124 = 1 && t.twin.cutWait = false) = true := by decide +kernel

theorem wit_cut_too_late :
    cutting.twin.cutTime + 240 < 391
      ∧ after (exec (.cut 5 5 0 0 391) cutting) (fun t =>
        t.ports.p0.frames.map (·.heat) = [some 4, some 5] && rg t .twin 0 0x124 = 1
          && t.twin.cutWait = false) = true := by decide +kernel

-- Event ports, parser, stream lookup

/-- Port 0 enabled with its link up. -/
def port0 : State := rset (rset up .eport 0 0x040 1) .eport 0 0x044 1

/-- Port 0 with frames that reserve entries. -/
def taking (n : Nat) : State :=
  { port0 with ports := { port0.ports with p0 := { EPort.reset with frames := List.replicate n rx } } }

theorem wit_frame_ingress_admits :
    fabOn (taking 7) = true ∧ portUp (taking 7) 0 = true ∧ (taking 7).ud.copyValid = true
      ∧ (taking 7).ud.inReset = false ∧ queueTaken (taking 7) + 32 ≤ 256
      ∧ after (exec (.frameIngress 0 900) (taking 7)) (fun t =>
        (epGet t 0).frames.length = 8 && ((epGet t 0).frames.getLast?).map (·.stamp) = some 900
          && (epGet t 0).count = 1 && rg t .eport 0 0x200 = 1) = true := by decide +kernel

theorem wit_frame_ingress_drops :
    256 < queueTaken (taking 8) + 32
      ∧ after (exec (.frameIngress 0 900) (taking 8)) (fun t =>
        (epGet t 0).frames.length = 8 && (epGet t 0).count = 1 && rg t .eport 0 0x250 = 1) = true := by
  decide +kernel

/-- Ports full but for one place, a frame of EPORT1 taken in the cycle of 900. -/
def tied : State :=
  { taking 7 with ports := { (taking 7).ports with p1 := { EPort.reset with frames := [{ rx with stamp := 900 }] } } }

theorem wit_frame_ingress_tie :
    portUp tied 0 = true ∧ 256 < queueTaken tied + 32 ∧ queueTaken tied ≤ 256
      ∧ ingressTie tied 0 900 = some { rx with stamp := 900 } ∧ ingressTie (taking 8) 0 900 = none
      ∧ after (exec (.frameIngress 0 900) tied) (fun t =>
        t.ports.p0.frames.length = 8 && t.ports.p1.frames.length = 0 && rg t .eport 0 0x250 = 0
          && rg t .eport 1 0x250 = 1) = true := by decide +kernel

/-- Port 0, promiscuous, with one admitted frame and a flow for 10.0.0.9 port 0x1234 with program 3. -/
def parsing : State :=
  { rset up .eport 0 0x040 9 with
    ports := { up.ports with
      p0 := { EPort.reset with frames := [{ rx with heat := some 5 }] }
      live := wrBytes [] 0x40000 ([10, 0, 0, 9] ++ List.replicate 12 0 ++ [0x34, 0x12, 0x0D]) } }

/-- A UDP datagram of 24 payload bytes to 10.0.0.9 port 0x1234, UDP checksum unused. -/
def udpFrame : List Byte :=
  [0, 0, 0, 0, 0, 1, 0, 0, 0, 0, 0, 2, 8, 0]
    ++ [0x45, 0, 0, 0x34, 0, 0, 0, 0, 0x40, 0x11, 0x66, 0xB0, 10, 0, 0, 1, 10, 0, 0, 9]
    ++ [0, 7, 0x12, 0x34, 0, 0x20, 0, 0] ++ List.replicate 24 0xAB

theorem wit_frame_header_size :
    fabOn parsing = true ∧ (epGet parsing 0).frames.find? (fun x => !x.parsed) = some { rx with heat := some 5 }
      ∧ (epGet parsing 0).run = none ∧ (List.replicate 59 (0 : Byte)).length < 60
      ∧ after (exec (.frameHeaderParse 0 (List.replicate 59 0)) parsing) (fun t =>
        (epGet t 0).run = none && rg t .eport 0 0x258 = 1) = true := by decide +kernel

theorem wit_frame_header_control :
    beNat (slice (List.replicate 12 0 ++ [0x88, 0x08] ++ List.replicate 46 (0 : Byte)) 12 2) = 0x8808
      ∧ after (exec (.frameHeaderParse 0 (List.replicate 12 0 ++ [0x88, 0x08] ++ List.replicate 46 0)) parsing)
        (fun t => (epGet t 0).run = none && rg t .eport 0 0x254 = 1) = true := by decide +kernel

theorem wit_frame_header_refused :
    macOk parsing 0 (List.replicate 60 0) = true ∧ parseTags (List.replicate 60 0) = .drop 3
      ∧ after (exec (.frameHeaderParse 0 (List.replicate 60 0)) parsing) (fun t =>
        (epGet t 0).run = none && rg t .eport 0 0x20C = 1) = true := by decide +kernel

theorem wit_frame_header_udp :
    60 ≤ udpFrame.length ∧ macOk parsing 0 udpFrame = true
      ∧ parseTags udpFrame = .udp 3 14 34 52 false [10, 0, 0, 1] [10, 0, 0, 9]
      ∧ 8 ≤ beNat (slice udpFrame 38 2) ∧ beNat (slice udpFrame 38 2) ≤ 52 - (34 - 14)
      ∧ flowMatch parsing 0 false [10, 0, 0, 9] 0x1234 = some 0
      ∧ after (exec (.frameHeaderParse 0 udpFrame) parsing) (fun t =>
        (epGet t 0).run = some (startRun 100 3 42 24 3 0)) = true := by decide +kernel

/-- A parser on the datagram above, with an accumulator set and one instruction at its place. -/
def running (w : Nat) (r : ParserRun) : State :=
  { parsing with ports := { parsing.ports with
      p0 := { EPort.reset with
        frames := [{ rx with heat := some 5, parsed := true, bytes := udpFrame }], run := some r }
      live := wrBytes parsing.ports.live 0x44300 (toLE w 4) } }

/-- The parser at the start of that datagram, accumulator 1 holding 5. -/
def run0 : ParserRun := { startRun 100 3 42 24 3 0 with acc := [0, 5, 0, 0] }

/-- The parser of port 0 after a command. -/
def runAfter (c : Instr) (w : Nat) (r : ParserRun) (p : ParserRun → Bool) : Bool :=
  after (exec c (running w r)) fun t =>
    match (epGet t 0).run with
    | some q => p q
    | none => false

-- SKIP by 6 with counting: CNT bit 27.
theorem wit_parser_skip :
    parserWord (running 0x08000006 run0) run0 = 0x08000006
      ∧ run0.layers + b2n (bit 0x08000006 27 && !run0.begun) ≤ 8
      ∧ runAfter (.parserSkip 0) 0x08000006 run0 (fun q =>
        q.cur = 6 && q.layers = 4 && q.pc = 1 && q.icount = 1) = true := by decide +kernel

-- LOAD of 2 bytes at 0 into accumulator 2, network order.
theorem wit_parser_load :
    (frameOf (running 0x14800000 run0) 0 100).isSome = true ∧ bits 0x14800000 27 26 = 1
      ∧ runAfter (.parserLoad 0) 0x14800000 run0 (fun q => q.get 2 = 0xABAB) = true := by decide +kernel

-- ADD 7 to accumulator 1; EQ of accumulator 1 with 5.
theorem wit_parser_alu :
    runAfter (.parserAlu 0) 0x20400007 run0 (fun q => q.get 1 = 12) = true
      ∧ runAfter (.parserAlu 0) 0x26400005 run0 (fun q => q.cond && q.get 1 = 5) = true := by
  decide +kernel

-- FIELD 3 from accumulator 1.
theorem wit_parser_field :
    runAfter (.parserField 0) 0x33400000 run0 (fun q => q.fields.getD 3 0 = 5) = true := by
  decide +kernel

-- META SEQ, STREAM, and LEN of 24, the payload's last byte included.
theorem wit_parser_meta :
    runAfter (.parserMeta 0) 0x40400000 run0 (fun q => q.seq = 5) = true
      ∧ runAfter (.parserMeta 0) 0x41400000 run0 (fun q => q.stream = 5) = true
      ∧ runAfter (.parserMeta 0) 0x43000018 run0 (fun q => q.m = 24 && q.mset && q.begun) = true := by
  decide +kernel

-- BRANCH always by 9, and on COND 1 not taken.
theorem wit_parser_branch :
    runAfter (.parserBranch 0) 0x54000009 run0 (fun q => q.pc = 10) = true
      ∧ runAfter (.parserBranch 0) 0x58000009 run0 (fun q => q.pc = 1) = true := by decide +kernel

/-- The parser at a message of 8 bytes of stream 2. -/
def msg0 : ParserRun := { run0 with m := 8, mset := true, begun := true, stream := 2, seq := 77 }

theorem wit_parser_emit_token :
    after (exec (.parserEmit 0 900) { running 0x60000000 msg0 with ports :=
        { (running 0x60000000 msg0).ports with
          live := wrB (running 0x60000000 msg0).ports.live 32 1 } }) (fun t =>
      t.ports.tokQ.map (fun k => (k.stream, k.seq, k.len, k.msg)) = [(2, 77, 8, 0)]
        && rg t .eport 0 0x204 = 1
        && ((epGet t 0).run).map (fun q => (q.cur, q.pc, q.mcount)) = some (8, 0, 1)) = true := by
  decide +kernel

theorem wit_parser_emit_no_stream :
    after (exec (.parserEmit 0 900) (running 0x60000000 msg0)) (fun t =>
      t.ports.tokQ = [] && rg t .eport 0 0x220 = 1) = true := by decide +kernel

theorem wit_parser_emit_last :
    let r := { msg0 with m := 24 }
    (frameOf (running 0x60000000 r) 0 100).isSome = true ∧ r.limit ≤ r.mstart + r.m
      ∧ r.base + (r.mstart + r.m) ≤ udpFrame.length
      ∧ after (exec (.parserEmit 0 900) (running 0x60000000 r)) (fun t =>
        (epGet t 0).run = none && (epGet t 0).frames.map (fun f => (f.ended, f.reserved)) = [(true, 0)]
          && rg t .eport 0 0x220 = 1) = true := by decide +kernel

theorem wit_parser_end :
    after (exec (.parserEnd 0) (running 0x78000000 run0)) (fun t =>
      (epGet t 0).run = none && rg t .eport 0 0x244 = 1) = true
      ∧ after (exec (.parserEnd 0) (running 0x70000000 run0)) (fun t =>
        (epGet t 0).run = none && rg t .eport 0 0x244 = 0) = true := by decide +kernel

theorem wit_parser_too_long :
    ∀ c, c < 8 → after (exec (parserCmd 0 900 c) (running (c * 2 ^ 28) { run0 with icount := 48 })) (fun t =>
      (epGet t 0).run = none && rg t .eport 0 0x240 = 1 && dropEpoch t 0 0 = 1) = true := by decide +kernel

/-- A token of the frame above. -/
def tok0 : TokRec :=
  { stream := 2, gap := false, first := false, port := 0, last := false, seq := 77, ingress := 100
    msg := 0, len := 8, fields := List.replicate 10 0, flow := 0, epoch := 0, ordinal := 4
    heat := some 5, verdict := none, ready := 900 }

/-- Port 0 with a parsed frame that awaits its checks and has one token in the queue. -/
def checking (f : RxFrame) : State :=
  { port0 with ports := { port0.ports with p0 := { EPort.reset with frames := [f] }, tokQ := [tok0] } }

theorem wit_retiring_set_deadline :
    let s := { retiring with ports := { retiring.ports with tokQ := [{ tok0 with heat := some 4 }] } }
    oldInFlight s 7 (setGet s 7).liveFrom = true ∧ (setGet s 7).lastAt ≤ 50
      ∧ after (exec (.retiringSetRelease 7 50) s) (fun t => !(setGet t 7).retiring) = true
      ∧ after (exec (.retiringSetRelease 7 49) s) (fun t => (setGet t 7).retiring) = true := by
  decide +kernel

/-- Its frame: 60 bytes of 0x31. -/
def rxDone : RxFrame :=
  { rx with heat := some 5, parsed := true, tokens := 1, bytes := List.replicate 60 0x31 }

theorem wit_frame_check_good :
    (epGet (checking rxDone) 0).frames.find? (fun x => x.verdict.isNone) = some rxDone
      ∧ rxDone.parsed = true ∧ rxDone.badSize = false ∧ rxDone.ipLong = false ∧ rxDone.udpOk = true
      ∧ frameOf (checking rxDone) 0 rxDone.stamp = some rxDone ∧ rxDone.lenCase = 0
      ∧ after (exec (.frameCheck 0 (crc32 rxDone.bytes) 950) (checking rxDone)) (fun t =>
        t.ports.tokQ.map (·.verdict) = [some 0] && rg t .eport 0 0x218 = 0) = true := by decide +kernel

theorem wit_frame_check_bad_fcs :
    crc32 rxDone.bytes ≠ 7 ∧ 0 < rxDone.tokens
      ∧ after (exec (.frameCheck 0 7 950) (checking rxDone)) (fun t =>
        t.ports.tokQ.map (·.verdict) = [some 1] && rg t .eport 0 0x218 = 1) = true := by decide +kernel

theorem wit_frame_check_ip_long :
    after (exec (.frameCheck 0 (crc32 rxDone.bytes) 950) (checking { rxDone with ipLong := true })) (fun t =>
      t.ports.tokQ.map (·.verdict) = [some 2] && rg t .eport 0 0x224 = 1) = true := by decide +kernel

theorem wit_frame_check_udp :
    after (exec (.frameCheck 0 (crc32 rxDone.bytes) 950) (checking { rxDone with udpOk := false })) (fun t =>
        t.ports.tokQ.map (·.verdict) = [some 3] && rg t .eport 0 0x218 = 1 && rg t .eport 0 0x214 = 1) = true
      ∧ 11 ≤ ({ rxDone with lenCase := 11 } : RxFrame).lenCase
      ∧ after (exec (.frameCheck 0 (crc32 rxDone.bytes) 950) (checking { rxDone with lenCase := 11 })) (fun t =>
        t.ports.tokQ.map (·.verdict) = [some 0]) = true := by decide +kernel

/-- An armed device whose stream 2 has descriptor 3, group 7, and expects sequence number `next`. -/
def looking (next : Nat) : State :=
  { rset (rset armed .sprint 0 0x130 (1 + 8 * 7)) .sprint 0 0x138 250 with
    ports := { armed.ports with
      tokQ := [tok0], seen := [(2, true)]
      live := wrBytes (wrBytes [] 32 [0x0F]) 40 (toLE next 8) } }

theorem wit_stream_lookup_in_sequence :
    (looking 77).ports.tokQ = [tok0] ∧ bits (streamWord (looking 77).ports.live 2) 7 2 = 3
      ∧ armedIn (looking 77) 5 = true ∧ dEn (descWord (looking 77) 3 0 5) = true
      ∧ mgetD (looking 77).ports.seen 2 false = true
      ∧ bits (streamWord (looking 77).ports.live 2) 15 8 = tok0.epoch
      ∧ bits (streamWord (looking 77).ports.live 2) 24 16 = tok0.flow + 256 * tok0.port
      ∧ rdLE (looking 77).ports.live 40 8 = 77
      ∧ after (exec (.streamLookup 960) (looking 77)) (fun t =>
        t.ports.tokQ = [] && rg t .sprint 0 0x048 = 1
          && t.sprint.tokens.map (fun x => (x.desc, x.group, x.deadline, x.heat)) = [(3, 7, 1100, 5)]) = true := by
  decide +kernel

theorem wit_stream_lookup_duplicate :
    bit (streamWord (looking 78).ports.live 2) 1 = true
      ∧ tok0.seq.toNat < rdLE (looking 78).ports.live 40 8
      ∧ after (exec (.streamLookup 960) (looking 78)) (fun t =>
        t.ports.tokQ = [] && t.sprint.tokens = [] && rg t .eport 0 0x248 = 1) = true := by decide +kernel

theorem wit_stream_lookup_gap :
    rdLE (looking 76).ports.live 40 8 ≤ tok0.seq.toNat ∧ rdLE (looking 76).ports.live 40 8 ≠ tok0.seq.toNat
      ∧ after (exec (.streamLookup 960) (looking 76)) (fun t => rg t .eport 0 0x24C = 1
        && t.sprint.tokens.map (·.tok.gap) = [true] && rdLE t.ports.live 40 8 = 78) = true := by decide +kernel

theorem wit_stream_lookup_first :
    let s := { looking 0 with ports := { (looking 0).ports with seen := [] } }
    mgetD s.ports.seen 2 false = false
      ∧ after (exec (.streamLookup 960) s) (fun t => rg t .eport 0 0x24C = 0
        && t.sprint.tokens.map (·.tok.first) = [true] && rdLE t.ports.live 40 8 = 78) = true := by decide +kernel

/-- An entry of stream 2 that is not valid, and one without SEQ_CHECK. -/
def entered (b : Byte) (s : State) : State :=
  { s with ports := { s.ports with live := wrBytes [] 32 [b] } }

theorem wit_stream_lookup_invalid :
    bit (streamWord (entered 0x0C (looking 77)).ports.live 2) 0 = false
      ∧ after (exec (.streamLookup 960) (entered 0x0C (looking 77))) (fun t =>
        t.ports.tokQ = [] && t.sprint.tokens = [] && rg t .eport 0 0x220 = 1) = true := by decide +kernel

theorem wit_stream_lookup_unmapped :
    let s := entered 0x0D { armed with ports := (looking 77).ports }
    bit (streamWord s.ports.live 2) 1 = false ∧ dEn (descWord s 3 0 5) = false
      ∧ after (exec (.streamLookup 960) s) (fun t => t.ports.tokQ = [] && t.sprint.tokens = []
        && rg t .sprint 0 0x054 = 1) = true := by decide +kernel

-- The sprint

/-- Group 7 of this device alone, and with device 1 above it. -/
def solo : Group := ⟨false, 0, 1, [0], 0⟩
def under1 : Group := ⟨false, 0, 1, [1, 0], 0⟩

/-- A token at its root: descriptor 3, group 7, one layer, deadline 1100. -/
def x0 : Token :=
  { tag := 40, tok := { tok0 with verdict := some 0 }, heat := 5, desc := 3, cfg := 1 + 8 * 7, group := 7
    deadline := 1100, phase := .looked, row := 0, layer := 0, x := [], flags := 0, emit := true
    tmpl := 1, words := [], frame := [], entry := 9, cbeAt := 0 }

/-- A device whose group 7 stands and that has a token in flight. -/
def flying (x : Token) : State :=
  { port0 with
    coll := { port0.coll with live := [(7, solo)] }
    sprint := { port0.sprint with tokens := [x] } }

theorem wit_stream_lookup_full :
    let s := { looking 77 with sprint := { (looking 77).sprint with tokens := List.replicate 64 x0 } }
    queryFull s 3 = true ∧ after (exec (.streamLookup 960) s) (fun t => t.ports.tokQ = [tok0]
      && t.sprint.tokens.length = 64) = true := by decide +kernel

theorem wit_query_form :
    fabOn (flying x0) = true ∧ tokenOf (flying x0) 40 = some x0 ∧ x0.phase = .looked
      ∧ groupGet (flying x0) x0.group = some solo ∧ (flying x0).sprint.jobs = [] := by decide +kernel

/-- A position's query of one line of zeros for each of its four heads, and two units of its group, at
bolts 1 and 0 of KV heads 0 and 1. -/
def job0 : PosJob := ⟨7, 40, false, 0, 5, List.replicate 512 0, [], 0⟩
def asked (j : PosJob) : State :=
  { up with
    coll := { up.coll with live := [(7, solo)] }
    sprint := { up.sprint with
      sets := [(7, ⟨false, false, false, false, 5, 0⟩)], jobs := [j]
      units := [(3, ⟨7, 0, 1, 0, false⟩), (2048, ⟨7, 0, 0, 1, false⟩)]
      nodes := [newNode up true 7 solo 40 0 false 9 5] } }

theorem wit_partial_compute :
    jobOf (asked job0) 7 40 false = some job0
      ∧ (jobUnits (asked job0) job0).find? (fun e => e.1 % 16384 = 3) = some (3, ⟨7, 0, 1, 0, false⟩)
      ∧ mget job0.parts 3 = none ∧ (⟨7, 0, 1, 0, false⟩ : SUnit).poisoned = false
      ∧ shellTurn (asked job0) job0 3 = true
      ∧ after (exec (.sprintPartialCompute 7 40 false 3 true) (asked job0)) (fun t =>
        mget t.sprint.units 3 = some ⟨7, 0, 1, 0, true⟩ && rf t .attn 0 0x020 7 0 = 0x39
          && (jobOf t 7 40 false).map (fun j => j.parts.map (·.1)) = some [3]) = true := by decide +kernel

/-- The job with both units' partials computed: ones. -/
def job1 : PosJob :=
  { job0 with parts := [(3, List.replicate 129 0x3FF80000), (2048, List.replicate 129 0x3FF80000)] }

theorem wit_partial_ready :
    (asked job1).twin.adrift = false ∧ (∀ e ∈ jobUnits (asked job1) job1, mget job1.parts e.1 ≠ none)
      ∧ after (exec (.sprintPartialReady 7 40 false) (asked job1)) (fun t =>
        t.sprint.nodes.map (fun n => n.own.map (fun v => (v.length, v.getD 0 0, v.getD 129 0, v.getD 258 0)))
          = [some (516, 0x3FF80000, 0x3FF80000, 0)]) = true := by decide +kernel

/-- A node with its own input 1.0 in Twill-32 and a child's 2.0. -/
def node0 : TreeNode :=
  { sprint := true, group := 7, tag := 40, layer := 0, weft := true, fmt := 9, heat := 5
    own := some [0x3FF80000], kids := [(2, some [0x40000000])], flags := 0 }

/-- A device with that node under a group entry. -/
def folding (gr : Group) : State :=
  { up with
    coll := { up.coll with live := [(7, gr)] }
    twin := { up.twin with digests := [(5, ⟨0, 0, 0, 0, 0⟩)] }
    sprint := { up.sprint with nodes := [node0] } }

theorem wit_tree_fold_root :
    (folding solo).sprint.nodes[0]? = some node0 ∧ (nodeSum node0).map (·.1) = some [0x40040000]
      ∧ groupGet (folding solo) 7 = some solo ∧ parentDev (folding solo) solo true = none
      ∧ after (exec (.treeFold 0) (folding solo)) (fun t =>
        t.sprint.nodes = [] && mget t.sprint.sums 81 = some [0x40040000]) = true := by decide +kernel

theorem wit_tree_fold_up :
    parentDev (folding under1) under1 true = some 1
      ∧ mget (folding under1).twin.digests 5 = some ⟨0, 0, 0, 0, 0⟩
      ∧ after (exec (.treeFold 0) (folding under1)) (fun t =>
        t.sprint.nodes = [] && t.sprint.sums = []
          && (mget t.twin.digests 5).map (·.nSum) = some 1) = true := by decide +kernel

/-- The token of the root with both tree sums of a layer. -/
def summed (x : Token) : State :=
  { flying x with sprint := { (flying x).sprint with sums := [(80, [0]), (81, [0])] } }

theorem wit_layer_complete :
    mget (summed { x0 with phase := .asking }).sprint.sums 80 ≠ none
      ∧ mget (summed { x0 with phase := .asking }).sprint.sums 81 ≠ none
      ∧ x0.layer + 1 = dLayers x0.cfg ∧ x0.layer + 1 ≠ dLayers { x0 with cfg := x0.cfg + 2 }.cfg := by
  decide +kernel

theorem wit_decision_build :
    after (exec (.decisionBuild 40) (flying { x0 with phase := .decided })) (fun t =>
      (tokenOf t 40).map (·.phase) = some .built) = true := by decide +kernel

/-- A token built for template 1, which sends a frame of 60 bytes on port 0. -/
def built : Token := { x0 with phase := .built, frame := toLE (0x8000 + 60) 4 ++ List.replicate 508 0 }

theorem wit_decision_released :
    tokenOf (flying built) 40 = some built ∧ built.tok.verdict = some 0 ∧ itsTurn (flying built) built = true
      ∧ sendsFrame built = true ∧ portUp (flying built) (tmplPort built) = true
      ∧ framesAhead (flying built) (tmplPort built) ≤ 3 ∧ 1100 ≤ built.deadline
      ∧ (flying built).ud.busy = false ∧ (flying built).twin.fenced = false
      ∧ (flying built).sprint.eccFence = false ∧ (flying built).twin.adrift = false
      ∧ cbeActive (flying built) = false
      ∧ after (exec (.decisionReady 40 1100) (flying built)) (fun t =>
        t.sprint.tokens = [] && (epGet t 0).egress.map (fun f => (f.bytes.length, f.desc, f.tmpl)) = [(60, 3, 1)]
          && t.ud.wire.map (·.type) = [1]) = true := by decide +kernel

/-- The same in a pair in compare-before-emit. -/
def comparing (x : Token) : State :=
  rset { flying x with twin := { up.twin with pair := 1 } } .twin 0 0x040 1

theorem wit_decision_compared :
    cbeActive (comparing built) = true ∧ (comparing built).twin.cbeEarly = []
      ∧ after (exec (.decisionReady 40 1100) (comparing built)) (fun t =>
        (tokenOf t 40).map (fun x => (x.phase, x.cbeAt)) = some (.heldCbe, 1100)
          && (epGet t 0).egress = []) = true := by decide +kernel

theorem wit_decision_fenced :
    after (exec (.decisionReady 40 1100) { flying built with twin := { up.twin with fenced := true } }) (fun t =>
      t.sprint.tokens = [] && rg t .twin 0 0x128 = 1 && t.ud.wire.map (fun m => (m.type, m.reason)) = [(2, 3)])
      = true := by decide +kernel

theorem wit_decision_adrift :
    after (exec (.decisionReady 40 1100) { flying built with twin := { up.twin with adrift := true } }) (fun t =>
      t.sprint.tokens = [] && rg t .twin 0 0x128 = 0 && t.ud.wire.map (fun m => (m.type, m.reason)) = [(2, 4)])
      = true := by decide +kernel

theorem wit_decision_late :
    built.deadline < 1101 ∧ after (exec (.decisionReady 40 1101) (flying built)) (fun t =>
      t.sprint.tokens = [] && rg t .sprint 0 0x050 = 1 && (epGet t 0).egress = []) = true := by decide +kernel

theorem wit_decision_no_action :
    let x := { built with emit := false }
    sendsFrame x = false ∧ itsTurn (flying x) x = true ∧ x.deadline < 2000
      ∧ after (exec (.decisionReady 40 2000) (flying x)) (fun t => t.sprint.tokens = []
        && rg t .sprint 0 0x050 = 0 && t.ud.wire.map (·.type) = [3]) = true := by decide +kernel

theorem wit_deadline_pass :
    x0.phase ≠ .heldCbe ∧ x0.deadline ≤ 1100 ∧ noAction (flying x0) x0 = false
      ∧ after (exec (.deadlinePass 40 1100) (flying x0)) (fun t =>
        t.sprint.tokens = [] && rg t .sprint 0 0x050 = 1) = true := by decide +kernel

theorem wit_vc0_window :
    4000 % 4000 = 0 ∧ after (exec (.vc0WindowStart 4000)
        { up with links := [(15, { Link.reset with vc0Used := 312 })] })
      (fun t => (linkGet t 15).vc0Used = 0 && t.now = 4000) = true := by decide +kernel

theorem wit_disarm_done :
    rf up .sprint 0 0x040 0 0 = 0 ∧ sprintLeft up = false
      ∧ after (exec .sprintDisarmDone { up with sprint := { up.sprint with armedUnits := true } })
        (fun t => !t.sprint.armedUnits) = true := by decide +kernel

/-- Port 0 with a decision frame in its egress queue. -/
def leaving : State :=
  { port0 with ports := { port0.ports with p0 := { EPort.reset with egress := [⟨[1], 3, 1, 100, 0⟩] } } }

theorem wit_egress_stamp :
    portUp leaving 0 = true ∧ (epGet leaving 0).egress = ⟨[1], 3, 1, 100, 0⟩ :: []
      ∧ egressWaits leaving 0 ⟨[1], 3, 1, 100, 0⟩ = false
      ∧ leaving.ud.running = true ∧ leaving.ud.inReset = false
      ∧ after (exec (.egressStamp 0 1200) leaving) (fun t =>
        (epGet t 0).egress = [] && t.ud.stamps0 = [1200] && rg t .sprint 0 0x04C = 1
          && (epGet t 0).out.map List.length = [5]) = true := by
  decide +kernel

/-- TBL_ADDR at the last word of the table space. -/
def atTable : State := rset up .parse 0 0x040 (4 * 0x13FFF)

theorem wit_tbl_data_write :
    pageBlocked atTable .parse 0 = false ∧ rf atTable .parse 0 0x040 18 2 < 0x14000
      ∧ atTable.ports.refill = false ∧ tblHwMask (4 * rf atTable .parse 0 0x040 18 2) = 0
      ∧ after (exec (.parseTblDataAccess .pcie true 0x11223344) atTable) (fun t =>
        rdLE t.ports.shadow 0x4FFFC 4 = 0x11223344 && t.ports.live = [] && rf t .parse 0 0x040 18 2 = 0x14000)
        = true := by decide +kernel

theorem wit_tbl_data_read :
    after (exec (.parseTblDataAccess .pcie false 0)
        { atTable with ports := { atTable.ports with shadow := wrBytes [] 0x4FFFC [1, 2, 3, 4] } })
      (fun t => t.reg.pcieOut = 0x04030201 && rf t .parse 0 0x040 18 2 = 0x14000) = true := by decide +kernel

/-- The shadow tables are being refilled. -/
def refilling : State :=
  { atTable with ports := { atTable.ports with refill := true, live := [(5, 6)] } }

theorem wit_tbl_data_waits :
    refilling.ports.refill = true ∧ refilling.ports.tblWait = []
      ∧ after (exec (.parseTblDataAccess .mgmt true 7) refilling) (fun t => t.ports.tblWait = [(0x4FFFC, 7)]
        && rf t .parse 0 0x040 18 2 = 0x14000
        && after (exec .parseRefillDone t) fun u => rdB u.ports.shadow 0x4FFFC = 7 && rdB u.ports.shadow 5 = 6
          && u.ports.tblWait = []) = true
      ∧ after (exec .parseRefillDone refilling) (fun t =>
        t.ports.shadow = [(5, 6)] && !t.ports.refill) = true := by decide +kernel

/-- Every template of the shadow tables 60 bytes long. -/
def loadable : State :=
  { up with ports := { up.ports with shadow := (List.range 64).map fun k => (0x48000 + 512 * k, 60) } }

theorem wit_tbl_swap :
    pageBlocked loadable .parse 0 = false ∧ loadable.reg.xact.phase ≠ .opened ∧ loadCheck loadable = none
      ∧ after (exec (.tblSwap .pcie 1) loadable) (fun t =>
        t.reg.shadows = [(regOff .parse 0 0x048, 1)]) = true := by decide +kernel

theorem test_template_too_short :
    loadCheck up = some 64 ∧ after (exec (.tblSwap .pcie 1) up) (fun t => t.reg.shadows = []
      && rf t .parse 0 0x04C 7 0 = 192) = true := by decide +kernel

/-- A shadow program 2 whose first word has no opcode. -/
def badProgram : State := { up with ports := { up.ports with shadow := wrBytes [] 0x44200 [0, 0, 0, 0xF0] } }

theorem wit_tbl_swap_refused :
    loadCheck badProgram = some 2 ∧ after (exec (.tblSwap .pcie 1) badProgram) (fun t =>
      t.reg.shadows = [] && rf t .parse 0 0x04C 7 0 = 130) = true := by decide +kernel

-- The grid

/-- An image of a few instructions: NEXT, the depth of IQ0, the route of OQ0, and the first entry of the
steering bank. -/
def image (ws : List Nat) (next depth route bank : Nat) : List Byte :=
  toLE (1 + 256 * (ws.length - 1)) 8 ++ toLE next 8 ++ List.replicate 288 0 ++ toLE depth 8 ++ toLE route 8
    ++ toLE bank 64 ++ ws.flatMap (fun w => toLE w 8) ++ List.replicate (2048 - 8 * ws.length) 0

/-- An oar at its first instruction. -/
def oarOf (w : Nat) : Oar := { Oar.idle with image := image [w, 0] 0x1000 8 0 0 }

/-- Shell 0 of die 0 runs for crew 0. -/
def shell0 : Shell := { Shell.idle with owner := some 0, running := true }

/-- Oar 0 of that shell. -/
def rowing (o : Oar) : State :=
  { up with grid := { up.grid with oars := [(0, o)], shells := [(0, shell0)] } }

/-- What a fired instruction leaves in oar 0, and FIRE counted. -/
def fired (c : Instr) (o : Oar) (p : Oar → Bool) : Bool :=
  after (exec c (rowing o)) fun t => match mget t.grid.oars 0 with
    | some x => p x && x.ctr.getD 0 0 = 1
    | none => false

theorem wit_mma : fires (rowing (oarOf 0x1000000000000000)) 0 0 (oarOf 0x1000000000000000) 0x1000000000000000
    ∧ fired (.oarMma 0 0) (oarOf 0x1000000000000000) (fun x => x.pc = 1 && x.ops.map (·.unit) = [0]) = true := by
  unfold fires; decide +kernel

theorem wit_vec : fires (rowing (oarOf 0x2000000000000000)) 0 0 (oarOf 0x2000000000000000) 0x2000000000000000
    ∧ fired (.oarVec 0 0) (oarOf 0x2000000000000000) (fun x => x.pc = 1 && x.ops.map (·.unit) = [1]) = true := by
  unfold fires; decide +kernel

theorem wit_sfn : fires (rowing (oarOf 0x3000000000000000)) 0 0 (oarOf 0x3000000000000000) 0x3000000000000000
    ∧ fired (.oarSfn 0 0) (oarOf 0x3000000000000000) (fun x => x.pc = 1 && x.ops.map (·.unit) = [2]) = true := by
  unfold fires; decide +kernel

theorem wit_move : fires (rowing (oarOf 0x4000000000000000)) 0 0 (oarOf 0x4000000000000000) 0x4000000000000000
    ∧ fired (.oarMove 0 0) (oarOf 0x4000000000000000) (fun x => x.pc = 1 && x.ops.map (·.unit) = [3]) = true := by
  unfold fires; decide +kernel

/-- NOP taking an entry of IQ0; SETCR 15 from an entry of IQ0. -/
def nopOar : Oar := { oarOf 0x0100000000000000 with iq := [[some [1, 2]], [], [], []] }
def setcrOar : Oar := { oarOf 0x6100001F00000000 with iq := [[some [1, 2]], [], [], []] }

theorem wit_nop : fires (rowing nopOar) 0 0 nopOar 0x0100000000000000
    ∧ fired (.oarNop 0 0) nopOar (fun x => x.pc = 1 && x.iq = [[], [], [], []]) = true := by
  unfold fires; decide +kernel

theorem wit_sync : fires (rowing (oarOf 0x6000000000000000)) 0 0 (oarOf 0x6000000000000000) 0x6000000000000000
    ∧ fired (.oarSync 0 0) (oarOf 0x6000000000000000) (fun x => x.pc = 1) = true := by
  unfold fires; decide +kernel

theorem wit_setcr : fires (rowing setcrOar) 0 0 setcrOar 0x6100001F00000000
    ∧ fired (.oarSetcr 0 0) setcrOar (fun x => x.pc = 1 && x.cr.getD 15 0 = 0x0201 && x.iq = [[], [], [], []])
      = true := by
  unfold fires; decide +kernel

theorem wit_cond : fires (rowing (oarOf 0x6000002200000000)) 0 0 (oarOf 0x6000002200000000) 0x6000002200000000
    ∧ fired (.oarCond 0 0) (oarOf 0x6000002200000000) (fun x => x.pc = 1 && x.condq = [true]) = true := by
  unfold fires; decide +kernel

theorem wit_loop : fires (rowing (oarOf 0x5000000040000002)) 0 0 (oarOf 0x5000000040000002) 0x5000000040000002
    ∧ tripCount (oarOf 0x5000000040000002) 0x5000000040000002 = 3
    ∧ fired (.oarLoop 0 0) (oarOf 0x5000000040000002) (fun x => x.pc = 1 && x.trips = [3, 0, 0, 0]
        && x.active = [true, false, false, false]) = true := by
  unfold fires; decide +kernel

theorem wit_loop_zero : fires (rowing (oarOf 0x5000000060000000)) 0 0 (oarOf 0x5000000060000000) 0x5000000060000000
    ∧ tripCount (oarOf 0x5000000060000000) 0x5000000060000000 = 0
    ∧ fired (.oarLoop 0 0) (oarOf 0x5000000060000000) (fun x => x.pc = 2 && x.active.getD 0 true = false)
      = true := by
  unfold fires; decide +kernel

/-- An oar without input queues at SEAT, and at HALT. -/
def seatOar : Oar := { Oar.idle with image := image [0x6000003000000000] 0 0 0 0 }
def haltOar : Oar := { Oar.idle with image := image [0x6000004000000000] 0 0 0 0 }

theorem wit_seat : fires (rowing seatOar) 0 0 seatOar 0x6000003000000000
    ∧ fired (.oarSeat 0 0) seatOar (fun x => x.pc = 0 && x.inSeat && x.oq1 = [none]) = true := by
  unfold fires; decide +kernel

/-- Oar 1 of the shell too. -/
def rowing2 (o p : Oar) : State :=
  { rowing o with grid := { (rowing o).grid with oars := [(0, o), (1, p)] } }

theorem wit_halt_last : fires (rowing haltOar) 0 0 haltOar 0x6000004000000000
    ∧ (∀ e ∈ shellOars (rowing haltOar) 0, e.1 ≠ oarKey 0 0 → e.2.halted = true)
    ∧ after (exec (.oarHalt 0 0) (rowing haltOar)) (fun t =>
      (mget t.grid.oars 0).map (·.halted) = some true && !(shellGet t 0).running) = true := by
  unfold fires; decide +kernel

theorem wit_halt_first : (∃ e ∈ shellOars (rowing2 haltOar haltOar) 0, e.1 ≠ oarKey 0 0 ∧ e.2.halted = false)
    ∧ after (exec (.oarHalt 0 0) (rowing2 haltOar haltOar)) (fun t =>
      t.grid.shells = (rowing2 haltOar haltOar).grid.shells) = true := by
  decide +kernel

/-- An operation of the mover that copies an entry of IQ0 to scratch. -/
def moving : Oar :=
  { oarOf 0 with ops := [⟨3, 0x4100000000000000, [5], [0, 0, 0, 0], [[List.replicate 32 7], [], [], []], [], false, [], []⟩] }

theorem wit_unit_done :
    (∃ op ∈ moving.ops, op.unit = 3 ∧ (∀ n ∈ op.need, n = 0)) ∧ dieStopped (rowing moving) 0 = false
      ∧ after (exec (.oarUnitDone 0 0 3 false) (rowing moving)) (fun t =>
        (mget t.grid.oars 0).map (fun x => (x.ops, x.pc)) = some ([], 0)
          && rdBytes t.grid.scratch 160 32 = List.replicate 32 7 && rdB t.grid.scratch 159 = 0
          && rdB t.grid.scratch 192 = 0) = true := by decide +kernel

theorem wit_unit_ecc :
    after (exec (.oarUnitDone 0 0 3 true) (rowing moving)) (fun t =>
      stopped t 0 && !(shellGet t 0).running && t.grid.scratch = []
        && rf t .tile 0 0x048 7 0 = 0x38) = true := by decide +kernel

/-- PASS from oar 0 to its IQ0; SELECT from oar 0 to IQ0 of oar 0 or queue 31. -/
def passBank : Nat := 4 + 2 ^ 17 * 63
def selectBank : Nat := 1 + 2 ^ 17 * 31

/-- Oar 0 with an entry in OQ1 and a steering entry, and the credits of two queues. -/
def steering (bank : Nat) (st : AMap SteerSt) : State :=
  let o := { Oar.idle with image := image [0] 0 8 0 bank, oq1 := [some [9]] }
  let p := { Oar.idle with image := image [0] 0 0 0 0 ++ [], iq := [[], [], [], []] }
  { up with grid := { up.grid with
      oars := [(0, o), (7, { p with image := (image [0] 0 (8 * 2 ^ 48) 0 0) })]
      shells := [(0, { shell0 with steer := st })], creds := [(0, 2), (31, 1)] } }

theorem wit_steering_pass :
    issues (steering passBank []) (shellKey 0 0) = true ∧ steerEntry (steering passBank []) 0 0 = passBank
      ∧ bits passBank 2 0 = 4 ∧ bits passBank 22 17 = 63 ∧ bits passBank 16 11 = 0 ∧ bits passBank 6 3 = 0
      ∧ after (exec (.steeringMove 0 0 0) (steering passBank [])) (fun t =>
        (mget t.grid.oars 0).map (fun o => (o.oq1, o.iq.getD 0 [])) = some ([], [some [9]])
          && credsFor t 0 = 1 && credsFor t 31 = 1) = true := by decide +kernel

theorem wit_steering_select :
    bits selectBank 2 0 = 1 ∧ bits selectBank 22 17 = 31
      ∧ after (exec (.steeringMove 0 0 0) (steering selectBank [(0, ⟨true, 1, false, false, []⟩)])) (fun t =>
        (mget t.grid.oars 7).map (fun o => o.iq.getD 3 []) = some [some [9]]
          && credsFor t 31 = 0 && credsFor t 0 = 2 && (steerGet t 0 0).left = 0) = true := by decide +kernel

theorem wit_image_arrival :
    (oarOf 0).standby = none ∧ (oarOf 0).image ≠ []
      ∧ after (exec (.seatImageArrival 0 0) (rowing (oarOf 0))) (fun t =>
        ((mget t.grid.oars 0).bind (·.standby)).map List.length = some 2432) = true := by decide +kernel

theorem wit_credit_return :
    0 < mgetD [(0, 1)] (qKey 0 0 0) 0
      ∧ after (exec (.creditReturn 0 0 0)
          { rowing (oarOf 0) with grid := { (rowing (oarOf 0)).grid with owed := [(0, 1)], creds := [(0, 7)] } })
        (fun t => credsFor t 0 = 8 && mgetD t.grid.owed 0 0 = 0) = true := by decide +kernel

/-- All eight oars in SEAT with standby images of a seat; the shell has run two rounds of `rounds`. -/
def switching (seat rounds : Nat) : State :=
  let img := toLE (1 + 2 ^ 16 * seat) 8 ++ (image [0] 0 8 0 0).drop 8
  let o := { Oar.idle with image := image [0] 0 0 0 0, inSeat := true, standby := some img }
  { up with grid := { up.grid with
      oars := (List.range 8).map fun j => (j, o)
      shells := [(0, { shell0 with rounds := rounds, round := 2 })] } }

theorem wit_seat_switch :
    issues (switching 3 0) (shellKey 0 0) = true ∧ sprintArmed (switching 3 0) 0 = false
      ∧ after (exec (.seatSwitch 0 0) (switching 3 0)) (fun t =>
        (shellGet t 0).seat = 3 && (shellGet t 0).round = 2 && (shellOars t 0).length = 8
          && (shellOars t 0).all fun e => !e.2.inSeat && e.2.standby.isNone && imgDepth e.2.image 0 = 8)
        = true := by decide +kernel

theorem wit_seat_last_round :
    after (exec (.seatSwitch 0 0) (switching 0 3)) (fun t => !(shellGet t 0).running) = true
      ∧ after (exec (.seatSwitch 0 0) (switching 0 4)) (fun t =>
        (shellGet t 0).running && (shellGet t 0).round = 3) = true := by decide +kernel

/-- An oar that waits on its empty IQ0. -/
def stuck : State := rset (rowing (oarOf 0x0100000000000000)) .grid 0 0x04C 1

theorem wit_watchdog :
    (∃ e ∈ shellOars stuck (shellKey 0 0), waiting stuck e = true)
      ∧ (∀ e ∈ shellOars stuck (shellKey 0 0), canFire stuck e = false) ∧ rf stuck .grid 0 0x04C 15 0 ≠ 0
      ∧ after (exec (.watchdogExpiry 0 0) stuck) (fun t => stopped t 0 && !(shellGet t 0).running) = true := by
  decide +kernel

/-- Shell 0 selected. -/
def chosen : State := rset (rowing (oarOf 0)) .grid 0 0x060 1

theorem wit_drain :
    selected chosen 0 = [0] ∧ (∀ k ∈ selected chosen 0, sprintArmed chosen k = false)
      ∧ after (exec (.drain .pcie 0) chosen) (fun t => rg t .grid 0 0x044 = 1
        && shellGet t 0 = { shell0 with draining := true }) = true := by decide +kernel

/-- The same with a unit of an armed sprint set in the shell. -/
def chosenArmed : State :=
  { chosen with sprint := { chosen.sprint with armedUnits := true, units := [(0, ⟨7, 0, 0, 0, false⟩)] } }

theorem wit_drain_refused :
    (∃ k ∈ selected chosenArmed 0, sprintArmed chosenArmed k = true)
      ∧ after (exec (.drain .pcie 0) chosenArmed) (fun t => t.grid = chosenArmed.grid
        && rf t .grid 0 0x044 0 0 = 0) = true := by decide +kernel

/-- A draining shell with an entry in IQ0, or without. -/
def draining (es : List QEntry) : State :=
  let o := { oarOf 0 with iq := [es, [], [], []] }
  rset { rowing o with grid := { (rowing o).grid with
    shells := [(0, { shell0 with draining := true })], creds := [(0, 8)] } } .grid 0 0x044 1

theorem wit_drain_complete :
    (∀ k ∈ drainingShells (draining []) 0, quiet (draining []) k = true)
      ∧ after (exec (.drainComplete 0) (draining [])) (fun t => rg t .grid 0 0x044 = 2
        && shellGet t 0 = { shell0 with drained := true, frozen := true }) = true := by decide +kernel

theorem wit_drain_timeout :
    (∃ k ∈ drainingShells (draining [none]) 0, quiet (draining [none]) k = false)
      ∧ after (exec (.drainTimeout 0) (draining [none])) (fun t => rg t .grid 0 0x044 = 0 && stopped t 0)
        = true := by decide +kernel

theorem wit_resume :
    after (exec (.resume .pcie 0) { chosen with grid := { chosen.grid with
        shells := [(0, { shell0 with drained := true, frozen := true })], withheld := [(31, 2)] } }) (fun t =>
      shellGet t 0 = shell0 && mgetD t.grid.owed 31 0 = 2) = true := by decide +kernel

theorem wit_snap_clear :
    after (exec (.snap .pcie 0) (rowing { oarOf 0 with ctr := List.replicate 16 0 ++ [77] }))
        (fun t => rg t .grid 0 0x140 = 77) = true
      ∧ after (exec (.gridClr .pcie 0) (rowing { oarOf 0 with ctr := List.replicate 17 5 })) (fun t =>
        (mget t.grid.oars 0).map (·.ctr) = some (List.replicate 17 0)) = true := by decide +kernel

-- Commands, objects and copies

/-- A command: its first 16 bytes as a number, then its fields at 16, 24, 32 and 40. -/
def command (h a b c d : Nat) : List Byte :=
  toLE h 16 ++ toLE a 8 ++ toLE b 8 ++ toLE c 8 ++ toLE d 8 ++ List.replicate 16 0

/-- An idle object of 1 MiB. -/
def obj1 (tier : Nat) : Obj := newObj tier 0 0x100000 0 false

/-- The address of an offset in an object. -/
def at_ (obj off : Nat) : Nat := obj * 2 ^ 40 + off

/-- Crew 0 with object 1 in T2, 2 in T1 of die 0 and 3 in T3, quotas, and a command in slot 9. -/
def tasked (h a b c d : Nat) : State :=
  let s := { up with
    tier := { up.tier with objs := [(1, obj1 2), (2, obj1 1), (3, obj1 3)], t3Units := 1000 }
    host := { up.host with slots := [(9, ⟨0, 0, 0, command h a b c d, .ready, 0, 0, 0, 0, 0, 0⟩)] } }
  [0, 4, 8, 12, 16].foldl (fun s q => rset s .tier 0 (0x100 + q) 100) (rset s .tier 0 0x118 8)

/-- The command ended with a code. -/
def ended (t : State) (code : Nat) : Bool :=
  (slotGet t 9).map (fun c => (c.phase, c.status)) = some (.ended, code)

/-- The same with bytes in objects. -/
def withData (s : State) (m : Memory) : State := { s with tier := { s.tier with data := m } }

/-- PROG_START of shell 0 of die 0 with eight images of one NOP in object 1. -/
def starting : State :=
  withData (tasked 0x01 0 (at_ 1 0) 1 0) ((List.range 8).map fun j => (at_ 1 (2432 * j), 1))

theorem wit_prog_start :
    (slotGet starting 9).map (fun c => (c.phase, fld c.cmd 0 1, fld c.cmd 24 8, fld c.cmd 32 32))
        = some (.ready, 0x01, at_ 1 0, 1)
      ∧ resetting starting 0 = false ∧ quietHeld starting 0 0 = false ∧ dieStopped starting 0 = false
      ∧ (shellGet starting 0).running = false ∧ stopped starting 0 = false
      ∧ nearCode starting 0 (at_ 1 0) 19456 = cOK ∧ sprintArmed starting 0 = false
      ∧ (∀ j, j < 8 → imageGood starting (j = 0) (rdU starting 0 (at_ 1 (2432 * j)) 2432) = true)
      ∧ shellsUsed starting 0 + 1 ≤ quota starting 0 0
      ∧ after (exec (.progStart 9) starting) (fun t =>
        (shellGet t 0).running && (shellGet t 0).slot = some 9 && (shellGet t 0).owner = some 0
          && (shellOars t 0).length = 8 && !(shellGet t 1).running) = true := by decide +kernel

/-- The image of a table that is zero everywhere. -/
def zeroTable : List Byte := 1 :: List.replicate 3135 0

theorem leNat_zeros (n : Nat) : leNat (List.replicate n 0) = 0 := by
  induction n with
  | zero => rfl
  | succ n ih => rw [List.replicate_succ, leNat, ih]; rfl

theorem zeroTable_fld (i n : Nat) : fld zeroTable (i + 1) n = 0 := by
  simp only [fld, slice, zeroTable, List.drop_succ_cons, List.drop_replicate, List.take_replicate]
  rw [List.length_replicate, List.replicate_append_replicate, leNat_zeros]

theorem zeroTable_seg (s : Nat) : (parseTable zeroTable).seg s = (0, 0, 0) := by
  have h : ∀ i, fld zeroTable (64 + 12 * s + 4 * i) 4 = 0 := fun i => by
    rw [show 64 + 12 * s + 4 * i = (63 + 12 * s + 4 * i) + 1 by omega]; exact zeroTable_fld _ _
  have hb : (parseTable zeroTable).bytes = zeroTable := rfl
  simp only [TableImg.seg, hb, h]
  rfl

theorem zeroTable_segFails (s : Nat) : (parseTable zeroTable).segFails s = false := by
  have hd : (parseTable zeroTable).down = false := by decide +kernel
  have hq : quad ((0 : Word), (0 : Word), (0 : Word)) 1 0 = quad (0, 0, 0) 1 0 := rfl
  simp only [TableImg.segFails, TableImg.le, TableImg.endVal, zeroTable_seg, hd]
  cases hs : s != 0 <;> decide +kernel

theorem zeroTable_whole : (parseTable zeroTable).wholeOk = true := by
  have hd : (parseTable zeroTable).down = false := by decide +kernel
  have h0 : (slice (parseTable zeroTable).bytes 0x10 48).all (· = 0) = true := by decide +kernel
  have hz : (v32 0).isFin = true := by decide +kernel
  simp only [TableImg.wholeOk, h0, TableImg.le, TableImg.endVal, zeroTable_seg, hd, hz, Bool.and_self]
  decide +kernel

theorem tableCheck_of_parts (b : List Byte)
    (hf : (List.range 256).find? (parseTable b).segFails = none) (hw : (parseTable b).wholeOk = true) :
    tableCheck b = none := by
  simp only [tableCheck, hf, hw, if_true]

theorem zeroTable_good : tableCheck zeroTable = none :=
  tableCheck_of_parts zeroTable
    (by rw [List.find?_eq_none]; intro s _; simp [zeroTable_segFails]) zeroTable_whole

/-- TABLE_LOAD into slot 3 of shell 0's oars of a constant table. -/
def loading : State := withData (tasked 0x70 3 (at_ 1 0) 1 0) [(at_ 1 0, 1)]

theorem wit_table_load :
    nearCode loading 0 (at_ 1 0) 3136 = cOK ∧ tableCheck (rdU loading 0 (at_ 1 0) 3136) = none
      ∧ (shellGet loading 0).running = false ∧ dieStopped loading 0 = false
      ∧ (slotGet loading 9).map (fun c => (c.phase, fld c.cmd 0 1)) = some (.ready, 0x70) := by
  have h : rdU loading 0 (at_ 1 0) 3136 = zeroTable := by decide +kernel
  rw [h]
  exact ⟨by decide +kernel, zeroTable_good, by decide +kernel⟩

/-- XFER of two descriptors on die 0. -/
def xfer : State := tasked 0x10 0 (at_ 1 0) 2 0

theorem wit_xfer :
    quietHeld xfer 0 0 = false ∧ (xfer.tile.lists.filter fun e => e.1 / 64 = 0).length < 64
      ∧ (List.range 64).find? (fun j => (mget xfer.tile.lists j).isNone) = some 0
      ∧ nearCode xfer 0 (at_ 1 0) 128 = cOK
      ∧ after (exec (.xfer 9) xfer) (fun t =>
        t.tile.lists = [(0, ⟨0, 9, at_ 1 0, 2, 0, 0, 0⟩)]) = true := by decide +kernel

/-- A descriptor of an 8 by 8 tile of FP32 at object 2 offset 0x1000, row stride 32: a fetch to oar 0
queue 1, or a store from oar 0. -/
def descr (store : Bool) : List Byte :=
  toLE (at_ 2 0x1000) 8 ++ toLE 32 4 ++ toLE 8 2 ++ toLE 8 2 ++ [0, 0, 0, if store then 1 else 0]
    ++ List.replicate 8 0 ++ toLE (2 ^ 30 + 1) 4 ++ List.replicate 32 0

/-- That list at unit 0, and oar 0 with an entry in OQ0. -/
def transfer (store : Bool) : State :=
  let s := withData (tasked 0x10 0 (at_ 1 0) 1 0) (wrBytes [] (at_ 1 0) (descr store ++ List.replicate 0 0))
  { s with
    tile := { s.tile with lists := [(0, ⟨0, 9, at_ 1 0, 1, 0, 0, 0⟩)] }
    grid := { s.grid with
      oars := [(0, { oarOf 0 with oq0 := [some (List.replicate 32 7)] })], creds := [(1, 1)] } }

theorem wit_xfer_unit :
    listReady (transfer false) 0 ⟨0, 9, at_ 1 0, 1, 0, 0, 0⟩ = true ∧ listTurn (transfer false) 0 = true
      ∧ (unitCode (transfer false) 0 ⟨0, 9, at_ 1 0, 1, 0, 0, 0⟩).1 = cOK
      ∧ (listDesc (transfer false) ⟨0, 9, at_ 1 0, 1, 0, 0, 0⟩).allUnits = 8
      ∧ parseRoute (2 ^ 30 + 1) = .one 0 0 0 0 1
      ∧ after (exec (.xferUnit 0 0 false) (transfer false)) (fun t =>
        (mget t.tile.lists 0).map (·.unit) = some 1 && credsFor t 1 = 0 && mgetD t.tile.turn 0 0 = 1
          && (mgetD t.net.queues (inQ 0 3) []).map (fun p => (p.cmd, p.dest, p.data.length))
            = [(0, ⟨0, 0, 0, 0, 1⟩, 32)]) = true := by decide +kernel

theorem test_xfer_round_robin :
    let s := transfer false
    let s := { s with tile := { s.tile with lists := s.tile.lists ++ [(5, ⟨0, 9, at_ 1 0, 1, 0, 0, 0⟩)], turn := [(0, 1)] } }
    after (exec (.xferUnit 0 0 false) s) (fun t => (mget t.tile.lists 0).map (·.unit) = some 0) = true
      ∧ after (exec (.xferUnit 0 5 false) s) (fun t => (mget t.tile.lists 5).map (·.unit) = some 1
        && mgetD t.tile.turn 0 0 = 6) = true := by decide +kernel

theorem wit_store_unit :
    (listDesc (transfer true) ⟨0, 9, at_ 1 0, 1, 0, 0, 0⟩).store = true
      ∧ listReady (transfer true) 0 ⟨0, 9, at_ 1 0, 1, 0, 0, 0⟩ = true ∧ listTurn (transfer true) 0 = true
      ∧ (unitCode (transfer true) 0 ⟨0, 9, at_ 1 0, 1, 0, 0, 0⟩).1 = cOK
      ∧ storeSrc 0 (listDesc (transfer true) ⟨0, 9, at_ 1 0, 1, 0, 0, 0⟩) = some 0
      ∧ after (exec (.storeUnit 0 0) (transfer true)) (fun t =>
        (mget t.tile.lists 0).map (·.unit) = some 1 && (mget t.grid.oars 0).map (·.oq0) = some []
          && rdU t 0 (at_ 2 0x1000) 4 = [7, 7, 7, 7]) = true := by decide +kernel

/-- A line that die 1 has missed. -/
def missing (obj : Nat) : State :=
  { xfer with tile := { xfer.tile with missed := [(1, [at_ obj 0x100])] } }

theorem wit_cache_fill :
    tierAt (missing 1) 0 (at_ 1 0x1FF) = 2 ∧ cacheWays (missing 1) 1 ≠ 0 ∧ dieStopped (missing 1) 1 = false
      ∧ lineKey 0 (at_ 1 0x1FF) ∈ mgetD (missing 1).tile.missed 1 [] := by
  refine ⟨by decide +kernel, ?_, by decide +kernel, by decide +kernel⟩
  have h : 256 * (tierSpace (missing 1) 1 1 - tierTaken (missing 1) 1 1) = 393216 := by decide +kernel
  have hm := Nat.mod_lt Config.t1Sets (show 256 * 1536 > 0 by decide)
  rw [cacheWays, h, cacheSets]
  exact Nat.ne_of_gt (Nat.div_pos (by omega) (by omega))

theorem wit_cache_fill_none :
    tierAt (missing 2) 0 (at_ 2 0x1FF) ≠ 2
      ∧ after (exec (.cacheLineFill 1 0 (at_ 2 0x1FF)) (missing 2)) (fun t =>
        t.tile.cache = [] && mgetD t.tile.missed 1 [] = []) = true := by decide +kernel

/-- ALLOC of object 7 in T2, pinned; FREE of object 1; MIGRATE of object 1 to T1 of die 2. -/
def allocating : State := withData (tasked 0x30 (7 + 2 ^ 32 * 0xA) 65537 0 0) [(at_ 7 5, 9)]
def freeing : State := tasked 0x31 1 0 0 0
def migrating : State := tasked 0x32 (1 + 2 ^ 32 * 0x21) 0 0 0

theorem wit_alloc :
    mget allocating.tier.objs (objKey 0 7) = none ∧ 7 < objCount allocating 0
      ∧ placeCode allocating 0 2 0 2 = cOK
      ∧ after (exec (.alloc 9) allocating) (fun t => ended t cOK
        && (objGet t 0 7).map (fun o => (o.tier, o.size, o.pin)) = some (2, 0x20000, true)
        && rdU t 0 (at_ 7 5) 1 = [0]) = true := by decide +kernel

theorem wit_free :
    objGet freeing 0 1 = some (obj1 2)
      ∧ after (exec (.free 9) freeing) (fun t =>
        objGet t 0 1 = some { obj1 2 with state := 3, slot := some 9 }) = true := by decide +kernel

theorem wit_migrate :
    placeCode migrating 0 1 2 16 = cOK ∧ onChannels 1 (chDown migrating 1) 0 0x100000 = false
      ∧ onChannels 2 (chDown migrating 2) 0 0x100000 = false
      ∧ after (exec (.migrate 9) migrating) (fun t => (objGet t 0 1).map (fun o =>
        (o.state, o.tier, o.destTier, o.destDie, o.slot)) = some (1, 2, 1, 2, some 9)) = true := by decide +kernel

/-- Object 1 while slot 9 copies or frees it. -/
def busyObj (o : Obj) : State :=
  let s := tasked 0x32 1 0 0 0
  { s with
    tier := { s.tier with objs := [(1, o)] }
    host := { s.host with slots := [(9, ⟨0, 0, 0, command 0x32 1 0 0 0, .running, 0, 0, 0, 0, 0, 0⟩)] } }

theorem wit_copy_done :
    let s := busyObj { obj1 2 with
      state := 1, dest := 77, destTier := 1, destDie := 2, slot := some 9, readers := [4] }
    (slotObj s 9).map (fun e => (e.1, e.2.state, e.2.switched)) = some (1, 1, false) ∧ s.tier.reqs = []
      ∧ after (exec (.migrationCopyDone 9) s) (fun t =>
      (objGet t 0 1).map (fun o => (o.tier, o.die, o.loc, o.oldTier, o.switched, o.waitOn))
        == some (1, 2, 77, 2, true, [4]) && ended t cOK) = true := by decide +kernel

theorem wit_release :
    after (exec (.sourceRelease 0 1) (busyObj { obj1 2 with state := 3, slot := some 9 })) (fun t =>
        ended t cOK && t.tier.objs = []) = true
      ∧ after (exec (.sourceRelease 0 1) (busyObj { obj1 1 with
          state := 1, switched := true, loc := 77, dest := 77 })) (fun t =>
        (objGet t 0 1).map (fun o => (o.state, o.switched, o.loc, o.dest)) = some (0, false, 77, 0)) = true := by
  decide +kernel

/-- TIER_COPY of 300 bytes into object 2, and into object 3. -/
def copyNear : State := withData (tasked 0x33 0 (at_ 1 0) (at_ 2 0x1000) 320) [(at_ 1 0, 1), (at_ 1 319, 2)]
def copyFar : State := tasked 0x33 0 (at_ 1 0) (at_ 3 0) 320

theorem wit_tier_copy_near :
    accessCode copyNear 0 (at_ 1 0) 0 = cOK ∧ destCode copyNear 0 (at_ 2 0x1000) 320 = cOK
      ∧ reach copyNear 0 (at_ 1 0) 320 = 320 ∧ reach copyNear 0 (at_ 2 0x1000) 320 = 320
      ∧ accessCode copyNear 0 (at_ 1 0) 320 ≠ cTFAIL ∧ storeCode copyNear 0 (at_ 2 0x1000) 320 ≠ cTFAIL
      ∧ after (exec (.tierCopy 9) copyNear) (fun t => ended t cOK
        && rdU t 0 (at_ 2 0x1000) 1 = [1] && rdU t 0 (at_ 2 0x113F) 2 = [2, 0]) = true := by decide +kernel

/-- The transfer of 320 bytes from object 1 to object 3: two requests of a stripe unit of 256 bytes. -/
def req0 : TierReq := ⟨9, 0, .copy, at_ 1 0, at_ 3 0, 320, 0, 0, none, [], none⟩

theorem wit_tier_copy_far :
    tierAt copyFar 0 (at_ 3 0) = 3
      ∧ after (exec (.tierCopy 9) copyFar) (fun t => t.tier.reqs = [req0] && t.tier.data = []) = true := by
  decide +kernel

/-- That transfer under way. -/
def copying (r : TierReq) : State :=
  { busyObj (obj1 2) with tier := { copyFar.tier with
      reqs := [r], data := [(at_ 1 255, 1), (at_ 1 319, 2)] } }

theorem wit_tier_reply :
    pieceCode (copying req0) req0 = cOK ∧ replyDue (copying req0) req0 true 0 = true
      ∧ reqDone (copying req0) { req0 with writes := 1 } = false
      ∧ after (exec (.tierReply 9 true 0 false) (copying req0)) (fun t =>
        t.tier.reqs = [{ req0 with writes := 1 }] && rdU t 0 (at_ 3 255) 1 = [0] && !ended t cOK) = true
      ∧ replyDue (copying { req0 with writes := 1 }) { req0 with writes := 1 } true 1 = true
      ∧ reqDone (copying req0) { req0 with writes := 2 } = true
      ∧ after (exec (.tierReply 9 true 1 false) (copying { req0 with writes := 1 })) (fun t =>
        rdU t 0 (at_ 3 255) 1 = [1] && rdU t 0 (at_ 3 319) 2 = [2, 0] && ended t cOK) = true := by
  decide +kernel

theorem wit_tier_late :
    timed (copying req0) req0 = true ∧ reqDone (copying req0) req0 = false
      ∧ after (exec (.tierTimerExpiry 9) (copying req0)) (fun t => ended t cTLATE && rg t .tier 0 0x500 = 1) = true
      ∧ after (exec (.tierReply 9 true 0 false) (copying { req0 with stray := some [(3 * 32, 1)] })) (fun t =>
        rg t .tier 0 0x504 = 1 && t.tier.reqs = []) = true := by decide +kernel

/-- A copy from object 3 to object 1. -/
def reqBack : TierReq := { req0 with src := at_ 3 0, dst := at_ 1 0 }

theorem wit_tier_fail :
    replyDue (copying reqBack) reqBack false 0 = true
      ∧ (objGet (copying reqBack) 0 (uObj reqBack.src)).map (·.state) = some 0
      ∧ after (exec (.tierReply 9 false 0 true) (copying reqBack)) (fun t => ended t cTFAIL
          && (objGet t 0 3).map (·.state) = some 2) = true := by decide +kernel

/-- HOST_COPY of 32 bytes, to the host and from it. -/
def toHost : State := withData (tasked 0x37 1 (at_ 1 0) 0x8000 32) [(at_ 1 31, 5)]
def fromHost : State := tasked 0x37 0 (at_ 1 0) 0x8000 32

theorem wit_host_copy :
    reach toHost 0 (at_ 1 0) 32 = 32 ∧ accessCode toHost 0 (at_ 1 0) 32 = cOK
      ∧ storeCode fromHost 0 (at_ 1 0) 32 = cOK ∧ bit (fld (command 0x37 1 (at_ 1 0) 0x8000 32) 16 1) 0 = true
      ∧ after (exec (.hostCopy 9 []) toHost) (fun t => ended t cOK && rdB t.host.mem 0x801F = 5) = true
      ∧ destCode fromHost 0 (at_ 1 0) 32 = cOK
      ∧ after (exec (.hostCopy 9 (List.replicate 32 3)) fromHost) (fun t => ended t cOK
        && rdU t 0 (at_ 1 31) 2 = [3, 0]) = true := by decide +kernel

/-- The same with object 3, in T3. -/
theorem wit_host_copy_far :
    after (exec (.hostCopy 9 []) (tasked 0x37 1 (at_ 3 0) 0x8000 32)) (fun t =>
        t.tier.reqs = [⟨9, 0, .hostOut, at_ 3 0, 0x8000, 32, 0, 0, none, [], none⟩] && t.host.mem = []) = true
      ∧ after (exec (.hostCopy 9 (List.replicate 32 3)) (tasked 0x37 0 (at_ 3 0) 0x8000 32)) (fun t =>
        t.tier.reqs.map (fun r => (r.kind, r.src, r.dst, r.data.length)) = [(.hostIn, 0x8000, at_ 3 0, 32)]
          && t.tier.data = []) = true := by decide +kernel

theorem wit_channel_out :
    bit (chDown up 4) 31 = false ∧ (stripe 4).2 = 32
      ∧ after (exec (.channelOutOfService 4 31) up) (fun t => bit (chDown t 4) 31 && rg t .tier 0 0x50C = 1)
        = true := by decide +kernel

/-- Blocks 1, worn, and 2, which holds data; the slack window is open. -/
def blocks : State :=
  rset { up with
      back := { up.back with slack := true }
      tier := { up.tier with blocks := [(1, ⟨257, false, none⟩), (2, ⟨0, false, some 8⟩)], rawBlocks := 3 } }
    .tier 0 0x058 1

theorem wit_loom :
    slotMay blocks 6 0 = true ∧ slotMay blocks 5 0 = true ∧ lowestErases blocks + 256 < (blockGet blocks 1).erases ∧ (blockGet blocks 2).erases = lowestErases blocks
      ∧ blockFree blocks 1 = true
      ∧ after (exec (.loomWearLevelling 1 2 0 9) blocks) (fun t =>
        blockGet t 1 = ⟨257, false, some 8⟩ && blockGet t 2 = ⟨1, false, none⟩ && rg t .tier 0 0x05C = 257) = true
      ∧ after (exec (.loomReadDisturbRefresh 2 1 0 90 0 9) blocks) (fun t =>
        blockGet t 1 = ⟨257, false, some 8⟩ && rg t .tier 0 0x524 = 1) = true
      ∧ after (exec (.loomProgramFail 2 1) blocks) (fun t =>
        blockGet t 2 = ⟨0, true, none⟩ && blockGet t 1 = ⟨257, false, some 8⟩
          && rg t .tier 0 0x058 = 0 && rg t .tier 0 0x528 = 1 && rf t .tier 0 0x044 0 0 = 1) = true := by
  decide +kernel

-- Attention

/-- A pass descriptor of one line, 64 wide, over one bolt of stream 5. -/
def passBytes (mode : Nat) : List Byte :=
  [BitVec.ofNat 8 (mode + 0x28), 0x31, 0, 0] ++ toLE 0 2 ++ toLE 16 2 ++ toLE 64 2 ++ [1, 0]
    ++ toLE 0x3F800000 4 ++ toLE 0 8 ++ toLE 0 8 ++ toLE 255 8 ++ toLE 0 8 ++ toLE 5 2 ++ List.replicate 14 0

/-- ATTN with one descriptor on shell 3 of die 0. -/
def attending : State := tasked 0x20 0x300 (at_ 1 0) 1 0

theorem wit_attn :
    attnGet attending 3 = none ∧ (shellGet attending 3).running = false
      ∧ nearCode attending 0 (at_ 1 0) 64 = cOK
      ∧ after (exec (.attn 9) attending) (fun t => (attnGet t 3).map (fun l => (l.slot, l.count, l.started))
        = some (9, 1, false) && (shellGet t 3).owner = some 0) = true := by decide +kernel

/-- That list on its pipeline, its stream of `pos` tokens, its command running. -/
def passing (mode pos : Nat) (f : AttnList → AttnList) : State :=
  let s := withData (busyObj (obj1 1)) (wrBytes [] (at_ 1 0) (passBytes mode))
  { s with
    att := { s.att with lists := [(3, f
      { crew := 0, slot := 9, addr := at_ 1 0, count := 1, index := 0, started := false, qbuf := []
        acc := [], bolts := [], slices := [], tiles := 0, failed := none, flags := 0
        other := none })] }
    host := { s.host with streams := [(5, ⟨0, 0, pos, at_ 1 0x10000, none⟩)] } }

/-- The descriptor of that pass. -/
def pass1 (mode : Nat) : Pass := parsePass (passBytes mode)

theorem wit_pass_start :
    passBad (passing 0 0 id) 0 (pass1 0) = false ∧ (pass1 0).qunit + queryUnits (pass1 0) ≤ 4096
      ∧ (pass1 0).aunit + (pass1 0).lines * accUnits (pass1 0) ≤ scratchUnits (passing 0 0 id)
      ∧ (pass1 0).list = false ∧ (pass1 0).lencnt = 0 ∧ passStreamBad (passing 0 0 id) 0 (pass1 0) = false
      ∧ after (exec (.passStart 0 3) (passing 0 0 id)) (fun t => (attnGet t 3).map (fun l => (l.started, l.bolts))
        = some (true, []) && rg t .attn 0 0x100 = 1) = true := by decide +kernel

theorem wit_pass_bad :
    passBad (passing 3 0 id) 0 (pass1 3) = true
      ∧ after (exec (.passStart 0 3) (passing 3 0 id)) (fun t => ended t cCONFIG && attnGet t 3 = none) = true := by
  decide +kernel

theorem wit_pass_complete :
    after (exec (.passComplete 0 3) (passing 2 0 fun l => { l with started := true })) (fun t =>
        ended t cOK && attnGet t 3 = none) = true
      ∧ after (exec (.passComplete 0 3) (passing 2 0 fun l => { l with started := true, count := 2 })) (fun t =>
        (attnGet t 3).map (fun l => (l.index, l.started)) = some (1, false)) = true := by decide +kernel

/-- A backward pass with a slice that no token of the stream makes visible. -/
def tiling : State :=
  let s := passing 2 0 fun l => { l with started := true, slices := [⟨at_ 1 0, 256, 256, some 5⟩] }
  { s with grid := { s.grid with
      oars := [(24, { Oar.idle with image := image [0] 0 (8 * 2 ^ 48) 0 0 })], creds := [(99, 1)] } }

theorem wit_tile_write :
    (pass1 2).mode = 2 ∧ (pass1 2).oar = 0 ∧ 0 < credsFor tiling 99
      ∧ after (exec (.probabilityTileWrite 0 3) tiling) (fun t => (attnGet t 3).map (·.tiles) = some 1
        && credsFor t 99 = 0 && (mget t.grid.oars 24).map (fun o => (o.iq.getD 3 []).map (·.map (leNat ·)))
          = some [some 256]) = true := by decide +kernel

/-- A pass at bolt 0 of stream 5, with a node for each level, or without. -/
def walking (m : Memory) : State :=
  withData (passing 0 1 fun l => { l with started := true, bolts := [5 * 2 ^ 32] })
    (m ++ wrBytes [] (at_ 1 0) (passBytes 0))

theorem wit_walk_missing :
    walkBolt (walking []) 0 0 5 0 (pass1 0).kvhead (sliceBytes (pass1 0)) = .inr (cMISSING, at_ 1 0x10000)
      ∧ after (exec (.walkComplete 0 3 0) (walking [])) (fun t =>
        (attnGet t 3).map (·.failed) = some (some (cMISSING, at_ 1 0x10000))) = true := by decide +kernel

/-- The memory of a stream whose four levels of nodes lie at 0x10000. -/
def walked : State :=
  let s := passing 0 1 fun l => { l with started := true, bolts := [5 * 2 ^ 32] }
  withData s (wrBytes s.tier.data (at_ 1 0x10000) (toLE (at_ 1 0x10000 + 1) 8))

theorem wit_walk_complete :
    walkBolt walked 0 0 5 0 (pass1 0).kvhead (sliceBytes (pass1 0)) = .inl (at_ 1 0x10000)
      ∧ after (exec (.walkComplete 0 3 0) walked) (fun t =>
        mgetD t.att.lab 3 [] = [⟨0, 5, 0, at_ 1 0x10000⟩] && (attnGet t 3).map (·.slices.length) = some 1
          && rg t .tier 0 0x514 = 1 && rg t .tier 0 0x518 = 0)
        = true := by decide +kernel

/-- BOLT_INVAL of bolts 1 and 2 of stream 5. -/
def invalidating : State :=
  let s := tasked 0x36 5 1 2 0
  { s with
    att := { s.att with lab := [(3, [⟨0, 5, 0, 1⟩, ⟨0, 5, 1, 1⟩, ⟨0, 5, 2, 1⟩, ⟨0, 5, 3, 1⟩, ⟨0, 4, 1, 1⟩])] }
    host := { s.host with streams := [(5, ⟨0, 0, 0, 0, none⟩)] } }

theorem wit_bolt_inval :
    streamGet invalidating 0 5 ≠ none
      ∧ after (exec (.boltInval 9) invalidating) (fun t => ended t cOK
        && mgetD t.att.lab 3 [] = [⟨0, 5, 0, 1⟩, ⟨0, 5, 3, 1⟩, ⟨0, 4, 1, 1⟩]) = true := by decide +kernel

-- The package network

/-- A QDATA packet of crew 0 from shell (0, 0) to a unit of shell (1, 0) of die 0. -/
def pkt (unit sub : Nat) : Pkt :=
  { dest := ⟨0, 1, 0, unit, sub⟩, mc := false, src := ⟨0, 0, 0, 0, 0⟩, cmd := 0, vc := 3, dl := false
    crew := 0, status := 0, heat := 5, tag := 9, addr := 0, arg := 0, data := List.replicate 32 1 }

/-- The END marker of that flow. -/
def endPkt (unit sub : Nat) : Pkt := { pkt unit sub with cmd := 1, data := [] }

/-- That packet without data. -/
def pkt0 : Pkt := { pkt 0 0 with data := [] }

/-- That packet at the local input of a router of die 0, shell 1 in a power state. -/
def hopping (r : Nat) (pw : DomainSt) : State :=
  { up with
    net := { up.net with queues := [(meshQ 0 r 4 3, [pkt 0 0])] }
    grid := { up.grid with shells := [(1, { shell0 with power := pw })] } }

theorem wit_mesh_hop :
    headQ (hopping 0 .run) (meshQ 0 0 4 3) = some (pkt 0 0) ∧ badRoute (pkt 0 0) = false
      ∧ meshDir (hopping 0 .run) 0 0 (pkt 0 0) = 2
      ∧ shareOk (hopping 0 .run) (meshOut 0 0 2) 3 (flitsOf (pkt 0 0)) (meshCands (hopping 0 .run) 0 0 [2]) = true
      ∧ roomQ (hopping 0 .run) (behind 0 0 2 3) (pkt 0 0) = true
      ∧ after (exec (.meshHop 0 0 4 3 0) (hopping 0 .run)) (fun t =>
        mgetD t.net.queues (meshQ 0 0 4 3) [] = [] && mgetD t.net.queues (meshQ 0 1 3 3) [] = [pkt 0 0])
        = true := by decide +kernel

/-- A second packet of VC1 waits for the same output, whose shares are spent for VC3. -/
theorem test_mesh_shares :
    let s := hopping 0 .run
    let s := { s with net := { s.net with
      queues := s.net.queues ++ [(meshQ 0 0 2 1, [{ pkt 0 0 with vc := 1 }])], shares := [(meshOut 0 0 2, [2, 0, 0, 0])] } }
    after (exec (.meshHop 0 0 4 3 0) s) (fun t => (mgetD t.net.queues (meshQ 0 0 4 3) []).length = 1) = true
      ∧ after (exec (.meshHop 0 0 2 1 0) s) (fun t => mgetD t.net.queues (meshQ 0 0 2 1) [] = []
        && mgetD t.net.shares (meshOut 0 0 2) [] = [0, 0, 0, 0]) = true := by decide +kernel

/-- A packet from the ring for a unit of die 0's station. -/
def landing : State := { up with net := { up.net with queues := [(inQ 0 3, [pkt 10 0])] } }

theorem wit_station_deliver :
    freeHead landing (inQ 0 3) = some (pkt 10 0) ∧ atStation (pkt 10 0).dest.unit = true
      ∧ after (exec (.meshHop 0 256 0 3 0) landing) (fun t => t.net.delivered = [pkt 10 0]
        && mgetD t.net.queues (inQ 0 3) [] = []) = true := by decide +kernel

theorem wit_mesh_hop_deliver :
    meshDir (hopping 1 .run) 0 1 (pkt 0 0) = 4
      ∧ after (exec (.meshHop 0 1 4 3 0) (hopping 1 .run)) (fun t => t.net.delivered = [pkt 0 0]) = true
      ∧ after (exec (.meshHop 0 1 4 3 0) (hopping 1 .sleep)) (fun t =>
        t.net.delivered = [] && (shellGet t 1).power = .waking && rg t .net 0 0x410 = 1) = true := by decide +kernel

/-- The same packet for die 3, at the station of die 8. -/
def ringing : State :=
  { up with net := { up.net with queues := [(outQ 8 3, [{ pkt 0 0 with dest := ⟨3, 1, 0, 0, 0⟩ }])] } }

theorem wit_ring_hop :
    headQ ringing (ringQ 8 false 3 false) = none ∧ goesDown 8 3 = false ∧ (8 + 1) % 9 ≠ 3
      ∧ shareOk ringing (ringOut 8 false) 3 (flitsOf (pkt 0 0)) (ringCands ringing 8 false) = true
      ∧ roomQ ringing (ringQ 0 false 3 true) { pkt 0 0 with dl := true } = true
      ∧ after (exec (.ringHop 8 false 3 false 0) ringing) (fun t =>
        mgetD t.net.queues (outQ 8 3) [] = []
          && (mgetD t.net.queues (ringQ 0 false 3 true) []).map (·.dl) = [true]) = true := by decide +kernel

theorem wit_ring_hop_ends :
    let s := { up with net := { up.net with queues := [(outQ 8 3, [pkt 0 0])] } }
    goesDown 8 0 = false ∧ (8 + 1) % 9 = (pkt 0 0).dest.die
      ∧ shareOk s (ringOut 8 false) 3 (flitsOf (pkt 0 0)) (ringCands s 8 false) = true
      ∧ roomQ s (inQ 0 3) { pkt 0 0 with dl := true } = true
      ∧ after (exec (.ringHop 8 false 3 false 0) s) (fun t => mgetD t.net.queues (outQ 8 3) [] = []
        && mgetD t.net.queues (inQ 0 3) [] = [pkt 0 0]) = true := by decide +kernel

theorem test_ring_yields_to_vc0 :
    after (exec (.ringHop 8 false 3 false 0) { ringing with net := { ringing.net with queues :=
        ringing.net.queues ++ [(outQ 8 0, [{ pkt 0 0 with vc := 0, dest := ⟨3, 1, 0, 0, 0⟩ }])] } })
      (fun t => (mgetD t.net.queues (outQ 8 3) []).length = 1) = true := by decide +kernel

theorem wit_link_credit :
    let s := { up with net := { up.net with used := [(outQ 0 3, 1)] } }
    flitsIn s (outQ 0 3) < mgetD s.net.used (outQ 0 3) 0 ∧ 2 ^ 20 ≤ outQ 0 3
      ∧ after (exec (.linkCreditReturn (outQ 0 3)) s) (fun t => mgetD t.net.used (outQ 0 3) 0 = 0) = true := by
  decide +kernel

theorem wit_link_credit_enters :
    let s := { up with net := { up.net with used := [(outQ 0 3, 127)], outbox := [(outQ 0 3, [pkt 0 0])] } }
    roomQ s (outQ 0 3) (pkt 0 0) = false ∧ roomQ (linkCredit s (outQ 0 3)) (outQ 0 3) (pkt 0 0) = true
      ∧ after (exec (.linkCreditReturn (outQ 0 3)) s) (fun t =>
        mgetD t.net.queues (outQ 0 3) [] = [pkt 0 0] && mgetD t.net.outbox (outQ 0 3) [] = []) = true := by
  decide +kernel

/-- Oar 0 of shell 1 of crew 0 with seven entries of eight in IQ0. -/
def receiving : State :=
  { up with grid := { up.grid with
      oars := [(8, { oarOf 0 with iq := [List.replicate 7 none, [], [], []] })]
      shells := [(1, shell0)] } }

/-- A packet has reached its unit there. -/
def brought (p : Pkt) : State := { receiving with net := { receiving.net with delivered := [p] } }

theorem wit_qdata :
    violates receiving 1 0 = false ∧ imgDepth (oarOf 0).image 0 = 8 ∧ arrives (brought (pkt 0 0)) (pkt 0 0) = true
      ∧ after (exec (.qdata (pkt 0 0)) (brought (pkt 0 0))) (fun t => t.net.delivered = []
        && (mget t.grid.oars 8).map (fun o => o.iq.getD 0 [])
          = some (List.replicate 7 none ++ [some (List.replicate 32 1)])) = true
      ∧ after (exec (.qend (endPkt 0 0)) (brought (endPkt 0 0))) (fun t =>
        (mget t.grid.oars 8).map (fun o => o.iq.getD 0 []) = some (List.replicate 8 none)) = true
      ∧ after (exec (.qend (endPkt 8 15)) (brought (endPkt 8 15))) (fun t => (steerGet t 1 15).inq = [none])
        = true := by
  decide +kernel

theorem wit_domain_wake :
    after (exec (.domainWake 0 1) (hopping 0 .waking)) (fun t => (shellGet t 1).power = .run) = true := by
  decide +kernel

/-- SLEEP_EN of die 7. -/
def dozing : State := rset up .power 0 0x050 0x80

theorem wit_domain_sleep :
    absent dozing 6 = false ∧ domainBusy dozing (shellKey 7 255) = false
      ∧ sprintArmed dozing (shellKey 7 255) = false ∧ dieStopped dozing 7 = false
      ∧ after (exec (.domainSleep 7 255) dozing) (fun t => (shellGet t (shellKey 7 255)).power = .sleep)
        = true := by decide +kernel

theorem wit_four_queues :
    (∀ e ∈ receiving.grid.oars, e.2.iq.length = 4) ∧ (∀ e ∈ State.reset.grid.oars, e.2.iq.length = 4)
      ∧ after (step { brought (pkt 0 0) with pending := [.qdata (pkt 0 0)] }) (fun t =>
        t.grid.oars.all fun e => e.2.iq.length = 4) = true := by decide +kernel

/-- A request of crew 0 or of the device to die 0's stacked-DRAM site, its arguments as R223 forms it. -/
def request (cmd addr arg : Nat) : Pkt :=
  { pkt 14 0 with
    cmd := cmd, addr := addr, arg := arg, crew := if cmd < 0x0C then 0 else 31, vc := if cmd < 0x0C then 3 else 4
    data := List.replicate (if cmd = 0x0A then arg else if cmd = 0x0E then 32 else 0) 1 }

/-- The command of slot 9 runs. -/
def issuing : State := { xfer with host := (busyObj (obj1 2)).host }

theorem wit_requests_issued :
    (∀ cmd ∈ [0x08, 0x0A], reqData (request cmd (at_ 1 0) 32) = (request cmd (at_ 1 0) 32).data.length
        ∧ (request cmd (at_ 1 0) 32).crew = reqCrew issuing (some 9))
      ∧ (∀ cmd ∈ [0x0C, 0x0E], reqData (request cmd 0x120 4) = (request cmd 0x120 4).data.length
        ∧ (request cmd 0x120 4).crew = reqCrew issuing none)
      ∧ mget issuing.net.tags (tagKey 0 9) = none ∧ arrives issuing (request 8 (at_ 1 0) 32) = false
      ∧ (slotGet issuing 9).map (·.phase) = some .running
      ∧ (∀ p ∈ [(Instr.rdReq (some 9) (request 8 (at_ 1 0) 32), 0x08), (.wrReq (some 9) (request 0x0A (at_ 1 0) 32), 0x0A),
          (.regRd (request 0x0C 0x120 4), 0x0C), (.regWr (request 0x0E 0x120 4), 0x0E)],
        after (exec p.1 issuing) (fun t => (mget t.net.tags (tagKey 0 9)).map (·.quarantined) = some false
          && (mgetD t.net.queues (entryQ (request p.2 0 0)) []).map (·.cmd) = [p.2]) = true) := by decide +kernel

/-- A packet has reached its unit. -/
def reached (s : State) (p : Pkt) : State := { s with net := { s.net with delivered := [p] } }

theorem wit_rd_req :
    accessCode xfer 0 (at_ 1 0xFFF00) 256 = cOK ∧ holdsTier xfer (request 8 (at_ 1 0xFFF00) 256) = true
      ∧ arrives (reached xfer (request 8 (at_ 1 0xFFF00) 256)) (request 8 (at_ 1 0xFFF00) 256) = true
      ∧ after (exec (.rdReq none (request 8 (at_ 1 0xFFF00) 256))
          (reached (withData xfer [(at_ 1 0xFFFFF, 6)]) (request 8 (at_ 1 0xFFF00) 256))) (fun t =>
        t.net.delivered = [] && (mgetD t.net.queues (inQ 0 3) []).map (fun p => (p.cmd, p.dest, p.data.getD 255 0))
            = [(0x09, ⟨0, 0, 0, 0, 0⟩, 6)]) = true := by decide +kernel

theorem wit_wr_req :
    storeCode xfer 0 (at_ 1 0) 32 = cOK ∧ holdsTier xfer (request 0x0A (at_ 1 0) 32) = true
      ∧ after (exec (.wrReq none (request 0x0A (at_ 1 0) 32)) (reached xfer (request 0x0A (at_ 1 0) 32))) (fun t =>
        rdU t 0 (at_ 1 31) 2 = [1, 0]
          && (mgetD t.net.queues (inQ 0 3) []).map (·.cmd) = [0x0B]) = true := by decide +kernel

theorem wit_reg_requests :
    after (exec (.regRd (request 0x0C 0x120 4)) (reached up (request 0x0C 0x120 4))) (fun t =>
        (mgetD t.net.queues (inQ 0 4) []).map (fun p => (p.cmd, p.data.length)) = [(0x0D, 4)]) = true
      ∧ after (exec (.regWr (request 0x0E 0x120 4)) (reached up (request 0x0E 0x120 4))) (fun t =>
        (mgetD t.net.queues (inQ 0 4) []).map (·.cmd) = [0x0F]) = true := by decide +kernel

def response (cmd status : Nat) : Pkt :=
  { pkt 0 0 with dest := ⟨8, 0, 0, 3, 0⟩, cmd := cmd, status := status, data := [0x11, 0x22, 0x33, 0x44] }

/-- A tag in flight for slot 9, a response to it that has reached its initiator. -/
def answered (q : Bool) (p : Pkt) : State :=
  { busyObj (obj1 2) with net := { up.net with tags := [(tagKey 8 9, ⟨some 9, 0, q⟩)], delivered := [p] } }

theorem wit_responses :
    listOf (answered false pkt0) 9 = none ∧ arrives (answered false (response 0x09 0)) (response 0x09 0) = true
      ∧ (∀ p ∈ [(Instr.rdResp (response 0x09 0), response 0x09 0), (.wrAck (response 0x0B 0), response 0x0B 0),
          (.regWrAck (response 0x0F 0), response 0x0F 0)],
        after (exec p.1 (answered false p.2)) (fun t => t.net.tags = [] && t.net.delivered = []) = true)
      ∧ after (exec (.regRdResp (response 0x0D 0)) (answered false (response 0x0D 0))) (fun t =>
        mget t.net.regOut (tagKey 8 9) = some 0x44332211) = true
      ∧ after (exec (.errResp (response 0x1F 4)) (answered false (response 0x1F 4))) (fun t => ended t 0x23) = true
      ∧ after (exec (.rdResp (response 0x09 0)) (reached up (response 0x09 0))) (fun t =>
        rg t .net 8 0x404 = 1) = true := by decide +kernel

theorem wit_net_timeout :
    after (exec (.netTimeout 8 9) (answered false pkt0)) (fun t => ended t 0x22
        && (mget t.net.tags (tagKey 8 9)).map (·.quarantined) = some true) = true
      ∧ after (exec (.tagQuarantineEnd 8 9) (answered true pkt0)) (fun t => t.net.tags = []) = true := by
  decide +kernel

theorem wit_fault_notice :
    up.reg.log.length < 64 ∧ arrives (reached up (response 0x18 1)) (response 0x18 1) = true
      ∧ after (exec (.faultNotice (response 0x18 1)) (reached up (response 0x18 1))) (fun t =>
        t.reg.log.map (fun e => (e.code, e.crew)) = [(0x22, 0)]) = true := by decide +kernel

-- Henac links

/-- A device at stage 8 with link 3, or the twin port, in a state. -/
def linked (l : Nat) (k : Link) : State :=
  { stern with power := { stern.power with stage := 8 }, links := [(l, k)] }

/-- Its EN 1. -/
def enabled (l : Nat) (k : Link) : State := rset (linked l k) (linkPage l).1 (linkPage l).2 0x040 1

/-- A link that is up, with frames 7 and 8 not acknowledged. -/
def link3 : Link := { Link.reset with state := 3, txSeq := 9, rxLast := 4095 }

theorem wit_link_enable :
    pageBlocked (linked 16 Link.reset) .twinlink 0 = false ∧ twinPresent (linked 16 Link.reset) = true
      ∧ after (exec (.linkEnable .pcie 16) (linked 16 Link.reset)) (fun t =>
        (linkGet t 16).state = 1 && linkEn t 16) = true
      ∧ after (exec (.linkEnable .pcie 0) (linked 0 Link.reset)) (fun t => (linkGet t 0).state = 1) = true := by
  decide +kernel

theorem wit_retrain :
    linkEn (enabled 15 link3) 15 = true
      ∧ after (exec (.retrain .pcie 15) (enabled 15 link3)) (fun t =>
        (linkGet t 15).state = 1 && rg t .link 15 0x114 = 1) = true := by decide +kernel

theorem wit_adaptation :
    after (exec (.receiverAdaptationDone 3 false 0) (linked 3 { Link.reset with state := 1 })) (fun t =>
        (linkGet t 3).adapted) = true
      ∧ after (exec (.receiverAdaptationDone 3 true 0) (linked 3 { Link.reset with state := 1 })) (fun t =>
        (linkGet t 3).state = 5 && (linkGet t 3).refuse = 5) = true
      ∧ after (exec (.receiverAdaptationDone 3 false 7) (linked 3 { Link.reset with state := 1 })) (fun t =>
        (linkGet t 3).state = 5 && (linkGet t 3).refuse = 7) = true
      ∧ after (exec (.frameLock 3) (linked 3 { Link.reset with state := 1, adapted := true })) (fun t =>
        (linkGet t 3).state = 2 && (linkGet t 3).rxLast = 4095) = true := by decide +kernel

/-- What the far end of link 0 of a plane of 2 by 2 says: HEAT as here, or of another system. -/
def farEnd (sys len : Nat) : Identity :=
  { dev := 1, coord := 1, link := 4, system := sys, features := 0, heatLength := len, heatOrigin := 0, heatBase := 0
    stage := 9, stern := true, latency := 55 }

/-- Link 0 of that plane in state 2. -/
def meeting : State :=
  rset (rset (rset (linked 0 { Link.reset with state := 2, adapted := true }) .henac 0 0x040 1)
    .henac 0 0x044 0x0202) .henac 0 0x048 0

theorem wit_identity :
    identityRefuse meeting 0 (farEnd 0 (rg meeting .heat 0 0x048)) = 0
      ∧ adopts meeting 0 (farEnd 0 0x1000000) = true
      ∧ after (exec (.identityExchange 0 (farEnd 0 0x1000000) 0) meeting) (fun t =>
        (linkGet t 0).state = 3 && (linkGet t 0).peerDev = 1 && (linkGet t 0).latency = 55
          && rg t .heat 0 0x048 = 0x1000000) = true
      ∧ identityRefuse meeting 0 (farEnd 1 0) = 2
      ∧ after (exec (.identityExchange 0 (farEnd 1 0) 0) meeting) (fun t =>
        (linkGet t 0).state = 5 && (linkGet t 0).refuse = 2) = true := by decide +kernel

/-- Link 3 before the device has time. -/
def early : State := { linked 3 link3 with heat := HeatSt.reset }

theorem wit_recalibration :
    slotMay early 1 3 = true ∧ recalDue early 3 (4000000 * rf early .henac 0 0x054 15 0) = true
      ∧ 0 < rf early .henac 0 0x054 15 0
      ∧ after (exec (.recalibration 3 (4000000 * rf early .henac 0 0x054 15 0)) early) (fun t =>
        (linkGet t 3).state = 4 && (linkGet t 3).noticeOut && rg t .link 3 0x118 = 1) = true
      ∧ recalDue early 3 7 = false
      ∧ recalDue (linked 16 { link3 with recalNow := true }) 16 7 = true
      ∧ after (exec (.recalibration 16 7) (linked 16 { link3 with recalNow := true })) (fun t =>
        (linkGet t 16).state = 4 && !(linkGet t 16).recalNow && rg t .twinlink 0 0x118 = 1) = true := by
  decide +kernel

theorem wit_recalibration_end :
    inGrains (linked 3 link3) 3 = false
      ∧ after (exec (.recalibrationEnd 3 true) (linked 3 { link3 with state := 4 })) (fun t =>
        linkGet t 3 = link3) = true
      ∧ after (exec (.recalibrationEnd 3 false) (linked 3 { link3 with training := 20 })) (fun t =>
        linkGet t 3 = link3) = true
      ∧ after (exec (.recalibrationEnd 16 false) (linked 16 { link3 with training := 20 })) (fun t =>
        linkGet t 16 = { link3 with training := 20 }) = true := by decide +kernel

theorem wit_frame_send :
    after (exec (.henacFrameSend 3) (linked 3 link3)) (fun t => (linkGet t 3).txSeq = 10
        && (linkGet t 3).replay.map (fun f => (f.seq, f.bytes.length)) = [(9, 840)]
        && (linkGet t 3).framesOut.map (fun f => f.length) = [4]) = true := by decide +kernel

theorem wit_training_pattern :
    after (exec (.henacFrameSend 3) (linked 3 { link3 with training := 50 })) (fun t =>
      (linkGet t 3).training = 49 && (linkGet t 3).framesOut = [] && (linkGet t 3).txSeq = 9) = true := by
  decide +kernel

/-- The first two bytes of a frame as its lanes have them. -/
def laneHead (f : List (List Byte)) : Nat :=
  leNat [(f.getD 0 []).getD 0 0, (f.getD 1 []).getD 0 0]

theorem wit_frame_send_full :
    after (exec (.henacFrameSend 3) (linked 3 { link3 with replay := List.replicate 256 ⟨8, [], 0⟩ })) (fun t =>
        (linkGet t 3).txSeq = 9 && (linkGet t 3).replay.length = 256
          && (linkGet t 3).framesOut.map laneHead = [8]) = true := by decide +kernel

theorem wit_frame_resend :
    after (exec (.henacFrameSend 3) (linked 3 { link3 with resend := [⟨8, toLE 8 2, 0⟩] })) (fun t =>
        (linkGet t 3).txSeq = 9 && (linkGet t 3).resend = []
          && (linkGet t 3).framesOut.map laneHead = [8]) = true := by decide +kernel

/-- A frame of a message, its check code good, or wrong in every byte. -/
def frameOf (m : List Byte) (bad : Byte) : List Byte :=
  m ++ (toLE (crc64 m).toNat 8).map (· + bad)

/-- An empty message of a sequence number. -/
def message (seq : Nat) : List Byte :=
  controlFlit seq 0 4095 false [] (fun _ => 0) ++ List.replicate 800 0

theorem toLE_length (n k : Nat) : (toLE n k).length = k := by
  induction k generalizing n with
  | zero => rfl
  | succ k ih => simp [toLE, ih]

theorem slice_append_left (m c : List Byte) : slice (m ++ c) 0 m.length = m := by
  simp [slice]

theorem slice_append_right (m c : List Byte) : slice (m ++ c) m.length c.length = c := by
  simp [slice]

theorem frameOf_code (m : List Byte) (bad : Byte) (h : m.length = 832) :
    slice (frameOf m bad) 832 8 = (toLE (crc64 (slice (frameOf m bad) 0 832)).toNat 8).map (· + bad) := by
  have hl := slice_append_left m ((toLE (crc64 m).toNat 8).map (· + bad))
  have hr := slice_append_right m ((toLE (crc64 m).toNat 8).map (· + bad))
  rw [h] at hl hr
  rw [List.length_map, toLE_length] at hr
  rw [frameOf, hl, hr]

/-- The lanes of a frame spell its message, whatever their parity (R240). -/
theorem lanes_spell (b : List Byte) (h : b.length = 840) : laneMessage 3 (laneBytes 3 b) = b := by
  apply List.ext_getElem
  · simp [laneMessage, frameShape, h]
  · intro i h1 h2
    have hm : i % 4 < 4 := Nat.mod_lt _ (by decide)
    have hd : i / 4 < 210 := by omega
    have hi : 4 * (i / 4) + i % 4 = i := by omega
    simp [laneMessage, laneBytes, frameShape, List.getD_eq_getElem?_getD, List.getElem?_append_left, hm, hd,
      hi, h2]

theorem frameOf_length (m : List Byte) (bad : Byte) (h : m.length = 832) : (frameOf m bad).length = 840 := by
  simp [frameOf, toLE_length, h]

theorem wit_frame_receive :
    laneMessage 3 (laneBytes 3 (frameOf (message 0) 0)) = frameOf (message 0) 0
      ∧ slice (frameOf (message 0) 0) 832 8
        = toLE (crc64 (slice (frameOf (message 0) 0) 0 832)).toNat 8
      ∧ bits (fld (frameOf (message 0) 0) 0 2) 11 0 = (link3.rxLast + 1) % 4096
      ∧ bits (fld (frameOf (message 4095) 0) 0 2) 11 0 = link3.rxLast
      ∧ bits (fld (frameOf (message 2) 0) 0 2) 11 0 ≠ (link3.rxLast + 1) % 4096
      ∧ bits (fld (frameOf (message 2) 0) 0 2) 11 0 ≠ link3.rxLast ∧ linkUp link3 = true := by
  refine ⟨lanes_spell _ (frameOf_length _ _ (by decide +kernel)), ?_, by decide +kernel⟩
  rw [frameOf_code _ _ (by decide +kernel)]
  simp

theorem wit_frame_bad_code :
    slice (frameOf (message 0) 1) 832 8
        ≠ toLE (crc64 (slice (frameOf (message 0) 1) 0 832)).toNat 8
      ∧ bits (fld (frameOf (message 0) 1) 0 2) 11 0 = (link3.rxLast + 1) % 4096 ∧ link3.fails = 0 := by
  refine ⟨?_, by decide +kernel⟩
  rw [frameOf_code _ _ (by decide +kernel)]
  simp [toLE]

-- Groups and collectives

/-- Group 7 of this device, the root, and device 1. -/
def two : Group := ⟨false, 0, 1, [0, 1], 0⟩

/-- A packet of device 1 for a group, in heat 5. -/
def gpkt (gr : Group) (cmd phase op : Nat) (last : Bool) (arg : Nat) (data : List Byte) : HPkt :=
  { groupPkt up 7 gr cmd 0 5 (groupAddr gr true false phase last op 1) arg 0 data with src := 1 }

/-- Group 7 live, and nodes waiting for device 1. -/
def grouped (gr : Group) (sprint : Bool) (tag : Nat) : State :=
  { up with
    coll := { up.coll with live := [(7, gr)] }
    sprint := { up.sprint with
      tokens := [x0], nodes := [newNode up sprint 7 two tag 0 true (if sprint then 9 else 1) 5] } }

theorem wit_sprint_packet_query :
    epochOk (grouped under1 true 40) (gpkt under1 0x10 0 0 true 40 [1, 2]) = some under1
      ∧ stampCase (grouped under1 true 40) 5 = .accept ∧ parentDev up under1 true = some 1
      ∧ fastOf (gpkt under1 0x10 0 0 true 40 [1, 2]) = false ∧ up.twin.pair = 0
      ∧ after (exec (.sprintPacket (gpkt under1 0x10 0 0 true 40 [1, 2])) (grouped under1 true 40)) (fun t =>
        (jobOf t 7 40 true).map (·.q) = some [0x0201]) = true := by decide +kernel

theorem wit_sprint_packet_partial :
    parentDev up two true ≠ some 1 ∧ (1 ∈ kidDevs up two true) ∧ isRoot up two = true
      ∧ tokenOf (grouped two true 40) 40 ≠ none
      ∧ after (exec (.sprintPacket (gpkt two 0x10 0 0 true 40 [0, 0, 0xF8, 0x3F])) (grouped two true 40)) (fun t =>
        t.sprint.nodes.map (·.kids) = [[(1, some [0x3FF80000])]]) = true := by decide +kernel

theorem wit_coll_packet_early :
    pktPhase (gpkt two 0x11 1 1 false 0 []) = 1 ∧ instOf (grouped two false 0) 7 0 = none
      ∧ after (exec (.collPacket (gpkt two 0x11 1 1 false 0 [])) (grouped two false 0)) (fun t =>
        t.coll.early = [gpkt two 0x11 1 1 false 0 []]) = true := by decide +kernel

/-- A collective's command in slot 9: OP, FMT 1, group 7, source and destination in object 2. -/
def coll (op len : Nat) : State :=
  let s := tasked 0x40 (7 + 2 ^ 16 * (op + 16)) (at_ 2 0) (at_ 2 0x1000) len
  { s with coll := { s.coll with live := [(7, two)] } }

/-- Its instance. -/
def inst (op : Nat) : Machine.Coll :=
  { slot := 9, group := 7, seq := 0, op := op, fast := false, ready := [], sentUp := [], go := []
    done := [], began := false, recv := [], counts := [], last := [], dropped := false, owed := none }

/-- The instance runs in a group. -/
def collRuns (op len : Nat) (gr : Group) (f : Machine.Coll → Machine.Coll) : State :=
  let s := coll op len
  { s with
    coll := { s.coll with live := [(7, gr)], insts := [f (inst op)] }
    sprint := { s.sprint with nodes := [newNode s false 7 gr 0 0 true 1 5] }
    host := { s.host with slots := mmapv s.host.slots fun _ c => { c with phase := .running } } }

theorem wit_coll_packet_up :
    instOf (collRuns 1 128 two id) 7 0 = some (inst 1)
      ∧ taken (collRuns 1 128 two id) (gpkt two 0x11 0 1 true 0 [1, 2])
      ∧ after (exec (.collPacket (gpkt two 0x11 0 1 true 0 [1, 2])) (collRuns 1 128 two id)) (fun t =>
        t.sprint.nodes.map (·.kids) = [[(1, some [0x0201])]]) = true := by
  unfold taken; decide +kernel

theorem wit_xchg_packet :
    nearStore (collRuns 4 64 two id) 0 (at_ 2 0x1060) 2 = cOK
      ∧ after (exec (.xchgPacket (gpkt two 0x12 0 4 false (2 ^ 16) [1, 2])) (collRuns 4 64 two id)) (fun t =>
        rdU t 0 (at_ 2 0x1060) 3 = [1, 2, 0]) = true := by decide +kernel

theorem wit_coll_abort :
    resetting (collRuns 0 64 two id) 0 = false
      ∧ epochOk (collRuns 0 64 two id) (gpkt two 0x11 3 0 false 0x300 []) = some two
      ∧ bits (gpkt two 0x11 3 0 false 0x300 []).arg 15 8 = 3
      ∧ after (exec (.collAbort (gpkt two 0x11 3 0 false 0x300 [])) (collRuns 0 64 two id)) (fun t => ended t 0x2A
        && mget t.coll.aborted (7 * 256) = some 3 && t.coll.insts = []) = true
      ∧ after (exec (.collTimerExpiry 9) (collRuns 0 64 two id)) (fun t => ended t 0x29
        && rg t .coll 0 0x110 = 1 && mget t.coll.aborted (7 * 256) = some 2) = true := by decide +kernel

/-- GROUP_WRITE of group 7, FAST 0, EPOCH 3, for heat 6: members 0 and 0, or 0 alone; crew 0 owns the groups
from 7 to 8. -/
def groupWriting (n : Nat) : State :=
  rset (tasked 0x41 (7 + 2 ^ 16 * 3 + 2 ^ 48 * n) (at_ 1 0) 6 0) .crew 0 0x104 (7 + 2 ^ 16)
    |> fun s => rset s .henac 0 0x044 2

theorem wit_group_write :
    groupReason (groupWriting 0) 0 7 false [0] = 0 ∧ accessCode (groupWriting 0) 0 (at_ 1 0) 2 = cOK
      ∧ after (exec (.groupWrite 9) (groupWriting 0)) (fun t => ended t cOK
        && mget t.coll.shadow 7 = some ⟨6, some ⟨false, 0, 3, [0], 0⟩⟩ && t.coll.live = []) = true := by
  decide +kernel

theorem wit_coll_starts :
    collGroup (coll 0 64) ⟨0, 0, 0, command 0x40 (7 + 2 ^ 20) 0 0 64, .ready, 0, 0, 0, 0, 0, 0⟩ = some two
      ∧ quietNow (coll 0 64) 0 0 = true ∧ (coll 0 64).coll.early = [] ∧ (coll 0 64).coll.insts = []
      ∧ (∀ p ∈ [(0, Instr.treeOpStart 9), (4, .xchgEq 9), (5, .xchgCounts 9), (6, .xchgPad 9), (7, .rotate 9)],
        after (exec p.2 (coll p.1 64)) (fun t => (instSlot t 9).map (fun x => (x.op, x.seq)) = some (p.1, 0)
          && (groupGet t 7).map (·.seq) = some 1 && rg t .coll 0 0x100 = 1) = true) := by decide +kernel

theorem wit_sums :
    usesGo (inst 0) = true
      ∧ after (exec (.sumRoot 9) (withData (collRuns 0 128 two fun x => { x with go := [true, false] })
          [(at_ 2 64, 7)])) (fun t => t.sprint.nodes.map (fun n => n.own.map fun v => (v.length, v.headD 0))
            = [some (32, 7)]) = true
      ∧ after (exec (.sumAll 9) (collRuns 1 64 two fun x => { x with go := [true, false] })) (fun t =>
        t.sprint.nodes.map (fun n => n.own.map List.length) = [some 16]) = true := by decide +kernel

theorem wit_bcast_barrier :
    isRoot (collRuns 2 64 two id) two = true
      ∧ after (exec (.bcast 9) (withData (collRuns 2 64 two fun x => { x with sentUp := [false, true] })
          [(at_ 2 63, 7)])) (fun t => ended t cOK && rdU t 0 (at_ 2 0x103F) 2 = [7, 0] && t.coll.insts = [])
        = true
      ∧ after (exec (.barrier 9) (collRuns 3 0 two fun x => { x with sentUp := [false, true] })) (fun t =>
        ended t cOK && t.coll.insts = []) = true := by decide +kernel

-- Host queues, counters, streams, sprint commands, crews

/-- Crew 0 with SQ 0 and CQ 0 of four entries enabled, two commands in the one, a place in the other. -/
def queued : State :=
  let s := { up with host := { up.host with sqs := [(0, ⟨3, 1, false⟩)], cqs := [(0, ⟨1, 3, false⟩)] } }
  rset (rset (rset s .crewq 0 0x108 5) .crewq 0 0x208 5) .crewq 0 0x200 0x8000

theorem wit_doorbells :
    resetting queued 0 = false ∧ qEn queued 0 0x100 0 = true ∧ qSize queued 0 0x100 0 = 4
      ∧ after (exec (.sqDoorbell 0 0 3) queued) (fun t => (sqGet t 0 0).tail = 3) = true
      ∧ after (exec (.cqDoorbell 0 0 3) queued) (fun t => (cqGet t 0 0).head = 3) = true
      ∧ after (exec (.sqDoorbell 0 0 4) queued) (fun t => (sqGet t 0 0).tail = 1
        && rf t .crewq 0 0x040 15 0 = 1) = true
      ∧ after (exec (.cqDoorbell 0 1 0) queued) (fun t => rf t .crewq 0 0x040 15 0 = 1) = true := by decide +kernel

/-- A NOP that waits for counter 2 to reach 1, or does not wait. -/
def nop (wait : Bool) : List Byte := command (0x63 + (if wait then 256 else 0) + 2 ^ 32 * 2 + 2 ^ 64) 0 0 0 0

/-- The slot a fetched command takes. -/
def slotOf (b : List Byte) (p : SlotPhase) : Slot := ⟨0, 0, 0, b, p, 0, 0, 0, 0, 0, 0⟩

theorem wit_command_fetch :
    nextSq queued = some (0, 0) ∧ (List.range 4096).find? (fun i => (slotGet queued i).isNone) = some 0
      ∧ waitMet queued (slotOf (nop true) .waiting) = false ∧ cmdBad queued (slotOf (nop false) .waiting) = false
      ∧ after (exec (.commandFetch (nop true) false) queued) (fun t =>
        slotGet t 0 = some (slotOf (nop true) .waiting) && (sqGet t 0 0).head = 3) = true
      ∧ after (exec (.commandFetch (nop false) false) queued) (fun t =>
        slotGet t 0 = some (slotOf (nop false) .ready) && (sqGet t 0 0).head = 0) = true := by decide +kernel

theorem wit_wait_met :
    after (exec (.waitMet 0) { queued with host := { queued.host with
        slots := [(0, slotOf (nop true) .waiting)], ctrs := [(2, 1)] } }) (fun t =>
      slotGet t 0 = some (slotOf (nop true) .ready) && (sqGet t 0 0).head = 0) = true := by decide +kernel

/-- An ended command with SIGNAL of counter 0, quiet or not, and the host link up. -/
def completing (quiet : Bool) : State :=
  { queued with host := { queued.host with
      linkUp := true
      slots := [(0, { slotOf (command (if quiet then 0xC63 else 0x463) 0 0 0 0) .ended with endAt := 77 })] } }

theorem wit_completion :
    cqRoom (completing false) 0 0 = true ∧ cqOf (completing false) 0 0 = 0
      ∧ isQuiet (slotOf (command 0x463 0 0 0 0) .ended) = false
      ∧ recordBefore (completing false) (slotOf (command 0x463 0 0 0 0) .ended) = false
      ∧ after (exec (.completionWrite 0) (completing false)) (fun t => t.host.slots = []
        && rdBytes t.host.mem 0x8060 32 = [0, 0, 128] ++ List.replicate 21 0 ++ [77] ++ List.replicate 7 0
        && (cqGet t 0 0).tail = 0 && ctrGet t 0 0 = 1) = true
      ∧ isQuiet (slotOf (command 0xC63 0 0 0 0) .ended) = true
      ∧ after (exec (.completionWrite 0) (completing true)) (fun t => t.host.slots = [] && t.host.mem = []
        && ctrGet t 0 0 = 1) = true := by decide +kernel

/-- A counter command on counter 255, whose error bit is set. -/
def counting (op v : Nat) : State :=
  let s := tasked op (255 + 2 ^ 32 * v) 0 0 0
  { s with host := { s.host with ctrs := [(255, 0xFFFFFFFF)], ctrErr := [(255, true)] } }

theorem wit_counters :
    after (exec (.ctrSet 9) (counting 0x60 7)) (fun t => ended t cOK && ctrGet t 0 255 = 7 && !ctrErrGet t 0 255)
        = true
      ∧ after (exec (.ctrAdd 9) (counting 0x61 2)) (fun t => ended t cOK && ctrGet t 0 255 = 1 && ctrErrGet t 0 255)
        = true
      ∧ after (exec (.ctrRead 9) (counting 0x62 0)) (fun t => (slotGet t 9).map (fun c => (c.result, c.detail))
        = some (0xFFFFFFFF, 1)) = true
      ∧ after (exec (.nopCommand 9) (counting 0x63 0)) (fun t => ended t cOK) = true := by decide +kernel

/-- A stream command on stream 6 of a crew that owns streams 5 and 6. -/
def streaming (op v : Nat) (e : Option StreamE) : State :=
  let s := tasked op 6 v 0x800 0
  rset { s with host := { s.host with streams := e.toList.map fun e => (6, e) } } .crew 0 0x100 (5 + 2 ^ 17)

theorem wit_streams :
    after (exec (.streamOpen 9) (streaming 0x50 100 none)) (fun t => ended t cOK
        && streamGet t 0 6 = some ⟨0, 100, 0, 0x800, none⟩) = true
      ∧ after (exec (.streamAdv 9) (streaming 0x51 100 (some ⟨0, 100, 0, 0, none⟩))) (fun t => ended t cOK
        && streamGet t 0 6 = some ⟨0, 100, 100, 0, none⟩) = true
      ∧ after (exec (.streamAdv 9) (streaming 0x51 101 (some ⟨0, 100, 0, 0, none⟩))) (fun t => ended t cRANGE
        && streamGet t 0 6 = some ⟨0, 100, 0, 0, none⟩) = true
      ∧ after (exec (.streamClose 9) (streaming 0x52 0 (some ⟨0, 100, 5, 0, none⟩))) (fun t => ended t cOK
        && t.host.streams = []) = true := by decide +kernel

/-- A sprint command of crew 0, which owns group 7, with two slices and descriptor 0 naming the group. -/
def sprinting (op a b c : Nat) : State :=
  rset (rset (rset (rset (tasked op a b c 0) .crew 0 0x104 (7 + 2 ^ 16)) .attn 0 0x044 2)
    .sprint 0 0x060 1) .sprint 0 0x100 (1 + 8 * 7)

theorem wit_sprint_write :
    inSlice (sprinting 0x34 (2047 + 2 ^ 16 * 7) (at_ 1 0) 0) 0 7 = true
      ∧ nearCode (sprinting 0x34 (2047 + 2 ^ 16 * 7) (at_ 1 0) 0) 0 (at_ 1 0) unitSize = cOK
      ∧ unitRefused (sprinting 0x34 (2047 + 2 ^ 16 * 7) (at_ 1 0) 0) 7 2047 = false := by decide +kernel

theorem wit_sprint_ready :
    inSlice (sprinting 0x35 7 0 0) 0 7 = true
      ∧ after (exec (.sprintReady 9) (sprinting 0x35 7 0 0)) (fun t => ended t cOK && (setGet t 7).ready
        && !(setGet t 6).ready) = true := by decide +kernel

/-- READOUT_LOAD of a record of two query heads per KV head, QPK 0. -/
def reading : State := withData (sprinting 0x38 7 (at_ 1 0) (readoutSize 1)) [(at_ 1 0, 1)]

theorem wit_readout_load :
    inSlice reading 0 7 = true ∧ nearCode reading 0 (at_ 1 0) (readoutSize 1) = cOK
      ∧ namedBy reading 7 = some 0 ∧ groupGet reading 7 = none ∧ (setGet reading 7).frozen = false
      ∧ (setGet reading 7).retiring = false ∧ qpkFor reading 0 7 < 16 ∧ readoutSize (qpkFor reading 0 7 + 1) = readoutSize 1
      ∧ 0 < rf reading .sprint 0 0x060 6 0 ∧ qpkFor reading 0 7 = 0
      ∧ rdB reading.tier.data (uKey 0 (at_ 1 0)) = 1 ∧ rdB reading.tier.data (uKey 0 (at_ 1 2)) = 0 := by
  decide +kernel

theorem wit_perst :
    crewEnabled queued 0 = true
      ∧ after (exec (.perst false) queued) (fun t => resetting t 0 && !resetting t 1 && !t.power.perstN) = true
      ∧ after (exec (.perst true) queued) (fun t => t.power.perstN) = true := by decide +kernel

/-- Crew 3 with a transfer list. -/
def crew3 (resets : List Nat) : State :=
  { up with
    tile := { up.tile with lists := [(0, ⟨3, 9, 0, 1, 0, 0, 0⟩)] }
    crew := { up.crew with resetting := resets }
    net := { up.net with tags := if resets = [] then [] else [(5, ⟨none, 3, true⟩)] } }

/-- The same with a request that has no answer. -/
def tagged3 (resets : List Nat) : State :=
  { crew3 resets with net := { up.net with tags := [(5, ⟨none, 3, false⟩)] } }

theorem wit_crew_reset :
    pageBlocked (crew3 []) .crew 0 = false
      ∧ after (exec (.functionLevelReset 3) (crew3 [])) (fun t => resetting t 3 && t.tile.lists = []) = true
      ∧ after (exec (.crewReset .pcie 8) (crew3 [])) (fun t => resetting t 3 && t.tile.lists = []) = true := by
  decide +kernel

theorem wit_crew_reset_ends :
    inFlight (idleShells (crew3 [3]) 3) 3 = 0
      ∧ after (exec (.crewResetFinish 3) (crew3 [3])) (fun t => !resetting t 3
        && rf t .crew 0 0x04C 3 3 = 0) = true
      ∧ inFlight (idleShells (tagged3 [3]) 3) 3 = 1
      ∧ after (exec (.crewResetForce 3) (tagged3 [3])) (fun t => !resetting t 3
        && t.net.tags.map (fun e => e.2.quarantined) = [true] && rf t .crew 0 0x04C 3 3 = 1)
        = true := by decide +kernel

theorem wit_scrub :
    scrubOk (streaming 0 0 none) 0 = false ∧ scrubOk (crew3 []) 0 = true
      ∧ after (exec (.scrub .pcie 1) { crew3 [] with tier := { up.tier with
          objs := [(1, obj1 2)], data := [(at_ 1 0, 1)] } }) (fun t => t.tier.objs = [] && t.tier.data = [])
        = true := by decide +kernel

-- Registers, transactions, management port

theorem wit_pages_open :
    (∀ k ∈ [PageKind.numf, .tier, .coll, .mgmt, .heat, .power, .twin, .sprint, .attn, .host, .error, .xact,
        .crew, .twinlink, .parse, .ledger, .seal, .feature, .global],
      pageOpen up k 0)
      ∧ (∀ n, n < 9 → pageOpen up .net n) ∧ (∀ n, n < 8 → pageOpen up .tile n ∧ pageOpen up .grid n)
      ∧ (∀ n, n < 16 → pageOpen up .link n) ∧ (∀ n, n < 2 → pageOpen up .eport n) := by
  unfold pageOpen; decide +kernel

/-- A page with two interrupt bits pending, IRQ on. -/
def irq : State := rset (rset up .coll 0 0x014 0xC) .coll 0 0x00C (0x100 + 5)

/-- Its host link up. -/
def irqUp : State := { irq with host := { irq.host with linkUp := true } }

theorem wit_irq_registers :
    (pageInfo .coll).2.1 = 1
      ∧ after (exec (.registerWrite .pcie (regOff .coll 0 0x018) 4) irqUp) (fun t => rf t .coll 0 0x018 3 0 = 4
        && t.host.vectors = [(16, 5)]) = true
      ∧ after (exec (.registerWrite .pcie (regOff .coll 0 0x018) 4) irq) (fun t => rf t .coll 0 0x018 3 0 = 4
        && t.host.vectors = [] && t.host.pba = [(16, 5)]) = true
      ∧ after (exec (.registerWrite .mgmt (regOff .coll 0 0x018) 0) irqUp) (fun t => rf t .coll 0 0x018 3 0 = 0
        && t.host.vectors = []) = true
      ∧ after (exec (.registerWrite .pcie (regOff .coll 0 0x014) 8) irqUp) (fun t => rf t .coll 0 0x014 3 0 = 4)
        = true := by decide +kernel

theorem wit_header_reads :
    (plainRead up .pcie .link 15 0x000 ∧ plainRead up .pcie .feature 0 0x008 ∧ plainRead up .pcie .coll 0 0x004)
      ∧ after (exec (.loLatchRead .pcie (regOff .link 15 0x000)) up) (fun t =>
        t.reg.pcieOut = BitVec.ofNat 32 ((pageInfo .link).2.2 + 0xF000)) = true
      ∧ after (exec (.loLatchRead .pcie (regOff .feature 0 0x008)) up) (fun t => t.reg.pcieOut = 128) = true
      ∧ after (exec (.loLatchRead .pcie (regOff .coll 0 0x030)) up) (fun t => t.reg.pcieOut = 0) = true := by
  unfold plainRead; decide +kernel

theorem wit_latch :
    0x040 ∈ pairLo .heat ∧ pageBlocked up .heat 0 = false
      ∧ after (exec (.loLatchRead .pcie (regOff .heat 0 0x040))
          { up with heat := { up.heat with num := 7 * 2 ^ 32 + 5 } }) (fun t => t.reg.pcieOut = 5
        && after (exec (.loLatchRead .pcie (regOff .heat 0 0x044)) { t with heat := up.heat }) fun u =>
          u.reg.pcieOut = 7 && u.reg.latches = []) = true := by decide +kernel

theorem wit_unmapped :
    pageOfOff 0x00FF0000 = none
      ∧ after (exec (.unmappedAccess .pcie false 0x00FF0000) up) (fun t => t.reg.pcieOut = 0
        && rg t .error 0 0x110 = 1) = true
      ∧ after (exec (.unmappedAccess .mgmt true 0x00FF0000) up) (fun t => rg t .error 0 0x110 = 1) = true := by
  decide +kernel

/-- A transaction of PCI Express, tag 5. -/
def inXact (ph : XPhase) (coll : AMap Word) : State :=
  { up with reg := { up.reg with xact := Xact.mk ph .pcie 5 false coll } }

theorem wit_heat_length :
    after (exec (.registerWrite .pcie (regOff .heat 0 0x048) 0xC0000001) (inXact .opened [])) (fun t =>
        t.reg.xact.coll = [(regOff .heat 0 0x048, 1)]) = true
      ∧ after (exec (.registerWrite .pcie (regOff .heat 0 0x048) 1) up) (fun t => t.reg.shadows = []
        && rf t .heat 0 0x014 2 2 = 1) = true := by decide +kernel

theorem wit_disarm_write :
    after (exec (.registerWrite .pcie (regOff .sprint 0 0x040) 0) armed) (fun t =>
      t.reg.shadows = [(regOff .sprint 0 0x040, 0)]) = true := by decide +kernel

theorem wit_xact_begin :
    after (exec (.xactBegin .mgmt 63) up) (fun t => t.reg.xact = Xact.mk .opened .mgmt 63 false []) = true
      ∧ after (exec (.xactBegin .pcie 0) up) (fun t => rg t .xact 0 0x050 = 0x51) = true
      ∧ after (exec (.xactBegin .mgmt 1) (inXact .opened [])) (fun t => rg t .xact 0 0x054 = 0x50
        && rg t .xact 0 0x110 = 1) = true := by decide +kernel

/-- A transaction for heat 6, or 5. -/
def aimed (n : Nat) (f : Xact → Xact) : State :=
  let s := rset (inXact .opened []) .xact 0 0x044 n
  { s with reg := { s.reg with xact := f s.reg.xact } }

theorem wit_xact_commit :
    xactTarget (aimed 6 id) = 6 ∧ ownsXact (aimed 6 id) .pcie 5 = true ∧ firstFailing (aimed 6 id) = none
      ∧ after (exec (.xactCommit .pcie 5) (aimed 6 id)) (fun t => t.reg.xact.phase = .committed) = true
      ∧ after (exec (.xactCommit .pcie 5) (aimed 5 id)) (fun t => t.reg.xact.phase = .idle
        && rg t .xact 0 0x050 = 0x52) = true
      ∧ after (exec (.xactCommit .pcie 5) (aimed 6 fun x => { x with full := true })) (fun t =>
        t.reg.xact.phase = .idle && rg t .xact 0 0x050 = 0x53) = true
      ∧ after (exec (.xactCommit .mgmt 5) (aimed 6 id)) (fun t => rg t .xact 0 0x054 = 0x51) = true
      ∧ after (exec (.xactCommit .pcie 5) (inXact .committed [])) (fun t => rg t .xact 0 0x050 = 0x50) = true := by
  decide +kernel

theorem wit_xact_abort :
    after (exec (.xactAbort .pcie 0) (inXact .opened [])) (fun t => t.reg.xact.phase = .idle) = true
      ∧ after (exec (.xactAbort .pcie 6) (inXact .opened [])) (fun t => t.reg.xact.phase = .opened
        && rg t .xact 0 0x050 = 0x51) = true
      ∧ after (exec .xactIdleExpiry (inXact .opened [])) (fun t => t.reg.xact.phase = .idle
        && rg t .xact 0 0x050 = 0x54) = true := by decide +kernel

/-- A management frame with its CRC: OP and TAG, a word address, data. -/
def mframe (cmd off : Nat) (data : List Byte) : List Byte :=
  let b := [0xB0, BitVec.ofNat 8 cmd, BitVec.ofNat 8 (off / 4 / 65536), BitVec.ofNat 8 (off / 4 / 256),
    BitVec.ofNat 8 (off / 4)] ++ data
  b ++ [crc8 b]

theorem wit_mgmt_write :
    forPort up (mframe 0 (regOff .coll 0 0x018) [4, 0, 0, 0]) = true
      ∧ frameWhole (mframe 0 (regOff .coll 0 0x018) [4, 0, 0, 0]) = true
      ∧ frameOff (mframe 0 (regOff .coll 0 0x018) [4, 0, 0, 0]) = regOff .coll 0 0x018
      ∧ after (exec (.mgmtWrite (mframe 0 (regOff .coll 0 0x018) [4, 0, 0, 0])) up) (fun t =>
        rf t .coll 0 0x018 3 0 = 4 && rg t .mgmt 0 0x100 = 1) = true := by decide +kernel

/-- A management transaction with tag 63. -/
def mgmtXact : State := { up with reg := { up.reg with xact := Xact.mk .opened .mgmt 63 false [] } }

theorem wit_mgmt_transactional :
    after (exec (.mgmtTransactionalWrite (mframe 0xBF (regOff .heat 0 0x048) [4, 0, 0, 0])) mgmtXact) (fun t =>
        t.reg.xact.coll = [(regOff .heat 0 0x048, 4)]) = true
      ∧ after (exec (.mgmtTransactionalWrite (mframe 0xBE (regOff .heat 0 0x048) [4, 0, 0, 0])) mgmtXact) (fun t =>
        t.reg.xact.coll = [] && rf t .heat 0 0x014 2 2 = 1) = true
      ∧ after (exec (.mgmtSetReadPointer (mframe 0x40 0x12340 [])) up) (fun t =>
        t.reg.readPtr = some 0x12340) = true := by decide +kernel

/-- The read pointer at a register. -/
def pointing (s : State) (off : Option Nat) : State := { s with reg := { s.reg with readPtr := off } }

theorem wit_mgmt_read :
    (0xB1 : Byte).toNat = mgmtAddr up + 1 ∧ plainRead up .mgmt .coll 0 0x004
      ∧ after (exec (.mgmtRead 0xB1) (pointing up (some (regOff .coll 0 0x004)))) (fun t =>
        t.reg.mgmtOut.take 5 = [0, 1, 0, 0, 0] && t.reg.readPtr = none && rg t .mgmt 0 0x104 = 1) = true
      ∧ after (exec (.mgmtRead 0xB1) up) (fun t => t.reg.mgmtOut.take 5 = [255, 255, 255, 255, 3]) = true
      ∧ after (exec (.mgmtReadTimeout 0xB1) (pointing up (some 0))) (fun t =>
        t.reg.mgmtOut.take 5 = [255, 255, 255, 255, 1]) = true
      ∧ after (exec .mgmtBusTimeout (pointing up (some 0))) (fun t => t.reg.readPtr = none) = true := by
  unfold plainRead; decide +kernel

/-- A device whose compute dies are in reset. -/
def early2 : State := { up with power := { up.power with stage := 2, diesReset := true } }

theorem wit_mgmt_read_blocked :
    pageBlocked early2 .grid 0 = true ∧ (regFields .grid 0x044).isEmpty = false
      ∧ after (exec (.mgmtRead 0xB1) (pointing early2 (some (regOff .grid 0 0x044)))) (fun t =>
        t.reg.mgmtOut.take 5 = [255, 255, 255, 255, 4]) = true := by decide +kernel

theorem wit_mgmt_discard :
    frameNacked [0xB0, 0xC0] = true ∧ frameWhole [0xB0, 0x00, 0x00] = false
      ∧ frameCrcOk ((mframe 0 0 [4, 0, 0, 0]).set 9 0) = false
      ∧ after (exec (.mgmtFrameDiscard [0xB0, 0xC0] false) up) (fun t => rg t .mgmt 0 0x110 = 1) = true
      ∧ after (exec (.mgmtFrameDiscard [0xB0, 0x00, 0x00] true) up) (fun t => rg t .mgmt 0 0x108 = 1) = true
      ∧ after (exec (.mgmtFrameDiscard ((mframe 0 0 [4, 0, 0, 0]).set 9 0) false) up) (fun t =>
        rg t .mgmt 0 0x10C = 1) = true := by decide +kernel

-- Clearing, warm and sag resets

/-- Registers read 0. -/
def zeroed (k : PageKind) (n : Nat) (offs : List Nat) (t : State) : Bool := offs.all fun o => rg t k n o = 0

/-- Counters of a page at 7. -/
def counted (k : PageKind) (n : Nat) (offs : List Nat) : State := offs.foldl (fun s o => rset s k n o 7) up

theorem wit_clears :
    after (exec (.numfClr .pcie) (counted .numf 0 [0x080, 0x0BC, 0x0C0])) (zeroed .numf 0 [0x080, 0x0BC, 0x0C0]) = true
      ∧ after (exec (.tierClr .pcie) (counted .tier 0 [0x500, 0x528])) (zeroed .tier 0 [0x500, 0x528]) = true
      ∧ after (exec (.collClr .pcie) (counted .coll 0 [0x100, 0x11C])) (zeroed .coll 0 [0x100, 0x11C]) = true
      ∧ after (exec (.tileClr .pcie 7) (counted .tile 7 [0x100, 0x114])) (zeroed .tile 7 [0x100, 0x114]) = true
      ∧ after (exec (.mgmtClr .mgmt) (counted .mgmt 0 [0x100, 0x118])) (zeroed .mgmt 0 [0x100, 0x118]) = true
      ∧ after (exec (.heatClr .pcie) (counted .heat 0 [0x100, 0x10C])) (zeroed .heat 0 [0x100, 0x10C]) = true
      ∧ after (exec (.powerClr .pcie) (counted .power 0 [0x100, 0x10C])) (zeroed .power 0 [0x100, 0x10C]) = true
      ∧ after (exec (.twinClr .pcie) (counted .twin 0 [0x100, 0x134])) (zeroed .twin 0 [0x100, 0x134]) = true := by
  decide +kernel

theorem wit_clears_more :
    after (exec (.eportClrCounters .pcie 1) (counted .eport 1 [0x200, 0x25C])) (zeroed .eport 1 [0x200, 0x25C]) = true
      ∧ after (exec (.linkClr .pcie 16) (counted .twinlink 0 [0x100, 0x124])) (zeroed .twinlink 0 [0x100, 0x124]) = true
      ∧ after (exec (.sprintClrCounters .pcie) (counted .sprint 0 [0x048, 0x05C, 0x10C, 0x4FC])) (zeroed .sprint 0 [0x048, 0x05C, 0x10C, 0x4FC]) = true
      ∧ after (exec (.attnClr .pcie) (counted .attn 0 [0x100, 0x17C])) (zeroed .attn 0 [0x100, 0x17C]) = true
      ∧ after (exec (.hostClr .pcie) { counted .host 0 [0x044] with host := { up.host with peak := 9 } }) (fun t =>
        rg t .host 0 0x044 = 0 && t.host.peak = 0) = true
      ∧ after (exec (.netClr .pcie 8) (counted .net 8 [0x400, 0x418, 0x114, 0x17C])) (zeroed .net 8 [0x400, 0x418, 0x114, 0x17C]) = true
      ∧ after (exec (.errorClr .pcie) { counted .error 0 [0x100, 0x110] with reg := logFull.reg }) (fun t =>
        t.reg.log = [] && rf t .error 0 0x044 8 8 = 0) = true := by decide +kernel

theorem wit_warm_reset :
    after (exec (.warmReset .pcie 0xA5) xfer) (fun t => t.power.diesReset && rf t .global 0 0x054 1 1 = 1
        && (mget t.tier.objs 2).map (·.state) = some 2 && t.heat.num = 5) = true
      ∧ after (exec (.warmReset .pcie 0xA4) up) (fun t => !t.power.diesReset) = true := by decide +kernel

theorem wit_sag_reset :
    bit up.power.offDies 7 = false
      ∧ after (exec (.sagReset 0x80) up) (fun t => t.power.diesReset && t.power.sagReset
        && rg t .power 0 0x104 = 1 && rf t .global 0 0x054 2 2 = 1) = true
      ∧ after (exec (.sagReset 0x80) { up with power := { up.power with diesReset := true } }) (fun t =>
        t.power.sagReset && rg t .power 0 0x104 = 1) = true := by decide +kernel

theorem wit_compute_ready :
    after (exec .sagResetRelease { up with power := { up.power with sagReset := true } }) (fun t =>
        !t.power.sagReset) = true
      ∧ after (exec .computeReady { up with power := { up.power with stage := 3, diesReset := true } }) (fun t =>
        !t.power.diesReset && 4 ≤ t.power.stage && rf t .clock 0 0x040 7 0 = 255) = true := by decide +kernel

-- Cold resets, start-up, supply, temperature and clocks

/-- The device with a worn block and an object. -/
def worn : State :=
  { up with tier := { up.tier with objs := [(1, obj1 2)], blocks := [(1, ⟨257, true, some 8⟩)] } }

theorem wit_cold_resets :
    ∀ c ∈ [Instr.resetNAssert, .railsOkFall, .vddFabLow],
      after (exec c worn) (fun t => !fabOn t && t.heat.num = 0 && t.tier.objs = []
        && rf t .global 0 0x054 0 0 = 1 && blockGet t 1 = ⟨257, true, none⟩ && t.ud.running) = true := by
  decide +kernel

/-- The device before RESET_N rises. -/
def dark : State := { up with power := { PowerSt.reset with sealVdd := true } }

theorem wit_reset_release :
    dark.power.stage = 0 ∧ dark.power.failed = false ∧ dark.power.tripped = false
      ∧ after (exec (.resetRelease 0x7F) dark) (fun t => fabOn t && t.power.straps = 0x3F
        && t.power.stage = 1 && !t.power.failed) = true
      ∧ after (exec (.resetRelease 0x08) dark) (fun t => t.power.failed && t.power.stage = 0) = true := by
  decide +kernel

/-- The device in a stage of its start-up. -/
def atStage (n : Nat) : State := { up with power := { up.power with stage := n } }

theorem wit_firmware_boot :
    imageOk Config.fusedKeyHash Config.fusedMinSvn [] = false
      ∧ after (exec (.firmwareBoot [] []) (atStage 1)) (fun t => t.power.failed && t.power.stage = 1) = true := by
  decide +kernel

theorem wit_training :
    after (exec (.memoryTrainingDone 0 0 0 5 16 32 3 6) (atStage 2)) (fun t => t.power.stage = 3
        && t.tier.t3Units = 5 && t.tier.rawBlocks = 32 && rf t .clock 0 0x040 21 12 = 1023
        && rg t .tier 0 0x054 = 14 && rg t .tier 0 0x058 = 3 && rf t .tier 0 0x044 0 0 = 0
        && (blockGet t 1).bad && (blockGet t 2).bad && !(blockGet t 0).bad) = true
      ∧ after (exec (.memoryTrainingDone 0x80 0 0 5 6 7 8 0) (atStage 2)) (fun t => t.power.failed) = true
      ∧ rf (atStage 3) .clock 0 0x040 7 7 = 0
      ∧ after (exec (.oarPllLockTimeout 7) (atStage 3)) (fun t => t.power.failed) = true := by decide +kernel

/-- Features 0 and 3 accepted, 0 alone offered. -/
def accepting : State :=
  rset { atStage 6 with power := { (atStage 6).power with offer := 1 } } .feature 0 0x050 9

theorem wit_feature_lock :
    locked accepting = false ∧ bit (rg accepting .feature 0 0x050) 0 = true
      ∧ after (exec (.featureLock .pcie) accepting) (fun t => locked t && rg t .feature 0 0x070 = 1) = true
      ∧ after (exec (.featureLock .pcie) (atStage 6)) (fun t => !locked t && rf t .feature 0 0x020 30 30 = 1)
        = true := by decide +kernel

/-- A stern at the twin stage. -/
def twinStage : State := { atStage 7 with power := { (atStage 7).power with straps := 0x18 } }

theorem wit_twin_stage :
    twinPresent twinStage = true ∧ (linkGet twinStage 16).state ≠ 3
      ∧ after (exec .twinStageTimeout twinStage) (fun t => t.twin.pair = 2 && 8 ≤ t.power.stage) = true := by
  decide +kernel

theorem wit_ports_up :
    epCfg (rset up .eport 1 0x040 1) 1 0 = true
      ∧ after (exec (.eportLinkUp 1) (rset (atStage 5) .eport 1 0x040 1)) (fun t => rf t .eport 1 0x044 0 0 = 1
        && rf t .clock 0 0x040 10 10 = 1) = true
      ∧ after (exec (.hostLinkUp 16 5) { up with host := { up.host with pba := [(16, 5)] } }) (fun t =>
        t.host.linkUp && t.host.width = 16 && t.host.vectors = [(16, 5)] && t.host.pba = []
        && rf t .clock 0 0x040 11 11 = 1) = true := by decide +kernel

theorem wit_sag_warning :
    up.power.sagWarnN = true
      ∧ after (exec (.sagWarning 0x80) up) (fun t => !t.power.sagWarnN && rg t .power 0 0x100 = 1) = true
      ∧ after (exec .sagWarningRelease { up with power := { up.power with sagWarnN := false } }) (fun t =>
        t.power.sagWarnN) = true := by decide +kernel

theorem wit_temperature :
    (∀ s ∈ [{ up with back := { up.back with slack := true } }], slotMay s 0 0 = true
      ∧ after (exec (.telemetrySampling [0, 0, 0, 0, 0, 0, 0, 0, 0x7FF] 9) s) (fun t => rg t .power 0 0x0A0 = 0x7FF
        && rf t .power 0 0x040 2 2 = 1 && mgetD t.back.last (actKey 0 0) 0 = 9) = true)
      ∧ after (exec (.telemetrySampling [0, 0, 0, 0, 0, 0, 0, 0, 0x7FF] 9) up) (fun t =>
        rg t .power 0 0x0A0 = rg up .power 0 0x0A0 && t.back = up.back) = true
      ∧ after (exec (.thermalTrip 9) up) (fun t => !fabOn t && t.power.tripped && t.ud.seq = up.ud.seq + 1) = true := by
  decide +kernel

/-- The device with every LOCK bit set. -/
def clocked : State := rset up .clock 0 0x040 0x13FFFFF

theorem wit_clock_loss :
    (∀ i ∈ [0, 7, 9, 10, 11, 12, 19, 20, 21, 24], rf clocked .clock 0 0x040 i i = 1
      ∧ after (exec (.clockLoss i) clocked) (fun t => rf t .clock 0 0x040 i i = 0
        && rf t .clock 0 0x044 i i = 1) = true)
      ∧ after (exec (.clockLoss 8) clocked) (fun t => !fabOn t) = true
      ∧ after (exec (.clockLoss 19) clocked) (fun t => chDown t 2 = 128) = true := by decide +kernel

theorem wit_copy_loss :
    after (exec (.clockLoss 25) { up with ud := { up.ud with copyValid := false } }) (fun t =>
        !t.heat.timeOk && t.heat.num = 5) = true
      ∧ after (exec .referenceReturn up) (fun t => rf t .clock 0 0x040 24 24 = 1) = true
      ∧ after (exec (.diePowerUpDone 7) { up with power := { up.power with offDies := 0xC0 } }) (fun t =>
        t.power.offDies = 0x40) = true := by decide +kernel

-- Twins

/-- The stern of a PAIRED pair that awaits the record of heat 4. -/
def awaiting : State :=
  { stern with twin := { stern.twin with awaiting := some 4, digests := [(4, ⟨1, 2, 3, 4, 5⟩)] } }

/-- The partner's record, and one with a part changed. -/
def record : DigestMsg := { tx := 0, heat := 4, nDec := 1, nSum := 2, dec := 3, sum := 4, cfg := 5 }

theorem wit_digest_equal :
    mget awaiting.twin.digests 4 = some ⟨1, 2, 3, 4, 5⟩ ∧ awaiting.twin.pair = 1
      ∧ after (exec (.digest record 9) awaiting) (fun t => rg t .twin 0 0x100 = 1 && t.twin.awaiting = none
        && !t.twin.fenceDue) = true := by decide +kernel

theorem wit_digest_differs :
    ∀ m ∈ [{ record with heat := 3 }, { record with cfg := 6 }, { record with dec := 6 },
        { record with sum := 6 }],
      after (exec (.digest m 9) awaiting) (fun t => t.twin.fenceDue && rf t .twin 0 0x044 6 6 = 1
        && rg t .twin 0 0x050 = 4) = true := by decide +kernel

theorem wit_digest_counts :
    ∀ m ∈ [{ record with nDec := 2 }, { record with nSum := 1, sum := 9 }],
      after (exec (.digest m 9) awaiting) (fun t => !t.twin.fenceDue && rf t .twin 0 0x044 6 6 = 1
        && rg t .twin 0 0x108 = 1) = true := by decide +kernel

theorem test_digest_early :
    let s := { stern with twin := { stern.twin with digests := [(4, ⟨1, 2, 3, 4, 5⟩)] } }
    after (exec (.digest record 9) s) (fun t => rg t .twin 0 0x100 = 0
      && after (exec .heatBoundary t) fun u => rg u .twin 0 0x100 = 1 && u.twin.awaiting = none) = true := by
  decide +kernel

theorem wit_digest_missing :
    after (exec .digestMissing awaiting) (fun t => t.twin.awaiting = none && rg t .twin 0 0x10C = 1) = true := by
  decide +kernel

/-- The token held in compare-before-emit since 1000. -/
def heldTok : Token := { built with phase := .heldCbe, cbeAt := 1000 }
def holding : State := comparing heldTok

theorem wit_cbe_equal :
    cbeActive holding = true
      ∧ (holding.sprint.tokens.find? fun x => x.phase = .heldCbe && tokenId x = tokenId heldTok) = some heldTok
      ∧ after (exec (.cbeDigest (tokenId heldTok) true 9 1360) holding) (fun t => tokenOf t 40 = none
        && (epGet t 0).egress.map (·.tmpl) = [1] && !t.twin.fenceDue) = true := by decide +kernel

theorem wit_cbe_differs :
    after (exec (.cbeDigest (tokenId heldTok) true 8 1360) holding) (fun t => tokenOf t 40 = none
        && (epGet t 0).egress = [] && t.twin.fenceDue && rg t .twin 0 0x110 = 1) = true
      ∧ after (exec (.cbeDigest (tokenId heldTok) false 9 1360) holding) (fun t => t.twin.fenceDue) = true := by
  decide +kernel

theorem wit_cbe_late :
    after (exec (.cbeLate (tokenId heldTok) 1360) holding) (fun t => tokenOf t 40 = none
        && rg t .twin 0 0x114 = 1 && !t.twin.fenceDue) = true
      ∧ after (exec (.cbeDigest (tokenId heldTok) true 9 1361) holding) (fun t => tokenOf t 40 = none
        && (epGet t 0).egress = [] && rg t .twin 0 0x118 = 1 && rg t .twin 0 0x11C = 1 && !t.twin.fenceDue) = true
      ∧ after (exec (.cbeTimeout 40 1360) holding) (fun t => tokenOf t 40 = none && rg t .twin 0 0x118 = 1)
        = true := by decide +kernel

theorem wit_cbe_early :
    (∀ x ∈ (comparing built).sprint.tokens, x.phase = .heldCbe → tokenId x ≠ tokenId heldTok)
      ∧ tokenId heldTok ∉ (comparing built).twin.cbeDone
      ∧ after (exec (.cbeDigest (tokenId heldTok) true 9 1360) (comparing built)) (fun t =>
        t.twin.cbeEarly = [(tokenId heldTok, some (true, 9))]) = true
      ∧ after (exec (.cbeLate (tokenId heldTok) 1360) { comparing built with
          twin := { (comparing built).twin with cbeDone := [tokenId heldTok] } }) (fun t =>
        rg t .twin 0 0x11C = 1) = true := by decide +kernel

/-- A stern in a state of its pair. -/
def inPair (n : Nat) : State := { stern with twin := { stern.twin with pair := n } }

theorem wit_detach :
    after (exec (.detach .pcie) (inPair 1)) (fun t => t.twin.pair = 1 && t.twin.detOwn) = true
      ∧ after (exec (.detach .pcie) (inPair 4)) (fun t => t.twin.pair = 2 && rg t .twin 0 0x12C = 1) = true
      ∧ after (exec (.unfence .pcie) (inPair 2)) (fun t => t.twin.unfOwn && t.twin.pair = 2) = true := by
  decide +kernel

/-- The twin that left, or the survivor, with one unit pair to copy. -/
def rejoining (left peer : Bool) : State :=
  let s := rset (inPair 2) .attn 0 0x044 2
  { s with
    twin := { s.twin with rePeer := peer, left := left, peerLeft := !left }
    links := [(16, { Link.reset with state := 3 })] }

theorem wit_reattach :
    resyncTotal (rejoining true true) ≠ 0 ∧ linkUp (linkGet (rejoining true true) 16) = true
      ∧ after (exec (.reattach .pcie) (rejoining true false)) (fun t => t.twin.pair = 2 && t.twin.reOwn) = true
      ∧ after (exec (.reattach .pcie) (rejoining true true)) (fun t => t.twin.pair = 3
        && t.twin.resync = resyncTotal t && !t.twin.returning) = true
      ∧ after (exec (.reattach .pcie) (rejoining false true)) (fun t => t.twin.pair = 2 && t.twin.returning)
        = true := by decide +kernel

theorem wit_control :
    isStern (inPair 1) = true
      ∧ after (exec (.control .detach true 0) (inPair 1)) (fun t => !t.twin.detPeer) = true
      ∧ after (exec (.control .detach false 0) (inPair 1)) (fun t => t.twin.detPeer) = true
      ∧ after (exec (.control .unfence false 0) (inPair 1)) (fun t => t.twin.unfPeer) = true
      ∧ after (exec (.control .reattach false 2) (rejoining true false)) (fun t => t.twin.rePeer) = true
      ∧ after (exec (.control .reattach false 1) (rejoining true false)) (fun t => !t.twin.rePeer
        && rf t .twin 0 0x020 30 30 = 1) = true := by decide +kernel

theorem wit_resync :
    (inPair 3).twin.pair = 3 ∧ (List.replicate unitSize (0 : Byte)).length = unitSize
      ∧ unitKey (1 = 1) 16383 ∉ (inPair 3).twin.copied
      ∧ unitKey (1 = 1) 16383 ∈ ({ inPair 3 with twin := { (inPair 3).twin with copied := [32767] } }).twin.copied := by
  refine ⟨by decide +kernel, List.length_replicate, by decide +kernel, by decide +kernel⟩

theorem wit_swap :
    after (exec (.swap [7]) (inPair 4)) (fun t => (setGet t 7).area && !(setGet t 6).area
      && (setGet t 7).liveFrom = 5) = true
      ∧ after (exec (.swap [7]) { inPair 1 with twin := { (inPair 1).twin with swapLast := true } }) (fun t =>
        (setGet t 7).area && !t.twin.swapLast) = true := by decide +kernel

/-- R391: the ARM that waited takes effect at pairing, and the pairing boundary's SWAP is still to come. -/
theorem test_pairing :
    after (exec .heatBoundary { inPair 4 with twin := { (inPair 4).twin with armAtPair := true } }) (fun t =>
      t.twin.pair = 1 && t.twin.swapLast && rf t .sprint 0 0x040 0 0 = 1) = true := by decide +kernel

/-- A device with links 0 and 1 up. -/
def peers (n : Nat) : State :=
  { up with
    links := [(0, { Link.reset with state := 3 }), (1, { Link.reset with state := 4 })]
    twin := { up.twin with badRow := n } }

theorem wit_peer_time :
    after (exec (.peerTimeRead [(0, 100, 102, 501)]) (peers 0)) (fun t => t.twin.offsets = [(0, 400)]
        && t.twin.badRow = 0 && !t.twin.adrift) = true
      ∧ after (exec (.peerTimeRead [(0, 100, 102, 502)]) (peers 1)) (fun t => t.twin.badRow = 2
        && !t.twin.adrift && rg t .twin 0 0x04C = 401) = true
      ∧ after (exec (.peerTimeRead [(0, 502, 502, 101)]) (peers 2)) (fun t => t.twin.adrift) = true
      ∧ peerOffsets (run (.peerTimeRead []) up) = [] := by decide +kernel

-- The seal

/-- The seal measuring, in a mode of its reference. -/
def sealing (mode : Nat) (f : SealSt → SealSt) : State :=
  { up with ud := f { up.ud with
      tstate := .unknown, config := toLE (1 + 256 * mode) 4 ++ List.replicate 252 0 } }

/-- A message of the tap. -/
def msg (type : Nat) : TapMsg := ⟨type, 3, 0, 5, 1, 100, 0, 7, 9, List.replicate 16 2⟩

/-- A record of 64 bytes. -/
def rec0 : List Byte := List.replicate 64 1

theorem wit_tap_message :
    after (exec (.tapMessage 50) (sealing 1 fun u => { u with wire := [msg 2] })) (fun t => t.ud.wire = []
        && t.ud.tap.map (fun m => (m.type, m.stampB)) = [(2, 50)]) = true
      ∧ (List.replicate 65536 (msg 2)).length = 65536 := by
  refine ⟨by decide +kernel, List.length_replicate⟩

theorem wit_record_formation :
    after (exec (.recordFormation 200) (sealing 1 fun u => { u with tap := [msg 2], lost := 0 })) (fun t =>
        t.ud.tap = [] && t.ud.opened.map List.length = [64] && t.ud.seq = up.ud.seq + 1) = true
      ∧ after (exec (.recordFormation 200) (sealing 1 fun u => { u with tap := [msg 1] })) (fun t =>
        t.ud.tap = [msg 1] && t.ud.opened = []) = true
      ∧ up.ud.lost = 0 ∧ up.ud.opened = [] := by decide +kernel

theorem wit_decision_record :
    after (exec (.recordFormation 200) (sealing 1 fun u => { u with tap := [msg 1], stamps0 := [150, 160] })) (fun t =>
      t.ud.tap = [] && t.ud.stamps0 = [160] && t.ud.opened.map (fun r => fld r 24 8) = [150]) = true := by
  decide +kernel

theorem wit_block_closes :
    (List.replicate 255 rec0).length = 255 ∧ up.ud.blocks.length < 4096
      ∧ after (exec (.blockAgeExpiry 40000005) (sealing 1 fun u => { u with opened := [rec0], openTime := 5 })) (fun t =>
        t.ud.opened = [] && t.ud.blockNo = up.ud.blockNo + 1) = true
      ∧ after (exec (.blockAgeExpiry 40000005) (sealing 1 id)) (fun t => t.ud.blockNo = up.ud.blockNo) = true := by
  decide +kernel

/-- A closed block of few bytes. -/
def block1 (signed : Bool) : LBlock := ⟨5, [1, 2, 3], signed⟩

/-- The ring of two slots of 16,640 bytes, empty. -/
def ring : State := rset (rset up .ledger 0 0x040 0x10000) .ledger 0 0x048 5

theorem wit_signed :
    (signFirst [block1 true, block1 false]).isSome = true ∧ ringTakes ring ∧ ¬ ringTakes up := by
  unfold ringTakes; decide +kernel

theorem wit_replay :
    after (exec (.ledgerReplay .pcie 0) { ring with ud := { ring.ud with blocks := [block1 true], replayLo := 5 } })
        (fun t => rdBytes t.host.mem 0x10000 4 = [1, 2, 3, 0] && rg t .ledger 0 0x04C = 1
          && rg t .ledger 0 0x100 = 1) = true
      ∧ after (exec (.ledgerReplay .pcie 1) { up with ud := { up.ud with blocks := [block1 true], replayLo := 5 } })
        (fun t => rg t .ledger 0 0x108 = 1 && t.host.mem = []) = true := by decide +kernel

theorem wit_summary :
    (sealing 1 id).ud.stepDue = none ∧ (sealing 1 id).ud.todDue = none
      ∧ after (exec (.summaryRecord 4000000000) (sealing 1 id)) (fun t => t.ud.ppsOut && t.ud.seq = up.ud.seq + 1)
        = true
      ∧ after (exec (.summaryRecord 3999999999) (sealing 1 id)) (fun t => !t.ud.ppsOut) = true
      ∧ after (exec .sealPpsOutFall (sealing 1 fun u => { u with ppsOut := true })) (fun t => !t.ud.ppsOut) = true := by
  decide +kernel

theorem wit_aggregate :
    after (exec (.aggregateReport 8000) { up with ports := { up.ports with
        aggs := [⟨1, 0, 1, 4000, 4100, 2⟩, ⟨1, 0, 2, 8000, 8000, 1⟩] } }) (fun t =>
      t.ports.aggs.map (·.win) = [2] && t.ud.wire.map (·.type) = [4]) = true := by decide +kernel

theorem wit_first_step :
    sealMode (sealing 1 id).ud = 1
      ∧ after (exec (.sealMeasurement 1000 300) (sealing 1 id)) (fun t => t.ud.tstate = .acquiring
        && t.ud.lastStep = 700 && !t.ud.copyValid && !t.heat.timeOk) = true := by decide +kernel

theorem wit_lock :
    after (exec (.sealMeasurement 1000 (-80)) (sealing 1 fun u => { u with tstate := .acquiring, goodRow := 63 }))
        (fun t => t.ud.tstate = .locked && t.ud.copyValid) = true
      ∧ after (exec (.sealMeasurement 1000 80) (sealing 1 fun u => { u with tstate := .acquiring, goodRow := 62 }))
        (fun t => t.ud.tstate = .acquiring && t.ud.goodRow = 63) = true := by decide +kernel

theorem wit_holdover :
    after (exec (.sealMeasurement 1000 4001) (sealing 1 fun u => { u with tstate := .locked })) (fun t =>
        t.ud.tstate = .holdover && t.ud.copyValid) = true
      ∧ after (exec (.sealMeasurement 1000 (-4001)) (sealing 1 fun u => { u with tstate := .holdover })) (fun t =>
        t.ud.tstate = .holdover && t.ud.stepDue = some 4001) = true
      ∧ after (exec (.sealMeasurement 1000 4000) (sealing 1 fun u => { u with tstate := .holdover, goodRow := 62 }))
        (fun t => t.ud.tstate = .holdover && t.ud.returned) = true
      ∧ after (exec (.referenceTimeout 9) (sealing 1 fun u => { u with tstate := .locked })) (fun t =>
        t.ud.tstate = .holdover) = true
      ∧ after (exec (.referenceTimeout 9) (sealing 1 fun u => { u with tstate := .holdover, returned := true }))
        (fun t => !t.ud.returned) = true
      ∧ after (exec (.sealMeasurement 1000 4001) (sealing 1 fun u =>
          { u with tstate := .acquiring, copyValid := false, goodRow := 63 })) (fun t =>
        t.ud.tstate = .acquiring && t.ud.goodRow = 0) = true := by decide +kernel

theorem wit_step_due :
    after (exec (.summaryRecord 4000000000) (sealing 1 fun u => { u with tstate := .holdover, stepDue := some (-5000) }))
        (fun t => t.ud.tstate = .acquiring && t.ud.lastStep = 3999995000) = true
      ∧ after (exec (.timeCopyValid 4000000007) (sealing 1 fun u =>
          { u with tstate := .acquiring, copyValid := false, lastStep := 7, okSince := true }))
        (fun t => t.ud.copyValid) = true := by decide +kernel

/-- A request of the service port with SEAL_SVC_N low or high. -/
def svc0 (low : Bool) : Svc := ⟨0x77, low, 4000000000⟩

theorem wit_tod :
    after (exec (.sealTod (svc0 false) 9) (sealing 1 id)) (fun t => rg t .seal 0 0x120 = 1
        && t.ud.replies.length = 1) = true
      ∧ after (exec (.sealTod (svc0 false) 9) (sealing 2 id)) (fun t => t.ud.todDue = some 9 && t.ud.secondsKnown)
        = true
      ∧ after (exec (.sealTod (svc0 false) 2) (sealing 2 fun u => { u with secondsKnown := true })) (fun t =>
        t.ud.todDue = none && rg t .seal 0 0x120 = 0) = true
      ∧ after (exec (.sealTod (svc0 false) 3) (sealing 0 fun u => { u with secondsKnown := true })) (fun t =>
        t.ud.todDue = none && rg t .seal 0 0x120 = 1) = true
      ∧ after (exec (.sealTod (svc0 true) 3) (sealing 0 fun u => { u with secondsKnown := true })) (fun t =>
        t.ud.todDue = some 3) = true
      ∧ after (exec (.sealTod (svc0 false) 9) (sealing 2 fun u => { u with secondsKnown := true, todDue := some 9 }))
        (fun t => t.ud.todDue = some 9 && rg t .seal 0 0x120 = 0) = true := by decide +kernel

theorem wit_reads :
    (sealing 1 id).ud.blocks.find? (fun b => b.number = 5 && b.signed) = none
      ∧ after (exec (.sealReadBlock (svc0 false) 5) (sealing 1 id)) (fun t =>
        t.ud.replies.map (fun r => (fld r 0 1, fld r 1 1, fld r 2 2, fld r 8 8)) = [(2, 1, 0x77, 5)]) = true
      ∧ after (exec (.sealStatus (svc0 false)) (sealing 1 id)) (fun t =>
        t.ud.replies.map (fun r => (fld r 0 1, r.length)) = [(1, 116)]) = true := by decide +kernel

/-- A signed block of full size. -/
def fullBlock : LBlock := ⟨6, List.replicate 16608 0, true⟩

theorem wit_read_block :
    [fullBlock].find? (fun b => b.number = 6 && b.signed) = some fullBlock ∧ fullBlock.bytes.length = 16608 := by
  exact ⟨rfl, List.length_replicate⟩

theorem wit_write_refused :
    after (exec (.sealFwChunk (svc0 false) 64 [1]) (sealing 1 fun u => { u with vcount := 0 })) (fun t =>
        t.ud.replies.map (fun r => (fld r 0 1, fld r 1 1, fld r 8 8)) = [(0x11, 2, 64)] && t.ud.staging = []) = true
      ∧ after (exec (.sealFwCommit (svc0 true)) (sealing 1 fun u => { u with vcount := 1024 })) (fun t =>
        t.ud.replies.map (fun r => (fld r 0 1, fld r 1 1)) = [(0x12, 3)]) = true := by decide +kernel

/-- The body of a configuration image of a VERSION byte. -/
def cfgBody (v : Nat) : List Byte := toLE v 4 ++ List.replicate 248 0

theorem leNat_toLE (n k : Nat) : leNat (toLE n k) = n % 256 ^ k := by
  induction k generalizing n with
  | zero => simp [toLE, leNat, Nat.mod_one]
  | succ k ih =>
    have h := Nat.mod_mul (x := n) (a := 256) (b := 256 ^ k)
    have e : 256 ^ (k + 1) = 256 * 256 ^ k := Nat.pow_succ'
    rw [toLE, leNat, ih, BitVec.toNat_ofNat, e]
    exact h.symm

theorem wit_write_config :
    configOk (sealing 1 id).ud (cfgBody 1 ++ toLE (crc32c (cfgBody 1)).toNat 4) = true
      ∧ configOk (sealing 1 id).ud (cfgBody 1) = false := by
  have hl := slice_append_left (cfgBody 1) (toLE (crc32c (cfgBody 1)).toNat 4)
  have hr := slice_append_right (cfgBody 1) (toLE (crc32c (cfgBody 1)).toNat 4)
  have hn : (cfgBody 1).length = 252 := by decide +kernel
  rw [toLE_length] at hr
  rw [hn] at hl hr
  have hb : (crc32c (cfgBody 1)).toNat % 256 ^ 4 = (crc32c (cfgBody 1)).toNat :=
    Nat.mod_eq_of_lt (crc32c (cfgBody 1)).isLt
  have hv : slice (cfgBody 1 ++ toLE (crc32c (cfgBody 1)).toNat 4) 0x50 16
      = slice (sealing 1 id).ud.config 0x50 16 := by
    rw [slice, List.drop_append_of_le_length (by rw [hn]; decide), List.take_append_of_le_length
      (by rw [List.length_drop, hn]; decide)]
    decide +kernel
  have h1 : fld (cfgBody 1 ++ toLE (crc32c (cfgBody 1)).toNat 4) 0 1 = 1 := by
    rw [fld, slice, List.drop_zero, List.take_append_of_le_length (by rw [hn]; decide)]
    decide +kernel
  refine ⟨?_, by decide +kernel⟩
  rw [configOk, h1, hv, hl, fld, hr, leNat_toLE, hb]
  simp [hn, toLE_length]

theorem wit_fw_chunk :
    after (exec (.sealFwChunk (svc0 true) 64 [1, 2]) (sealing 1 fun u => { u with vcount := 1023 })) (fun t =>
      rdBytes t.ud.staging 63 4 = [0, 1, 2, 0] && t.ud.vcount = 1023) = true := by decide +kernel

theorem wit_seal_resets :
    after (exec (.sealReset 9) (sealing 1 id)) (fun t => t.ud.inReset && !t.heat.timeOk && !t.power.sealResetN)
        = true
      ∧ after (exec (.sealVddLoss 9) (sealing 1 id)) (fun t => t.ud.inReset && !t.ud.running
        && t.ud.seq = up.ud.seq + 1) = true
      ∧ after (exec (.sealRestart 9 true) (sealing 1 fun u => { u with inReset := true, lostAtReset := 3 })) (fun t =>
        !t.ud.inReset && t.ud.tstate = .unknown && t.ud.seq = up.ud.seq + 2) = true
      ∧ after (exec (.sealRestart 9 true) { ring with ud := { ring.ud with inReset := true } }) (fun t =>
        rg t .ledger 0 0x048 = 0 && rg t .seal 0 0x110 = 1) = true := by decide +kernel

-- Background work

/-- An activity whose last slot was at 0, at a time that is late for every one. -/
def late : Time := deferral 0 + deferral 1 + deferral 2 + deferral 3 + deferral 4 + deferral 5 + deferral 6

theorem wit_overdue :
    (∀ a, a < 7 → mgetD up.back.last (actKey a 0) 0 + deferral a ≤ late ∧ activityArmed up a 0 = false)
      ∧ after (exec (.activityOverdue 6 0 late) up) (fun t => slotMay t 6 0 && t.now = late) = true := by
  decide +kernel

/-- The slack window is open; object 2 in T1 of die 0, object 1 in T2. -/
def slack : State := { xfer with back := { xfer.back with slack := true } }

theorem wit_t1_scrub :
    slotMay slack 2 0 = true ∧ slotMay up 2 0 = false ∧ dieStopped slack 0 = false
      ∧ objGet slack 0 2 = some (obj1 1)
      ∧ after (exec (.t1EccScrub 0 (some (at_ 2 5)) 9) slack) (fun t => (objGet t 0 2).map (·.state) = some 2
        && rf t .tier 0 0x020 30 30 = 1) = true
      ∧ after (exec (.t1EccScrub 0 (some (at_ 1 5)) 9) { slack with tile := { slack.tile with
          cache := [(0, [at_ 1 0, at_ 1 256])] } }) (fun t => mgetD t.tile.cache 0 [] = [at_ 1 256]
            && (objGet t 0 1).map (·.state) = some 0) = true := by decide +kernel

theorem wit_t2_scrub :
    slotMay slack 3 7 = true ∧ onChannels 2 (2 ^ 0) (uOff (at_ 1 0)) 1 = true
      ∧ after (exec (.t2EccScrub 7 (some (16 * 2 ^ 60)) 9) slack) (fun t => t.sprint.eccFence
        && rf t .tier 0 0x020 30 30 = 1) = true
      ∧ after (exec (.t2EccScrub 0 (some (at_ 1 0)) 9) slack) (fun t =>
        (objGet t 0 1).map (·.state) = some 2) = true := by decide +kernel

theorem wit_thermal_calibration :
    slotMay slack 4 7 = true
      ∧ after (exec (.thermalCalibration 7 9) slack) (fun t => mgetD t.back.last (actKey 4 7) 0 = 9) = true := by
  decide +kernel

-- Stated rules

theorem wit_blocked :
    (∀ k ∈ [PageKind.grid, .tile, .coll, .xact], pageBlocked early2 k 0 = (k == .grid || k == .tile))
      ∧ pageBlocked (atStage 1) .coll 0 = true ∧ pageBlocked (atStage 1) .global 0 = false
      ∧ plainRead early2 .pcie .grid 0 0x000
      ∧ after (exec (.loLatchRead .pcie (regOff .grid 7 0x044)) early2) (fun t => t.reg.pcieOut = 0xFFFFFFFF
        && rf t .grid 7 0x020 7 0 = 0x25 && rf t .grid 7 0x020 30 30 = 1) = true
      ∧ after (exec (.registerWrite .mgmt (regOff .grid 7 0x04C) 9) early2) (fun t => rg t .grid 7 0x04C
        = rg early2 .grid 7 0x04C && rf t .grid 7 0x020 7 0 = 0x25) = true
      ∧ after (exec (.mgmtWrite (mframe 0 (regOff .grid 7 0x04C) [9, 0, 0, 0])) early2) (fun t =>
        rg t .mgmt 0 0x100 = 1 && rf t .grid 7 0x020 7 0 = 0x25) = true
      ∧ after (exec (.mgmtTransactionalWrite (mframe 0x85 (regOff .grid 7 0x04C) [9, 0, 0, 0])) early2) (fun t =>
        rg t .mgmt 0 0x100 = 1 && rf t .grid 7 0x020 7 0 = 0x25) = true := by
  unfold plainRead; decide +kernel

/-- A committed transaction for heat 6. -/
def committed6 : State := aimed 6 fun x => { x with phase := .committed }

theorem wit_committed :
    ownsXact committed6 .pcie 5 = true ∧ xactTarget committed6 = committed6.heat.num + 1
      ∧ after (exec (.xactAbort .pcie 5) committed6) (fun t => t.reg.xact.phase = .idle) = true
      ∧ after (exec .heatBoundary committed6) (fun t => t.heat.num = 6 && t.reg.xact.phase = .idle) = true
      ∧ after (exec (.xactBegin .mgmt 1) committed6) (fun t => t.reg.xact.phase = .committed
        && rg t .xact 0 0x054 = 0x50) = true
      ∧ after (exec (.xactAbort .pcie 0) up) (fun t => t.reg.xact = up.reg.xact) = true := by decide +kernel

/-- A heat length in register units. -/
def lengthOf (n : Nat) : State := rset up .heat 0 0x048 n

theorem wit_slack_lengths :
    (heatLen (lengthOf 1000) = 4 * 1000 ∧ slackLen (lengthOf 1000) = 224)
      ∧ (heatLen (lengthOf 100000) = 4 * 100000 ∧ slackLen (lengthOf 100000) = 24992)
      ∧ (heatLen (lengthOf 1024000) = 4 * 1024000 ∧ slackLen (lengthOf 1024000) = 256000) := by decide +kernel

theorem wit_slack_window :
    slackLen (lengthOf 1000) = 224 ∧ up.heat.next = 24000000
      ∧ after (exec (.slackWindowOpen (24000000 - 1024)) (lengthOf 1000)) (fun t => slackOn t) = true
      ∧ after (exec (.slackWindowOpen (24000000 - 1025)) (lengthOf 1000)) (fun t => !slackOn t) = true
      ∧ after (exec (.slackWindowOpen (24000000 - 800)) (lengthOf 1000)) (fun t => !slackOn t) = true
      ∧ after (exec .holdWindowOpen { lengthOf 1000 with back := { up.back with slack := true } }) (fun t =>
        !slackOn t && t.heat.hold) = true := by decide +kernel

-- Well-formedness

/-- Operands within their ranges. -/
def hpkt0 : HPkt := { gpkt two 0 0 0 false 0 [] with cmd := 0 }
def far0 : Identity := farEnd 0 0
def dig0 : DigestMsg := ⟨0, 0, 0, 0, 0, 0, 0⟩
def tid0 : TokenId := tokenId x0
def svc1 : Svc := ⟨0, false, 0⟩

/-- Operands out of their ranges. -/
def badPkt : Pkt := { pkt0 with vc := 5 }
def badHpkt : HPkt := { hpkt0 with ctx := 4096 }
def badFar : Identity := { far0 with dev := 2048 }
def badDig : DigestMsg := { dig0 with nDec := 2 ^ 32 }
def badId : TokenId := { tid0 with msg := 32 }
def badSvc : Svc := { svc1 with reqid := 65536 }

theorem test_wf_operands :
    (pkt0.wf && hpkt0.wf && far0.wf && dig0.wf && tid0.wf && svc1.wf) = true
      ∧ (∀ p ∈ [{ pkt0 with dest := ⟨16, 0, 0, 0, 0⟩ }, { pkt0 with src := ⟨0, 16, 0, 0, 0⟩ },
          { pkt0 with dest := ⟨0, 0, 16, 0, 0⟩ }, { pkt0 with src := ⟨0, 0, 0, 16, 0⟩ },
          { pkt0 with dest := ⟨0, 0, 0, 0, 4096⟩ }, { pkt0 with cmd := 256 }, { pkt0 with crew := 32 },
          { pkt0 with status := 256 }, { pkt0 with heat := 65536 }, { pkt0 with tag := 65536 },
          { pkt0 with addr := 2 ^ 64 }, { pkt0 with arg := 2 ^ 64 }, { pkt0 with data := [1] },
          { pkt0 with data := List.replicate 288 0 }], p.wf = false)
      ∧ (∀ p ∈ [{ hpkt0 with dest := 2048 }, { hpkt0 with src := 2048 }, { hpkt0 with cmd := 256 },
          { hpkt0 with vc := 5 }, { hpkt0 with crew := 32 }, { hpkt0 with status := 256 },
          { hpkt0 with heat := 65536 }, { hpkt0 with tag := 65536 }, { hpkt0 with addr := 2 ^ 64 },
          { hpkt0 with arg := 2 ^ 64 }, { hpkt0 with data := [1] },
          { hpkt0 with data := List.replicate 288 0 }], p.wf = false)
      ∧ (∀ f ∈ [{ far0 with system := 2 ^ 32 }, { far0 with link := 17 }, { far0 with features := 2 ^ 128 },
          { far0 with stage := 16 }], f.wf = false)
      ∧ (∀ m ∈ [{ dig0 with heat := 2 ^ 64 }, { dig0 with nSum := 2 ^ 32 }, { dig0 with dec := 2 ^ 64 },
          { dig0 with sum := 2 ^ 64 }, { dig0 with cfg := 2 ^ 64 }], m.wf = false)
      ∧ (∀ i ∈ [{ tid0 with heat := 65536 }, { tid0 with port := 2 }, { tid0 with ordinal := 2 ^ 32 }],
        i.wf = false) := by decide +kernel

theorem test_ill_formed_1 :
    ∀ c ∈ [Instr.retiringSetRelease 4096 0, .cut (2 ^ 64) 0 0 0 0, .cut 0 (2 ^ 32) 0 0 0,
      .cut 0 0 (2 ^ 32) 0 0, .cut 0 0 0 (2 ^ 64) 0, .cut 0 0 0 0 (2 ^ 64), .frameIngress 2 0,
      .frameHeaderParse 2 [], .parserSkip 2, .parserLoad 2, .parserAlu 2, .parserField 2, .parserMeta 2,
      .parserBranch 2, .parserEmit 2 0, .parserEnd 2, .frameCheck 2 0 0, .sprintQueryForm (2 ^ 64),
      .sprintPartialCompute 4096 0 false 0 false, .sprintPartialCompute 0 (2 ^ 64) false 0 false,
      .sprintPartialCompute 0 0 false 16384 false, .sprintPartialReady 4096 0 false,
      .sprintPartialReady 0 (2 ^ 64) false, .sprintLayerComplete (2 ^ 64), .decisionBuild (2 ^ 64),
      .decisionReady (2 ^ 64) 0, .deadlinePass (2 ^ 64) 0, .egressStamp 2 0, .oarNop 8 0, .oarNop 0 2048,
      .oarMma 8 0, .oarMma 0 2048, .oarVec 8 0, .oarVec 0 2048, .oarSfn 8 0, .oarSfn 0 2048],
      c.wf = false := by decide +kernel

theorem test_ill_formed_2 :
    ∀ c ∈ [Instr.oarMove 8 0, .oarMove 0 2048, .oarLoop 8 0, .oarLoop 0 2048, .oarSync 8 0, .oarSync 0 2048,
      .oarSetcr 8 0, .oarSetcr 0 2048, .oarCond 8 0, .oarCond 0 2048, .oarSeat 8 0, .oarSeat 0 2048,
      .oarHalt 8 0, .oarHalt 0 2048, .oarUnitDone 8 0 0 false, .oarUnitDone 0 2048 0 false,
      .oarUnitDone 0 0 4 false, .steeringMove 8 0 0, .steeringMove 0 256 0, .steeringMove 0 0 16,
      .seatImageArrival 8 0, .seatImageArrival 0 2048, .seatSwitch 8 0, .seatSwitch 0 256,
      .watchdogExpiry 8 0, .watchdogExpiry 0 256, .drain .pcie 8, .drainComplete 8, .drainTimeout 8,
      .resume .pcie 8, .snap .pcie 8, .gridClr .pcie 8, .creditReturn 8 0 0, .creditReturn 0 2048 0,
      .creditReturn 0 0 4, .xferUnit 8 0 false],
      c.wf = false := by decide +kernel

theorem test_ill_formed_3 :
    ∀ c ∈ [Instr.xferUnit 0 64 false, .storeUnit 8 0, .storeUnit 0 64, .cacheLineFill 8 0 0,
      .cacheLineFill 0 16 0, .cacheLineFill 0 0 (2 ^ 60), .tileClr .pcie 8, .passStart 8 0,
      .passStart 0 256, .passComplete 8 0, .passComplete 0 256, .probabilityTileWrite 8 0,
      .probabilityTileWrite 0 256, .walkComplete 8 0 0, .walkComplete 0 256 0, .walkComplete 0 0 (2 ^ 48),
      .migrationCopyDone 4096, .sourceRelease 16 0, .sourceRelease 0 (2 ^ 20), .tierTimerExpiry 4096,
      .tierReply 4096 false 0 false, .tierReply 0 true (2 ^ 32) false, .channelOutOfService 1 0, .channelOutOfService 5 0,
      .channelOutOfService 2 32, .meshHop 9 0 0 0 0, .meshHop 0 257 0 0 0, .meshHop 0 0 5 0 0,
      .meshHop 0 0 0 5 0, .meshHop 0 0 0 0 20, .ringHop 9 false 0 false 0, .ringHop 0 false 5 false 0,
      .ringHop 0 false 0 false 20, .linkCreditReturn (2 ^ 32), .qdata badPkt, .qend badPkt],
      c.wf = false := by decide +kernel

theorem test_ill_formed_4 :
    ∀ c ∈ [Instr.rdReq none badPkt, .rdResp badPkt, .wrReq none badPkt, .wrAck badPkt, .regRd badPkt,
      .regRdResp badPkt, .regWr badPkt, .regWrAck badPkt, .sprintPacket badHpkt, .collPacket badHpkt,
      .xchgPacket badHpkt, .faultNotice badPkt, .errResp badPkt, .netTimeout 9 0, .netTimeout 0 (2 ^ 16),
      .tagQuarantineEnd 9 0, .tagQuarantineEnd 0 (2 ^ 16), .domainWake 8 0, .domainWake 0 256,
      .domainSleep 8 0, .domainSleep 0 256, .netClr .pcie 9, .henacFrameSend 17,
      .henacFrameReceive 17 [] [], .linkEnable .pcie 17, .retrain .pcie 17,
      .receiverAdaptationDone 17 false 0, .receiverAdaptationDone 0 false 8, .frameLock 17,
      .identityExchange 17 far0 0, .identityExchange 0 badFar 0, .identityExchange 0 far0 8,
      .recalibration 17 0, .recalibrationEnd 17 false, .linkClr .pcie 17, .groupWrite 4096],
      c.wf = false := by decide +kernel

theorem test_ill_formed_5 :
    ∀ c ∈ [Instr.sumRoot 4096, .sumAll 4096, .bcast 4096, .barrier 4096, .xchgEq 4096, .xchgCounts 4096,
      .xchgPad 4096, .rotate 4096, .treeOpStart 4096, .collAbort badHpkt,
      .collTimerExpiry 4096, .sqDoorbell 16 0 0, .sqDoorbell 0 8 0,
      .sqDoorbell 0 0 (2 ^ 32), .cqDoorbell 16 0 0, .cqDoorbell 0 8 0, .cqDoorbell 0 0 (2 ^ 32),
      .commandFetch [] false, .waitMet 4096, .completionWrite 4096, .progStart 4096, .xfer 4096,
      .attn 4096, .alloc 4096, .free 4096, .migrate 4096, .tierCopy 4096, .sprintWrite 4096,
      .sprintReady 4096, .boltInval 4096, .hostCopy 4096 [], .readoutLoad 4096, .streamOpen 4096,
      .streamAdv 4096],
      c.wf = false := by decide +kernel

theorem test_ill_formed_6 :
    ∀ c ∈ [Instr.streamClose 4096, .ctrSet 4096, .ctrAdd 4096, .ctrRead 4096, .nopCommand 4096,
      .tableLoad 4096, .functionLevelReset 16, .crewReset .pcie (2 ^ 16), .crewResetFinish 16,
      .crewResetForce 16, .scrub .pcie (2 ^ 16), .registerWrite .pcie (2 ^ 25) 0,
      .unmappedAccess .pcie false (2 ^ 25), .loLatchRead .pcie (2 ^ 25), .xactBegin .pcie 64,
      .xactCommit .pcie 64, .xactAbort .pcie 64, .eportClrCounters .pcie 2, .resetRelease (2 ^ 16),
      .sagWarning (2 ^ 9), .sagReset (2 ^ 8), .telemetrySampling [0] 0, .loomWearLevelling 0 0 32 0,
      .loomReadDisturbRefresh 0 0 0 0 32 0,
      .telemetrySampling [0, 0, 0, 0, 0, 0, 0, 0, 4096] 0, .clockLoss 26, .clockLoss 22, .clockLoss 23,
      .diePowerUpDone 8, .memoryTrainingDone (2 ^ 8) 0 0 0 0 0 0 0,
      .memoryTrainingDone 0 (2 ^ 8) 0 0 0 0 0 0, .memoryTrainingDone 0 0 (2 ^ 32) 0 0 0 0 0,
      .memoryTrainingDone 0 0 0 (2 ^ 25 + 1) 0 0 0 0, .memoryTrainingDone 0 0 0 0 (2 ^ 30 + 1) 0 0 0,
      .memoryTrainingDone 0 0 0 0 0 8 2 0, .memoryTrainingDone 0 0 0 0 0 8 0 256,
      .digest badDig 0, .cbeDigest badId false 0 0, .cbeLate badId 0, .cbeTimeout (2 ^ 64) 0],
      c.wf = false := by decide +kernel

theorem test_ill_formed_7 :
    ∀ c ∈ [Instr.swap [4096], .control .detach false 17, .resyncUnit 2 0 0 0 0 0 (List.replicate 34816 0),
      .resyncUnit 0 16384 0 0 0 0 (List.replicate 34816 0),
      .resyncUnit 0 0 4097 0 0 0 (List.replicate 34816 0), .resyncUnit 0 0 0 4 0 0 (List.replicate 34816 0),
      .resyncUnit 0 0 0 0 1024 0 (List.replicate 34816 0), .resyncUnit 0 0 0 0 0 8 (List.replicate 34816 0),
      .resyncUnit 0 0 0 0 0 0 [], .sealStatus badSvc, .sealReadBlock badSvc 0, .sealReadBlock svc1 (2 ^ 64),
      .sealReadKey badSvc, .sealWriteConfig badSvc (List.replicate 256 0), .sealWriteConfig svc1 [],
      .sealFwChunk badSvc 0 [], .sealFwChunk svc1 (2 ^ 32) [], .sealFwChunk svc1 0 (List.replicate 1401 0),
      .sealFwCommit badSvc, .sealTod badSvc 0, .sealTod svc1 (2 ^ 48), .activityOverdue 0 0 0,
      .activityOverdue 5 0 0, .activityOverdue 1 4096 0, .t1EccScrub 8 none 0, .t2EccScrub 8 none 0,
      .thermalCalibration 9 0, .eportLinkUp 2, .hostLinkUp 32 0, .hostLinkUp 0 16, .oarPllLockTimeout 8],
      c.wf = false := by decide +kernel

end Sys2Proof.Tests
end

section
/-!
SUPPORT. Where a register stands, the accesses while the fabric die runs, and what recording an error
does to the registers.
-/
namespace Sys2Proof.Machine
open Sys2Proof

theorem pageBase_mod (k : PageKind) (n : Nat) : pageBase k n % 4096 = 0 := by
  have h : (pageInfo k).1 % 4096 = 0 := by cases k <;> rfl
  simp only [pageBase]
  omega

theorem regOff_mod (k : PageKind) (n : Nat) {o : Nat} (h : o < 4096) : regOff k n o % 4096 = o := by
  have := pageBase_mod k n
  simp only [regOff]
  omega

theorem regOff_div (k : PageKind) (n : Nat) {o : Nat} (h : o < 4096) :
    regOff k n o / 4096 = (pageInfo k).1 / 4096 + n := by
  have : (pageInfo k).1 % 4096 = 0 := by cases k <;> rfl
  simp only [regOff, pageBase]
  omega

theorem pageAt_of_lt (k : PageKind) {n : Nat} (h : n < (pageInfo k).2.1) :
    pageAt ((pageInfo k).1 / 4096 + n) = some k := by
  revert n h
  cases k <;> decide

theorem pageOfOff_regOff {k : PageKind} {n o : Nat} (hn : n < (pageInfo k).2.1) (ho : o < 4096) :
    pageOfOff (regOff k n o) = some (k, n) := by
  simp [pageOfOff, regOff_div k n ho, pageAt_of_lt k hn]

theorem regOff_of_pageOfOff {off n : Nat} {k : PageKind} (h : pageOfOff off = some (k, n)) :
    regOff k n (off % 4096) = off := by
  simp only [pageOfOff, Option.map_eq_some_iff, Prod.mk.injEq] at h
  obtain ⟨k', hk, rfl, rfl⟩ := h
  have hm := pageBase_mod k' 0
  have hb : (pageInfo k').1 / 4096 ≤ off / 4096 := by
    have hfound := List.find?_some hk
    simp only [Bool.and_eq_true, decide_eq_true_eq] at hfound
    exact hfound.1
  simp only [regOff, pageBase] at hm ⊢
  omega

theorem regOff_ne_of_offset {k k' : PageKind} {n n' o o' : Nat} (ho : o < 4096) (ho' : o' < 4096)
    (h : o ≠ o') : regOff k n o ≠ regOff k' n' o' := fun e =>
  h (by rw [← regOff_mod k n ho, e, regOff_mod k' n' ho'])

/-- A command of the fabric die has its effect while the die runs. -/
theorem fab_on {s : State} (h : fabOn s = true) (f : State → State) : fab s f = .next (f s) := by
  simp [fab, h]

-- The commands of this family while the fabric die runs

theorem exec_loLatchRead_pcie {s : State} (h : fabOn s = true) (off : Nat) :
    exec (.loLatchRead .pcie off) s = .next (pcieRead s off) := fab_on h fun s => pcieRead s off

theorem exec_registerWrite {s : State} (h : fabOn s = true) (p : Port) (off : Nat) (v : Word) :
    exec (.registerWrite p off v) s = .next (serveWrite s p none off v) :=
  fab_on h fun s => serveWrite s p none off v

theorem exec_mgmtWrite {s : State} (h : fabOn s = true) (f : List Byte) :
    exec (.mgmtWrite f) s = .next (mgmtCommit s 0 none f) := fab_on h fun s => mgmtCommit s 0 none f

theorem exec_mgmtTransactionalWrite {s : State} (h : fabOn s = true) (f : List Byte) :
    exec (.mgmtTransactionalWrite f) s = .next (mgmtCommit s 2 (some (frameTag f)) f) :=
  fab_on h fun s => mgmtCommit s 2 (some (frameTag f)) f

-- Recording an error

/-- The first step of `recordErr`: HERR_CODE and HERR_ADDR where no error stood, MULTI where one did. -/
def herrWrite (s : State) (k : PageKind) (n code addr : Nat) : State :=
  if rf s k n 0x020 30 30 = 0 then
    rset (rset (rset s k n 0x020 (code % 256 + 2 ^ 30 + 2 ^ 31 * rf s k n 0x020 31 31)) k n 0x024
      (addr % 2 ^ 32)) k n 0x028 (addr / 2 ^ 32)
  else rput s k n 0x020 31 31 1

/-- The middle of `recordErr`: the log and the scope counter. -/
def errLogged (s : State) (k : PageKind) (n code addr crew : Nat) : State :=
  let s := herrWrite s k n code addr
  countScope (logErr s ⟨code, scopeOf code, crew, pageBase k n / 4096, addr, s.now⟩) code

/-- The end of `recordErr` but for the interrupt: the seal record and the fence of INTERNAL_ECC. -/
def errSignalled (s : State) (code : Nat) : State :=
  let s := if 2 ≤ scopeOf code then tapSend s (tapPlain 0x10 3 code) else s
  if code = 0x40 then { s with sprint := { s.sprint with eccFence := true } } else s

theorem recordErr_eq (s : State) (k : PageKind) (n code addr crew : Nat) :
    recordErr s k n code addr crew
      = irqRaise (errSignalled (errLogged s k n code addr crew) code) k n 1 := rfl

@[simp] theorem errSignalled_regs (s : State) (code : Nat) : (errSignalled s code).regs = s.regs := by
  simp [errSignalled]

@[simp] theorem errSignalled_reg (s : State) (code : Nat) : (errSignalled s code).reg = s.reg := by
  simp [errSignalled]

@[simp] theorem irqRaise_regs (s : State) (k : PageKind) (n mask : Nat) :
    (irqRaise s k n mask).regs = regSet s.regs (regOff k n 0x014)
      (putBits (rg s k n 0x014) 3 0 (rf s k n 0x014 3 0 ||| mask)) := by
  simp only [irqRaise, ite_regs, irqSend_frame, ite_self]
  rfl

theorem scopeOf_le (code : Nat) : scopeOf code ≤ 3 := by
  unfold scopeOf
  repeat' split
  all_goals omega

/-- The log's overflow bit and the scope counters stand on the ERROR page. -/
theorem regGet_countScope_logErr (s : State) (e : ErrEntry) (code : Nat) {off : Nat}
    (h : off / 4096 ≠ 6 ∨ off % 4096 < 0x40) :
    regGet (countScope (logErr s e) code).regs off = regGet s.regs off := by
  have hs := scopeOf_le code
  have hc : off ≠ regOff .error 0 (0x100 + 4 * scopeOf code) := by
    simp only [regOff, pageBase, pageInfo]; omega
  have ho : off ≠ regOff .error 0 0x044 := by
    simp only [regOff, pageBase, pageInfo]; omega
  rw [countScope, bumpC_regs, regGet_regSet_ne _ _ hc, logErr]
  split
  · rfl
  · exact regGet_regSet_ne _ _ ho

theorem herrWrite_regGet_ne (s : State) (k : PageKind) (n code addr : Nat) {off : Nat}
    (h20 : off ≠ regOff k n 0x020) (h24 : off ≠ regOff k n 0x024) (h28 : off ≠ regOff k n 0x028) :
    regGet (herrWrite s k n code addr).regs off = regGet s.regs off := by
  unfold herrWrite
  split
  · simp only [rset_regs]
    rw [regGet_regSet_ne _ _ h28, regGet_regSet_ne _ _ h24, regGet_regSet_ne _ _ h20]
  · exact regGet_regSet_ne _ _ h20

/-- Recording an error changes page headers and the ERROR page only. -/
theorem regGet_recordErr_ne (s : State) (k : PageKind) (n code addr crew : Nat) {off : Nat}
    (ho : 0x40 ≤ off % 4096) (he : off / 4096 ≠ 6) :
    regGet (recordErr s k n code addr crew).regs off = regGet s.regs off := by
  have ne : ∀ {o}, o < 0x40 → off ≠ regOff k n o := fun {o} h eq => by
    have := regOff_mod k n (show o < 4096 by omega)
    omega
  rw [recordErr_eq, irqRaise_regs, regGet_regSet_ne _ _ (ne (by decide)),
    errSignalled_regs, errLogged, regGet_countScope_logErr _ _ _ (.inl he),
    herrWrite_regGet_ne _ _ _ _ _ (ne (by decide)) (ne (by decide)) (ne (by decide))]

/-- HERR_CODE after an error is recorded. -/
theorem rg_recordErr_herrCode (s : State) (k : PageKind) (n code addr crew : Nat) :
    rg (recordErr s k n code addr crew) k n 0x020 =
      (if rf s k n 0x020 30 30 = 0 then code % 256 + 2 ^ 30 + 2 ^ 31 * rf s k n 0x020 31 31
        else putBits (rg s k n 0x020) 31 31 1) % 2 ^ 32 := by
  have hm := regOff_mod k n (show 0x020 < 4096 by decide)
  rw [rg, recordErr_eq, irqRaise_regs, regGet_regSet_ne _ _ (by simp), errSignalled_regs, errLogged,
    regGet_countScope_logErr _ _ _ (.inr (by omega))]
  unfold herrWrite
  split
  · simp only [rset_regs]
    rw [regGet_regSet_ne _ _ (by simp), regGet_regSet_ne _ _ (by simp), regGet_regSet_same]
  · exact regGet_regSet_same _ _ _

/-- Recording an error raises ERR in HIRQ_RAW. -/
theorem rf_recordErr_irqErr (s : State) (k : PageKind) (n code addr crew : Nat) :
    rf (recordErr s k n code addr crew) k n 0x014 0 0 = 1 := by
  have odd (x : Nat) : (x ||| 1) % 2 = 1 := by simp
  simp only [rf, rg, recordErr_eq, irqRaise_regs, regGet_regSet_same, bits_mod_word _ 0 0 (by decide)]
  simp only [bits, putBits]
  generalize regGet _ _ = w
  have := odd (w / 2 ^ 0 % 2 ^ (3 + 1 - 0))
  omega

/-- VALID stands after an error is recorded, with its code where no error stood before. -/
theorem recordErr_unitOff (s : State) (k : PageKind) (n addr crew : Nat) :
    unitOffRecorded s (recordErr s k n 0x25 addr crew) k n := by
  refine ⟨?_, fun h0 => ?_, rf_recordErr_irqErr ..⟩
  · rw [rf, rg_recordErr_herrCode, bits_mod_word _ _ _ (by decide)]
    split
    · simp only [bits]; omega
    · rename_i h
      simp only [rf, bits, putBits] at h ⊢
      omega
  · rw [rf, rg_recordErr_herrCode, bits_mod_word _ _ _ (by decide), if_pos h0]
    simp only [bits]
    omega

@[simp] theorem recordErr_access (s : State) (k : PageKind) (n code addr crew : Nat) :
    (recordErr s k n code addr crew).reg.xact = s.reg.xact ∧
    (recordErr s k n code addr crew).reg.shadows = s.reg.shadows := by
  have log : ∀ (u : State) e, (logErr u e).reg.xact = u.reg.xact ∧
      (logErr u e).reg.shadows = u.reg.shadows := fun u e => by
    unfold logErr
    split <;> simp
  simp only [recordErr_eq, irqRaise_frame, errSignalled_reg, errLogged, countScope_frame, log, herrWrite]
  simp

theorem sameMemories_recordErr (s : State) (k : PageKind) (n code addr crew : Nat) :
    SameMemories s (recordErr s k n code addr crew) := by
  simp [SameMemories, SameSprintBytes, SameTableBytes, SameDataBytes, SameBytes]

/-- UNIT_OFF as recorded looks at HERR_CODE and HIRQ_RAW of its page only. -/
theorem unitOffRecorded_congr {s s' t t' : State} {k : PageKind} {n : Nat}
    (hs : rg s' k n 0x020 = rg s k n 0x020) (ht : rg t' k n 0x020 = rg t k n 0x020)
    (hr : rg t' k n 0x014 = rg t k n 0x014) (h : unitOffRecorded s t k n) :
    unitOffRecorded s' t' k n := by
  simpa only [unitOffRecorded, rf, hs, ht, hr] using h

/-- A counter of any page stands apart from every page header. -/
theorem rg_bumpC_header (s : State) (k k' : PageKind) {n n' o j : Nat} (ho : o < 0x40) (hj : j < 16) :
    rg (bumpC s k n j) k' n' o = rg s k' n' o := by
  rw [rg, bumpC_regs]
  exact regGet_regSet_ne _ _ (regOff_ne_of_offset (by omega) (by omega) (by omega))

end Sys2Proof.Machine
end

section
/-!
PROOFS. Blocked pages (R307): O58.
-/
namespace Sys2Proof.Machine
open Sys2Proof

theorem readMask_hstatus (k : PageKind) : readMask k 0x010 = 3 := rfl

/-- HSTATUS shows READY in bit 0 and OFF in bit 1 (R304). -/
theorem regWord_hstatus (s : State) (k : PageKind) (n : Nat) : regWord s k n 0x010
    = b2n (pageReady s k n && !pageOff s k n) + 2 * b2n (pageOff s k n) := by
  rw [regWord, readMask_hstatus]
  show (b2n (pageReady s k n && !pageOff s k n) + 2 * b2n (pageOff s k n)) &&& 3 = _
  cases pageReady s k n <;> cases pageOff s k n <;> rfl

theorem pageBlocked_iff_hstatus (s : State) (k : PageKind) (n : Nat) : pageBlocked s k n = true ↔
    bit (regWord s k n 0x010) 1 = true ∨ bit (regWord s k n 0x010) 0 = false := by
  rw [regWord_hstatus, pageBlocked]
  cases pageReady s k n <;> cases pageOff s k n <;> decide

theorem pageBlocked_global {s : State} (h : fabOn s = true) : pageBlocked s .global 0 = false := by
  simp only [fabOn, Bool.and_eq_true, Bool.or_eq_true, decide_eq_true_eq] at h
  obtain ⟨-, hstage | hfailed⟩ := h
  · simp [pageBlocked, pageOff, pageReady, stageGe, hstage]
  · simp [pageBlocked, pageOff, pageReady, hfailed]

theorem pageBlocked_of_stage {s : State} {k : PageKind} (n : Nat) (h : s.power.stage < 2)
    (hk : k ≠ .global) : pageBlocked s k n = true := by
  have hr : pageReady s k n = false := by
    have : ¬ 2 ≤ s.power.stage := by omega
    cases k <;> simp_all [pageReady, stageGe]
  simp [pageBlocked, hr]

/-- The pages of a compute die that is off, or held in reset (R307, R361). -/
theorem pageBlocked_of_die {s : State} {d : Nat} (hd : d < 8)
    (h : bit s.power.offDies d = true ∨ s.power.diesReset = true) :
    pageBlocked s .grid d = true ∧ pageBlocked s .tile d = true ∧ pageBlocked s .net d = true := by
  have stopped : dieStopped s d = true := by
    rcases h with h | h <;> simp [dieStopped, h]
  have hd8 : d ≠ 8 := by omega
  simp [pageBlocked, pageReady, stopped, hd8]

theorem pageBlocked_attn_of_reset {s : State} (h : s.power.diesReset = true) :
    pageBlocked s .attn 0 = true := by
  simp [pageBlocked, pageReady, h]

-- Accesses

/-- A page header's registers are words. -/
theorem readMask_header_lt (k : PageKind) {o : Nat} (ho : o < 0x40) : readMask k o < 2 ^ 32 := by
  have fits : ∀ f ∈ headerFields, f.hi < 32 := by decide
  have mask (f : Field) (m : Nat) (hf : f.hi < 32) (hm : m < 2 ^ 32) :
      (if f.acc = .wo then m else m ||| (2 ^ (f.hi + 1) - 2 ^ f.lo)) < 2 ^ 32 := by
    have : 2 ^ (f.hi + 1) ≤ 2 ^ 32 := Nat.pow_le_pow_right (by decide) hf
    have := Nat.two_pow_pos f.lo
    split
    · exact hm
    · exact Nat.or_lt_two_pow hm (by omega)
  rw [readMask, regFields, if_pos ho]
  refine List.foldlRecOn (motive := (· < 2 ^ 32)) _ _ (by decide) fun m hm f hf => ?_
  exact mask f m (fits f (List.mem_filter.1 hf).1) hm

theorem regWord_header_lt (s : State) (k : PageKind) (n : Nat) {o : Nat} (ho : o < 0x40) :
    regWord s k n o < 2 ^ 32 := Nat.and_lt_two_pow _ (readMask_header_lt k ho)

theorem serveRead_plain {s : State} {p : Port} {k : PageKind} {n o : Nat}
    (h : plainRead s p k n o) : serveRead s p (regOff k n o) = (regWord s k n o, false, s) := by
  obtain ⟨hpage, ho, hreg, hopen, htbl, hpair, hlatch⟩ := h
  have hblk : (decide (0x40 ≤ o) && pageBlocked s k n) = false := by
    rcases hopen with h | h <;> simp [h]
  have htbl : ¬ (k = .parse ∧ o = 0x044) := fun h => htbl h.1 h.2
  simp [serveRead, hpage, regOff_mod k n ho, hreg, hblk, htbl, hpair, hlatch]

@[simp] theorem pcieRead_pcieOut (s : State) (off : Nat) :
    (pcieRead s off).reg.pcieOut = BitVec.ofNat 32 (serveRead s .pcie off).1 := rfl

@[simp] theorem pcieRead_regs (s : State) (off : Nat) :
    (pcieRead s off).regs = (serveRead s .pcie off).2.2.regs := rfl

section
variable {s : State} {k : PageKind} {n o : Nat}

/-- A block register of a blocked page (R307). -/
def BlockedRegister (s : State) (k : PageKind) (n o : Nat) : Prop :=
  n < (pageInfo k).2.1 ∧ o < 0x1000 ∧ (regFields k o).isEmpty = false ∧ 0x40 ≤ o
    ∧ pageBlocked s k n = true

theorem serveRead_blocked (h : BlockedRegister s k n o) (p : Port) :
    serveRead s p (regOff k n o) = (2 ^ 32 - 1, true, recordErr s k n 0x25 (regOff k n o)) := by
  obtain ⟨hn, ho, hreg, hblock, hoff⟩ := h
  simp [serveRead, pageOfOff_regOff hn ho, regOff_mod k n ho, hreg, hblock, hoff]

theorem serveWrite_blocked (h : BlockedRegister s k n o) (p : Port) (ow : Option Nat) (v : Word) :
    serveWrite s p ow (regOff k n o) v = recordErr s k n 0x25 (regOff k n o) := by
  obtain ⟨hn, ho, hreg, hblock, hoff⟩ := h
  simp [serveWrite, atPage, pageOfOff_regOff hn ho, regOff_mod k n ho, hreg, hblock, hoff]

theorem pcieRead_blocked (h : BlockedRegister s k n o) :
    (pcieRead s (regOff k n o)).reg.pcieOut.toNat = 2 ^ 32 - 1
      ∧ unitOffRecorded s (pcieRead s (regOff k n o)) k n := by
  refine ⟨by rw [pcieRead_pcieOut, serveRead_blocked h]; rfl, ?_⟩
  have hr : (pcieRead s (regOff k n o)).regs = (recordErr s k n 0x25 (regOff k n o)).regs := by
    rw [pcieRead_regs, serveRead_blocked h]
  refine unitOffRecorded_congr rfl ?_ ?_ (recordErr_unitOff s k n (regOff k n o) noCrew)
  all_goals rw [rg, hr]; rfl

/-- A management read of a blocked register answers 0xFF bytes with status 4 (R307, R321). -/
theorem mgmtRead_blocked (hon : fabOn s = true) (h : BlockedRegister s k n o) {addr : Byte}
    (ha : addr.toNat = mgmtAddr s + 1) (hp : s.reg.readPtr = some (regOff k n o)) :
    exec (.mgmtRead addr) s
      = .next (mgmtAnswer (bumpC (recordErr s k n 0x25 (regOff k n o)) .mgmt 0 1) addr
          (2 ^ 32 - 1) 4) := by
  show execMgmtRead addr s = _
  rw [execMgmtRead, fab_on hon]
  simp [ha, hp, serveRead_blocked h]

/-- A management write frame for a blocked register: counted, and UNIT_OFF recorded (R307, R320). -/
theorem mgmtCommit_blocked (h : BlockedRegister s k n o) (ow : Option Nat) {f : List Byte} {op : Nat}
    (hport : forPort s f = true) (hwhole : frameWhole f = true) (hop : frameOp f = op)
    (hcrc : frameCrcOk f = true) (hoff : frameOff f = regOff k n o) :
    mgmtCommit s op ow f
      = recordErr (bumpC (noPointer s) .mgmt 0 0) k n 0x25 (regOff k n o) := by
  have h' : BlockedRegister (bumpC (noPointer s) .mgmt 0 0) k n o := h
  simp [mgmtCommit, hport, hwhole, hop, hcrc, hoff, serveWrite_blocked h']

/-- UNIT_OFF is recorded after a counter of the management port has moved. -/
theorem recordErr_bumpC_unitOff (s : State) (k : PageKind) (n addr : Nat) :
    unitOffRecorded s (recordErr (bumpC (noPointer s) .mgmt 0 0) k n 0x25 addr) k n :=
  unitOffRecorded_congr (rg_bumpC_header (noPointer s) .mgmt k (by decide) (by decide)).symm rfl rfl
    (recordErr_unitOff (bumpC (noPointer s) .mgmt 0 0) k n addr noCrew)

theorem mgmtAnswer_unitOff (s : State) (k : PageKind) (n addr : Nat) (a : Byte) (v st : Nat) :
    unitOffRecorded s (mgmtAnswer (bumpC (recordErr s k n 0x25 addr) .mgmt 0 1) a v st) k n :=
  unitOffRecorded_congr rfl (rg_bumpC_header _ .mgmt k (by decide) (by decide))
    (rg_bumpC_header _ .mgmt k (by decide) (by decide)) (recordErr_unitOff s k n addr noCrew)

end

/-- Settles O58: the page's agent answers before any register does, so every access of a blocked
register is `recordErr` with UNIT_OFF. -/
theorem blockedRegistersReadOnes : Obligations.BlockedRegistersReadOnes := by
  intro s k n o hon hn ho hreg
  refine ⟨pageBlocked_iff_hstatus s k n, pageBlocked_global hon, pageBlocked_of_stage n,
    fun d hd => pageBlocked_of_die hd, pageBlocked_attn_of_reset, fun hhead hplain => ?_,
    fun hblock hoff => ?_⟩
  · refine ⟨_, exec_loLatchRead_pcie hon _, ?_⟩
    rw [pcieRead_pcieOut, serveRead_plain hplain, BitVec.toNat_ofNat,
      Nat.mod_eq_of_lt (regWord_header_lt s k n hhead)]
  have h : BlockedRegister s k n o := ⟨hn, ho, hreg, hblock, hoff⟩
  refine ⟨⟨_, exec_loLatchRead_pcie hon _, pcieRead_blocked h⟩, fun addr ha hp => ?_, fun p v => ?_,
    fun f c hport hwhole hc hcrc hf => ?_⟩
  · exact ⟨_, mgmtRead_blocked hon h ha hp, rfl, mgmtAnswer_unitOff ..⟩
  · refine ⟨_, exec_registerWrite hon p _ v, ?_⟩
    rw [serveWrite_blocked h]
    exact ⟨(recordErr_access ..).2, (recordErr_access ..).1, sameMemories_recordErr ..,
      fun off hblk herr => regGet_recordErr_ne _ _ _ _ _ _ hblk herr, recordErr_unitOff ..⟩
  · have hexec : exec c s
        = .next (recordErr (bumpC (noPointer s) .mgmt 0 0) k n 0x25 (regOff k n o)) := by
      rcases hc with ⟨hop, rfl⟩ | ⟨hop, rfl⟩
      · rw [exec_mgmtWrite hon, mgmtCommit_blocked h _ hport hwhole hop hcrc hf]
      · rw [exec_mgmtTransactionalWrite hon, mgmtCommit_blocked h _ hport hwhole hop hcrc hf]
    refine ⟨_, hexec, recordErr_bumpC_unitOff .., ?_, (recordErr_access ..).2, (recordErr_access ..).1,
      sameMemories_recordErr (bumpC (noPointer s) .mgmt 0 0) .., fun off hblk herr hne => ?_⟩
    · rw [rg, regGet_recordErr_ne _ _ _ _ _ _ (by decide) (by decide), bumpC_regs,
        regGet_regSet_same, satAdd_mod]
      rfl
    · rw [regGet_recordErr_ne _ _ _ _ _ _ hblk herr, bumpC_regs, regGet_regSet_ne _ _ hne]
      rfl

end Sys2Proof.Machine
end

section
/-!
PROOFS. The transaction until its boundary (R312 to R315): O59.
-/
namespace Sys2Proof.Machine
open Sys2Proof

-- The transaction's commands

section
variable {s : State} (h : pageOpen s .xact 0)
include h

/-- An action on an open XACT page reaches XACT.CMD (R312). -/
theorem serveAction_xactCmd (p : Port) (v : Nat) :
    serveAction s p .xact 0 0x040 v = xactCmd s p v := by
  have hp : pageOfOff (regOff .xact 0 0x040) = some (.xact, 0) := by decide
  have hm : regOff .xact 0 0x040 % 4096 = 0x040 := by decide
  have hr : (regFields .xact 0x040).isEmpty = false := by decide
  have hw : accMask .xact 0x040 .wo ≠ 0 := by decide
  simp [serveAction, atPage, serveWo, hp, hm, hr, hw, h.2]

theorem exec_xactAbort (p : Port) (tag : Nat) :
    exec (.xactAbort p tag) s = .next (xactAbort s p (tag % 64)) := by
  have htag : bits (3 + 2 ^ 8 * (tag % 64)) 13 8 = tag % 64 := by simp only [bits]; omega
  have hop : bits (3 + 2 ^ 8 * (tag % 64)) 1 0 = 3 := by simp only [bits]; omega
  show execXactAbort p tag s = _
  simp only [execXactAbort, fab_on h.1, serveAction_xactCmd h, xactCmd, hop, htag]

theorem exec_xactBegin (p : Port) (tag : Nat) :
    exec (.xactBegin p tag) s = .next (xactBegin s p (tag % 64)) := by
  have htag : bits (1 + 2 ^ 8 * (tag % 64)) 13 8 = tag % 64 := by simp only [bits]; omega
  have hop : bits (1 + 2 ^ 8 * (tag % 64)) 1 0 = 1 := by simp only [bits]; omega
  show execXactBegin p tag s = _
  simp only [execXactBegin, fab_on h.1, serveAction_xactCmd h, xactCmd, hop, htag]

end

/-- An answer leaves the transaction and the shadows alone (R312). -/
@[simp] theorem xactAnswer_access (s : State) (p : Port) (code : Nat) :
    (xactAnswer s p code).reg.xact = s.reg.xact ∧
    (xactAnswer s p code).reg.shadows = s.reg.shadows := by
  have result (u : State) : (xactResult u p code).reg.xact = u.reg.xact ∧
      (xactResult u p code).reg.shadows = u.reg.shadows := by
    by_cases hz : code = 0 <;> simp [xactResult, hz]
  unfold xactAnswer
  split <;> simp [result]

/-- A counter of the XACT page is not a RESULT register. -/
theorem rg_bumpC_result (s : State) (p : Port) (j : Nat) :
    rg (bumpC s .xact 0 j) .xact 0 (resultOff p) = rg s .xact 0 (resultOff p) := by
  rw [rg, bumpC_regs]
  refine regGet_regSet_ne _ _ fun e => ?_
  rw [regOff_inj] at e
  cases p <;> simp only [resultOff] at e <;> omega

/-- The RESULT register of the port reads the answer (R316). -/
theorem rg_xactAnswer_result (s : State) (p : Port) {code : Nat} (hc : code < 2 ^ 32) :
    rg (xactAnswer s p code) .xact 0 (resultOff p) = code := by
  have put : rg (rset s .xact 0 (resultOff p) code) .xact 0 (resultOff p) = code := by
    rw [rg_rset_same, Nat.mod_eq_of_lt hc]
  have result : rg (xactResult s p code) .xact 0 (resultOff p) = code := by
    have offs : xactResult s p code = if code = 0 then rset s .xact 0 (resultOff p) code
        else recordErr (rset s .xact 0 (resultOff p) code) .xact 0 code (regOff .xact 0 0x040) := by
      cases p <;> rfl
    rw [offs]
    split
    · exact put
    · rw [rg, regGet_recordErr_ne _ _ _ _ _ _ (by cases p <;> decide) (by cases p <;> decide)]
      exact put
  unfold xactAnswer
  split
  · rw [rg_bumpC_result, result]
  · exact result

-- The boundary keeps the target until the transaction is judged

/-- A register of kind `k` with a heat-swapped write laid over its RWH bits (R310). -/
def liveWord (s : State) (e : Nat × Word) (k : PageKind) : Nat :=
  let mask := accMask k (e.1 % 4096) .rwh
  regGet s.regs e.1 - (regGet s.regs e.1 &&& mask) + (e.2.toNat &&& mask)

/-- All that a heat-swapped write does to the registers: its own register takes the word, or none does. -/
theorem liveOne_regs (s : State) (e : Nat × Word) : (liveOne s e).regs = s.regs ∨
    ∃ k n, pageOfOff e.1 = some (k, n) ∧ (liveOne s e).regs = regSet s.regs e.1 (liveWord s e k) := by
  unfold liveOne
  split
  · exact .inl rfl
  · rename_i k n hp
    have own : regOff k n (e.1 % 4096) = e.1 := regOff_of_pageOfOff hp
    have dies (old : Nat) (l : List Nat) (u : State) :
        (l.foldl (fun s d => if bit old d then s else dieOff s d) u).regs = u.regs :=
      foldl_regs (fun s d => by simp) l u
    by_cases hkeep : (k = .sprint && e.1 % 4096 = 0x040 && awaitsPair s && bit e.2.toNat 0) = true
    · simp only [Bool.and_eq_true, decide_eq_true_eq] at hkeep
      obtain ⟨⟨⟨rfl, ho⟩, haw⟩, hbit⟩ := hkeep
      exact .inl (by simp [ho, haw, hbit])
    · refine .inr ⟨k, n, hp, ?_⟩
      dsimp only
      split
      · split <;> simp [rg, own, liveWord]
      · split
        · split
          · rename_i harm hbit
            exact absurd (by rw [harm, hbit]; rfl) hkeep
          · simp [rg, own, liveWord]
        · split
          · simp [dies, rg, own, liveWord]
          · simp [rg, own, liveWord]

/-- TARGET has no heat-swapped field: a shadow at its place changes nothing. -/
theorem regGet_liveOne_target (s : State) (e : Nat × Word) {o : Nat} (ho : o = 0x044 ∨ o = 0x048) :
    regGet (liveOne s e).regs (regOff .xact 0 o) = regGet s.regs (regOff .xact 0 o) := by
  obtain hsame | ⟨k, n, hp, hset⟩ := liveOne_regs s e
  · rw [hsame]
  by_cases he : regOff .xact 0 o = e.1
  · have hk : pageOfOff e.1 = some (.xact, 0) := by rcases ho with rfl | rfl <;> rw [← he] <;> decide
    have hm : e.1 % 4096 = o := by rcases ho with rfl | rfl <;> rw [← he] <;> decide
    have hmask : accMask .xact o .rwh = 0 := by rcases ho with rfl | rfl <;> decide
    have hlt : regGet s.regs e.1 < 2 ^ 32 := by
      unfold regGet
      split
      · exact BitVec.isLt _
      · rw [hk, hm]
        rcases ho with rfl | rfl <;> decide
    obtain ⟨rfl, rfl⟩ : k = .xact ∧ n = 0 := by simpa [hp] using hk
    rw [hset, he, regGet_regSet_same, liveWord, hm, hmask]
    simpa using Nat.mod_eq_of_lt hlt
  · rw [hset, regGet_regSet_ne _ _ he]

theorem xactTarget_eq {s t : State}
    (h : ∀ o, o = 0x044 ∨ o = 0x048 → regGet t.regs (regOff .xact 0 o) = regGet s.regs (regOff .xact 0 o)) :
    xactTarget t = xactTarget s := by
  simp only [xactTarget, rg, h _ (.inl rfl), h _ (.inr rfl)]

/-- SWAP raised on pages changes their headers only. -/
theorem regGet_swapPages (s : State) (offs : List Nat) {off : Nat} (h : 0x40 ≤ off % 4096) :
    regGet (swapPages s offs).regs off = regGet s.regs off := by
  refine foldl_same (fun s => regGet s.regs off) _ (fun u pg => ?_) _ s
  split
  · rename_i k hk
    rw [raiseSwap, irqRaise_regs]
    refine regGet_regSet_ne _ _ fun e => ?_
    have := regOff_mod k (pg - (pageInfo k).1 / 4096) (show 0x014 < 4096 by decide)
    omega
  · rfl

theorem xactTarget_shadowsLive (s : State) : xactTarget (shadowsLive s) = xactTarget s := by
  refine xactTarget_eq fun o ho => ?_
  rw [shadowsLive, regGet_swapPages _ _ (by rcases ho with rfl | rfl <;> decide)]
  exact foldl_same (fun s => regGet s.regs (regOff .xact 0 o)) _
    (fun u e => regGet_liveOne_target u e ho) _ _

@[simp] theorem shadowsLive_xact (s : State) : (shadowsLive s).reg.xact = s.reg.xact := by
  simp [shadowsLive]

/-- The boundary of the target heat takes a committed transaction to IDLE (R314). -/
theorem transactionLive_idle {s : State} (hc : s.reg.xact.phase = .committed)
    (ht : xactTarget s = s.heat.num) : (transactionLive s).reg.xact.phase = .idle := by
  simp [transactionLive, hc, ht, xactIdle]

theorem settingsAt_idle {s : State} {b : Time} {n : Nat} (hc : s.reg.xact.phase = .committed)
    (ht : xactTarget s = n) : (settingsAt s b n).reg.xact.phase = .idle := by
  have hnum : (heatBegin (keepOld (cfgAt s)) b n).heat.num = n := rfl
  have htgt : xactTarget (heatBegin (keepOld (cfgAt s)) b n) = n := by
    rw [← ht]
    exact xactTarget_eq fun o _ => by simp
  simp only [settingsAt, lengthChange_frame, groupsLive_frame]
  refine transactionLive_idle ?_ ?_
  · simpa using hc
  · rw [xactTarget_shadowsLive, htgt, (shadowsLive_frame _).2.1, hnum]

theorem settingsAt_num (s : State) (b : Time) (n : Nat) : (settingsAt s b n).heat.num = n := by
  simp [settingsAt, heatBegin]

@[simp] theorem judgeDigest_xact (s : State) (h : Nat) (m : DigestMsg) :
    (judgeDigest s h m).reg.xact = s.reg.xact := by
  simp only [judgeDigest, compareDigest, valueMismatch]
  split <;> split <;> simp

@[simp] theorem digestWaited_xact (s : State) : (digestWaited s).reg.xact = s.reg.xact := by
  unfold digestWaited
  dsimp only
  split <;> simp

@[simp] theorem exchangeAt_xact (s : State) (b : Time) : (exchangeAt s b).reg.xact = s.reg.xact := by
  unfold exchangeAt
  split
  · dsimp only
    split <;> simp
  · rfl

/-- The pair's events leave the transaction alone. -/
@[simp] theorem pairEvents_xact (s : State) (gs : List Nat) (b : Time) :
    (pairEvents s gs b).reg.xact = s.reg.xact := by
  simp [pairEvents]

/-- After the settings a boundary touches neither the heat number nor the transaction. -/
theorem boundary_settings (s : State) (b : Time) (n : Nat) :
    (boundary s b n).heat.num = (settingsAt s b n).heat.num ∧
    (boundary s b n).reg.xact = (settingsAt s b n).reg.xact := by
  simp [boundary]

theorem exec_heatBoundary {s : State} (h : fabOn s = true) (ht : s.heat.timeOk = true) :
    exec .heatBoundary s = .next (boundary s s.heat.next (s.heat.num + 1)) := by
  show execHeatBoundary s = _
  rw [execHeatBoundary, fab_on h, if_pos ht]

/-- Settles O59: ABORT and BEGIN by the transaction's commands, and the boundary because nothing before
its judgement of the transaction changes TARGET. -/
theorem committedTransactionsMayBeAborted : Obligations.CommittedTransactionsMayBeAborted := by
  intro s p tag h
  refine ⟨fun hc hown => ?_, fun hc htime ht => ?_, fun hi => ?_, fun hc htag => ?_⟩
  · have hne : ¬ s.reg.xact.phase = .idle := by simp [hc]
    have habort : xactAbort s p (tag % 64) = bumpC (xactAnswer (xactIdle s) p 0) .xact 0 3 := by
      simp [xactAbort, hown, hne]
    refine ⟨_, exec_xactAbort h p tag, ?_⟩
    rw [habort, rg_bumpC_result, rg_xactAnswer_result _ _ (by decide)]
    simp [xactIdle]
  · obtain ⟨hnum, hxact⟩ := boundary_settings s s.heat.next (s.heat.num + 1)
    refine ⟨_, exec_heatBoundary h.1 htime, ?_, ?_⟩
    · rw [hnum, settingsAt_num, ht]
    · rw [hxact, settingsAt_idle hc ht]
  · have habort : ∃ code, xactAbort s p (tag % 64) = xactAnswer s p code := by
      unfold xactAbort
      rw [if_pos hi]
      split <;> exact ⟨_, rfl⟩
    obtain ⟨code, hcode⟩ := habort
    refine ⟨_, exec_xactAbort h p tag, ?_⟩
    rw [hcode]
    simp
  · have hbegin : xactBegin s p (tag % 64) = xactAnswer s p 0x50 := by
      simp [xactBegin, htag, hc]
    refine ⟨_, exec_xactBegin h p tag, ?_⟩
    rw [hbegin, rg_xactAnswer_result _ _ (by decide)]
    simp

end Sys2Proof.Machine
end

section
/-!
PROOFS. The slack window of R427: its length, when SLACK_WINDOW_OPEN opens it, and that it is closed
once the hold window is open.
-/
namespace Sys2Proof.Machine
open Sys2Proof

-- The length of the slack window

theorem slackLen_le_sixteenth (s : State) : slackLen s ≤ heatLen s / 16 :=
  (Nat.min_le_left _ _).trans (Nat.div_mul_le_self _ _)

theorem slackLen_le_max (s : State) : slackLen s ≤ 256000 := Nat.min_le_right _ _

theorem slackLen_mod (s : State) : slackLen s % 32 = 0 := by
  rcases min_choice (heatLen s / 16 / 32 * 32) 256000 with h | h
  · rw [slackLen, h, Nat.mul_mod_left]
  · rw [slackLen, h]

/-- Below its maximum the length loses less than 8 ns by rounding down. -/
theorem sixteenth_lt_slackLen {s : State} (h : slackLen s < 256000) :
    heatLen s / 16 < slackLen s + 32 := by
  have hround : slackLen s = heatLen s / 16 / 32 * 32 :=
    (min_choice _ 256000).resolve_right h.ne
  rw [hround]
  exact Nat.lt_div_mul_add (by decide)

/-- From 1.024 ms upward the length is 64 µs. -/
theorem slackLen_eq_max {s : State} (h : 4096000 ≤ heatLen s) : slackLen s = 256000 := by
  have hround : 4096000 / 16 / 32 * 32 ≤ heatLen s / 16 / 32 * 32 :=
    Nat.mul_le_mul_right 32 (Nat.div_le_div_right (Nat.div_le_div_right h))
  exact Nat.min_eq_right hround

-- The opening of the slack window

/-- SLACK_WINDOW_OPEN at `t` finds the slack window: from its opening until the hold window opens. -/
def inSlackWindow (s : State) (t : Time) : Prop :=
  s.heat.next ≤ t + 800 + slackLen s ∧ t + 800 < s.heat.next

/-- The state with the slack window opened at `t`. -/
def slackOpened (s : State) (t : Time) : State :=
  { s with now := max s.now t, back := { s.back with slack := true } }

theorem slackOn_slackOpened {s : State} (ht : s.heat.timeOk = true) (hh : s.heat.hold = false)
    (t : Time) : slackOn (slackOpened s t) = true := by
  simp [slackOn, slackOpened, ht, hh]

theorem exec_slackWindowOpen_inside {s : State} (hf : fabOn s = true) (ht : s.heat.timeOk = true)
    (hh : s.heat.hold = false) {t : Time} (h : inSlackWindow s t) :
    exec (.slackWindowOpen t) s = .next (slackOpened s t) := by
  obtain ⟨hopen, hhold⟩ := h
  show execSlackWindowOpen t s = _
  rw [execSlackWindowOpen, fab_on hf, if_pos (by simp [ht, hh, hopen, hhold])]
  rfl

theorem exec_slackWindowOpen_outside {s : State} (hf : fabOn s = true) {t : Time}
    (h : ¬ inSlackWindow s t) : exec (.slackWindowOpen t) s = .next s := by
  show execSlackWindowOpen t s = _
  rw [execSlackWindowOpen, fab_on hf, if_neg]
  intro hc
  simp only [Bool.and_eq_true, decide_eq_true_eq] at hc
  obtain ⟨⟨_, hopen⟩, hhold⟩ := hc
  exact h ⟨hopen, hhold⟩

-- Its end

theorem slackOn_of_hold {s : State} (h : s.heat.hold = true) : slackOn s = false := by
  simp [slackOn, h]

/-- HOLD_WINDOW_OPEN opens the hold window, whether or not the sets freeze. -/
theorem exec_holdWindowOpen_hold {s : State} (hf : fabOn s = true) (ht : s.heat.timeOk = true)
    (hh : s.heat.hold = false) : ∃ u, exec .holdWindowOpen s = .next u ∧ u.heat.hold = true := by
  refine ⟨_, fab_on hf _, ?_⟩
  dsimp only
  rw [if_pos (by simp [ht, hh])]
  split <;> rfl

/-- Settles O60: the length is arithmetic on the heat length; SLACK_WINDOW_OPEN acts inside the window
only, and an open hold window means no slack window. -/
theorem slackWindowEndsAtTheHoldWindow : Obligations.SlackWindowEndsAtTheHoldWindow := by
  intro s
  refine ⟨⟨slackLen_le_sixteenth s, slackLen_mod s, slackLen_le_max s, sixteenth_lt_slackLen⟩,
    fun h => ?_, fun h => ?_, slackLen_eq_max, fun hf ht hh => ⟨fun t ho hb => ?_, fun t hb => ?_,
    fun t hb => ?_, ?_⟩⟩
  · rw [slackLen, h]; rfl
  · rw [slackLen, h]; rfl
  · exact ⟨_, exec_slackWindowOpen_inside hf ht hh ⟨ho, hb⟩, slackOn_slackOpened ht hh t, rfl⟩
  · exact exec_slackWindowOpen_outside hf fun ⟨ho, _⟩ => Nat.not_lt.2 ho hb
  · exact exec_slackWindowOpen_outside hf fun ⟨_, hn⟩ => Nat.not_lt.2 hb hn
  · obtain ⟨u, hu, hhold⟩ := exec_holdWindowOpen_hold hf ht hh
    exact ⟨u, hu, slackOn_of_hold hhold⟩

end Sys2Proof.Machine
end
